-- ==== Sys2Proof/Word.lean ====
section
/-! DEFINITION. The words of the package: 64-bit registers (R31), bytes, 64-byte lines, and counts. -/

namespace Sys2Proof

/-- A 64-bit register word (R31). -/
abbrev Word := BitVec 64

/-- One byte of memory. -/
abbrev Byte := BitVec 8

/-- A value of the sidereal time base, in ticks of 0.25 ns (R85). -/
abbrev Stamp := Nat

end Sys2Proof
end

