-- ==== Sys2Proof/Machine/Maps.lean ====
section
/-! DEFINITION. The plain data the state is made of: finite maps as sorted association lists, and bit fields. -/

namespace Sys2Proof.Machine

/-- A finite map as a list of keys and values; `putBy` keeps it sorted by its order. -/
abbrev FMap (κ α : Type) := List (κ × α)

/-- A map from unit numbers. -/
abbrev NMap (α : Type) := List (Nat × α)

/-- The value listed at a key. -/
def lookupKey {κ α : Type} [DecidableEq κ] (k : κ) : FMap κ α → Option α
  | [] => none
  | (k', v) :: r => if k = k' then some v else lookupKey k r

/-- Lists `v` at `k`, in the place the order `lt` gives it. -/
def putBy {κ α : Type} [DecidableEq κ] (lt : κ → κ → Bool) (k : κ) (v : α) : FMap κ α → FMap κ α
  | [] => [(k, v)]
  | (k', v') :: r =>
    if k = k' then (k, v) :: r
    else if lt k k' then (k, v) :: (k', v') :: r
    else (k', v') :: putBy lt k v r

/-- Takes a key off the list. -/
def dropKey {κ α : Type} [DecidableEq κ] (k : κ) : FMap κ α → FMap κ α
  | [] => []
  | (k', v) :: r => if k = k' then dropKey k r else (k', v) :: dropKey k r

/-- The map is sorted: keys strictly rise by `lt`. -/
def sortedBy {κ α : Type} (lt : κ → κ → Bool) : FMap κ α → Bool
  | [] => true
  | [_] => true
  | (a, _) :: (b, v) :: r => lt a b && sortedBy lt ((b, v) :: r)

/-- The value at a unit number, or `d` where none is listed. -/
def nget {α : Type} (m : NMap α) (k : Nat) (d : α) : α := (lookupKey k m).getD d

/-- Sets the value at a unit number. -/
def nput {α : Type} (m : NMap α) (k : Nat) (v : α) : NMap α := putBy (fun a b => decide (a < b)) k v m

/-- Sets the value at a unit number, listing nothing where it is the default `d`. -/
def nputd {α : Type} [DecidableEq α] (m : NMap α) (k : Nat) (v d : α) : NMap α :=
  if v = d then dropKey k m else nput m k v

/-- Adds to a count kept per unit. -/
def nadd (m : NMap Nat) (k n : Nat) : NMap Nat := nputd m k (nget m k 0 + n) 0

/-- Takes from a count kept per unit, down to 0. -/
def nsub (m : NMap Nat) (k n : Nat) : NMap Nat := nputd m k (nget m k 0 - n) 0

/-- `w` bits of a number from bit `lo` up. -/
def bitsOf (x lo w : Nat) : Nat := x / 2 ^ lo % 2 ^ w

/-- Whether bit `i` of a number is 1. -/
def bitOf (x i : Nat) : Bool := x.testBit i

/-- `w` bits of a register word from bit `lo` up. -/
def wbits (x : Word) (lo w : Nat) : Nat := (x.toNat >>> lo) % 2 ^ w

/-- The `w` ones from bit `lo` up. -/
def maskAt (lo w : Nat) : Word := BitVec.ofNat 64 ((2 ^ w - 1) <<< lo)

/-- A register word with the field of `w` bits at `lo` set to `v`. -/
def wset (x : Word) (lo w v : Nat) : Word :=
  (x &&& ~~~ maskAt lo w) ||| BitVec.ofNat 64 ((v % 2 ^ w) <<< lo)

/-- 1 for true, 0 for false: the value of a flag bit. -/
def flag (b : Bool) : Nat := if b then 1 else 0

/-- Sets bit `i` of a number. -/
def withBit (x i : Nat) : Nat := x ||| 2 ^ i

/-- Clears bit `i` of a number. -/
def withoutBit (x i : Nat) : Nat := if x.testBit i then x - 2 ^ i else x

/-- The bits of a number below `n` that are 1, in ascending order. -/
def onesBelow (x n : Nat) : List Nat := (List.range n).filter (fun i => x.testBit i)

/-- How many of the bits of a number below `n` are 1. -/
def popBelow (x n : Nat) : Nat := (onesBelow x n).length

/-- The number that little-endian bytes spell. -/
def leNat : List Byte → Nat
  | [] => 0
  | b :: r => b.toNat + 256 * leNat r

/-- A number as `n` little-endian bytes. -/
def leBytes : Nat → Nat → List Byte
  | 0, _ => []
  | n + 1, x => BitVec.ofNat 8 (x % 256) :: leBytes n (x / 256)

/-- `n` little-endian bytes of a list from offset `o`, as a number; bytes beyond its end read 0. -/
def leAt (bs : List Byte) (o n : Nat) : Nat := leNat ((bs.drop o).take n)

/-- Division rounded up. -/
def ceilDiv (a b : Nat) : Nat := (a + b - 1) / b

end Sys2Proof.Machine
end

