-- ==== Sys2Proof/Machine/Types.lean ====
section
/-! DEFINITION. The records that commands and the state are made of. -/

namespace Sys2Proof.Machine

/-- The path by which an access to a mailbox window or a register arrives (R42, R43): a core with its world, an
endpoint port's physical function, or the sideband. -/
inductive Via where
  | core (hart : Nat) (secure : Bool)
  | endpoint (port : Nat)
  | sideband
deriving DecidableEq, Repr

/-- A collector of R357: the chip's, a region's, a block's or a cell's. Level 16 is the chip, 0 to 15 the regions. -/
inductive Coll where
  | chip
  | region (r : Nat)
  | block (l b : Nat)
  | cell (l b k : Nat)
deriving DecidableEq, Repr

/-- One event of a source (R357): the collector and the bit, the element of R366 where the source has element buckets,
the address concerned, the record's DETAIL bytes (R363), the action the source's unit took (R445), and the unit a NOTE
of R447 concerns. -/
structure FaultEvt where
  coll : Coll
  bit : Nat
  elem : Option Nat := none
  addr : Nat := 0
  detail : List Byte := []
  action : Nat := 0
  unit : Option Nat := none
deriving DecidableEq, Repr

/-! ### Mailboxes -/

/-- A command entry as the doorbell's snapshot holds it (R47): its 256 bytes, the doorbell's stamp, and the ticks by which
keeper restarts have extended its bound (R39). -/
structure CmdEntry where
  bytes : List Byte
  stamp : Stamp
  ext : Nat
deriving DecidableEq, Repr

/-- The end of a command: its status, DETAIL and result bytes (R55). -/
structure Final where
  status : Nat
  detail : Nat
  result : List Byte
deriving DecidableEq, Repr

/-- A command the keeper has taken and not yet completed (R49 to R51): its place in the order of taking, its header and
payload, the doorbell's stamp, the stamp of its bound, whether it got ST_PENDING, whether its effect has been started, the
maintenance activity it started, its end once it is known, whether the final completion is due, whether a mailbox reset has
discarded it (R52), and for a booking command BOOKABLE and DERATED of every resource in the keeper tick in which it was taken (R107) and
the stamp at which it was (R120). -/
structure Taken where
  id : Nat
  opcode : Nat
  seq : Nat
  token : Nat
  payload : List Byte
  stamp : Stamp
  bound : Stamp
  pended : Bool
  ran : Bool
  maint : Option Nat
  final : Option Final
  due : Bool
  discard : Bool
  caps : List (Nat × Nat)
  took : Option Stamp := none
deriving DecidableEq, Repr

/-- A completion entry (R55). -/
structure Cmp where
  opcode : Nat
  seq : Nat
  status : Nat
  last : Bool
  detail : Nat
  token : Nat
  result : List Byte
deriving DecidableEq, Repr

/-- An event entry (R56). -/
structure Evt where
  code : Nat
  seq : Nat
  stamp : Stamp
  payload : List Byte
deriving DecidableEq, Repr

/-- What of a mailbox its registers do not hold: the command ring's bytes, the snapshots waiting to be taken, the
commands taken, the completion and event entries, the event count and a reset in progress (R41, R47 to R56). -/
structure Mailbox where
  ring : NMap Byte
  waiting : List CmdEntry
  taken : List Taken
  cmps : NMap Cmp
  evts : NMap Evt
  evtSeq : Nat
  resetting : Bool
deriving DecidableEq, Repr

/-- Who may be told of an event (R53, R80): the owner it is limited to (secure mailboxes too, unless it is for the owner `only`,
R84), the endpoint port its source belongs to, whether its source is a unit of the package, and whether that unit is
secure-assigned. -/
structure EvScope where
  owner : Option Nat := none
  port : Option Nat := none
  unit : Bool := false
  secure : Bool := false
  only : Bool := false
deriving DecidableEq, Repr

/-- An event raised while the keeper restarts, written when it runs again (R39, R53). -/
structure HeldEvt where
  code : Nat
  stamp : Stamp
  payload : List Byte
  scope : EvScope
deriving DecidableEq, Repr

/-! ### Faults and maintenance -/

/-- An element bucket of R366. -/
structure ElemBucket where
  coll : Coll
  bit : Nat
  elem : Nat
  level : Nat
  start : Stamp
  last : Stamp
  permanent : Bool
deriving DecidableEq, Repr

/-- A record the keeper has yet to write (R364): the event it records, its stamp, severity and verdict, the bucket's
level and threshold, the events merged into it, and whether it takes no further ones: a verdict's record, and a NOTE record that the
keeper makes. -/
structure PendRec where
  evt : FaultEvt
  stamp : Stamp
  sev : Nat
  verdict : Nat
  action : Nat
  level : Nat
  thr : Nat
  count : Nat
  rflags : Nat
  alone : Bool
deriving DecidableEq, Repr

/-- A fault record (R363). -/
structure FaultRec where
  seq : Nat
  stamp : Stamp
  unit : Nat
  bit : Nat
  sev : Nat
  verdict : Nat
  action : Nat
  level : Nat
  thr : Nat
  count : Nat
  rflags : Nat
  elem : Nat
  addr : Nat
  detail : List Byte
deriving DecidableEq, Repr

/-- A permanent verdict whose action of R367 is to be started. -/
structure Verdict where
  coll : Coll
  bit : Nat
  elem : Option Nat
  addr : Nat
  stamp : Stamp
deriving DecidableEq, Repr

/-- Who starts a maintenance activity (R70, R375). -/
inductive Starter where
  | mailbox (m : Nat)
  | keeper
  | silicon
deriving DecidableEq, Repr

/-- A maintenance activity (R70, R371 to R376). Code 0x0C is the unit retire of R371. `pair` is CHAN_B of a mirroring copy,
and 1 for the retirement of a course; `past` says that the point of no return has been passed; `pausers` are the activities
it is paused for; `force` and
`restore` are those of the command that started it; `cmd` is the command that awaits its end, by mailbox and place in the
order of taking; `asked` is the doorbell stamp of that command (R106); `site` is the index and opcode of the site record that does (R84). -/
structure Activity where
  id : Nat
  code : Nat
  unit : Nat
  param : Nat
  pair : Nat
  state : Nat
  result : Nat
  start : Stamp
  stop : Stamp
  starter : Starter
  past : Bool
  pausers : List Nat
  force : Bool
  restore : Bool
  cmd : Option (Nat × Nat)
  asked : Stamp
  site : Option (Nat × Nat)
deriving DecidableEq, Repr

/-! ### The Almanac -/

/-- A booking (R115) with its times: `unbookFrame` is the frame whose meridian takes an UNBOOK into effect (0 if none),
`leave` the stamp before which ops of its tag were admitted (R120, R132), `told` whether the owner has been told of a
revocation (R66). -/
structure Booking where
  id : Nat
  kind : Nat
  tag : Nat
  prec : Nat
  node : Nat
  source : Nat
  group : Nat
  owner : Nat
  readU : Nat
  writeU : Nat
  amount : Nat
  effFrame : Nat
  revoked : Stamp
  honourEnd : Stamp
  honoured : Bool
  unbookFrame : Nat
  leave : Stamp
  withdrawn : Bool
  told : Bool
deriving DecidableEq, Repr

/-- A share of a booking on a core (R118). -/
structure Share where
  booking : Nat
  tag : Nat
  core : Nat
  amount : Nat
deriving DecidableEq, Repr

/-- A part of a share that moved off a core and is honoured there until a meridian (R118). -/
structure OldShare where
  tag : Nat
  core : Nat
  amount : Nat
  leave : Stamp
deriving DecidableEq, Repr

/-- A trigger of R128: its stamp, the ALM_CAP entries it affects, whether it is upward, and the unit that caused it. -/
structure Trigger where
  stamp : Stamp
  res : List Nat
  upward : Bool
  unit : Nat
deriving DecidableEq, Repr

/-! ### Service ops -/

/-- A service class (R67). -/
structure SvcClass where
  urgency : Nat
  tag : Nat
  cflags : Nat
  budget : Nat
  maxDeadline : Nat
  jrecMax : Nat
  owner : Nat
deriving DecidableEq, Repr

/-- A service group (R67): its cores in ascending order. -/
structure SvcGroup where
  cores : List Nat
  owner : Nat
deriving DecidableEq, Repr

/-- A service channel (R67, R137) with the doorbell values its registers cannot be read for (R138). `stopped` is 1 while
the engine has stopped fetching from it (R354); `ended` once a refused access has ended its service (R320). -/
structure Channel where
  cls : Nat
  grp : Nat
  srcKind : Nat
  port : Nat
  fn : Nat
  sqBase : Nat
  cqBase : Nat
  sqLog2 : Nat
  cqLog2 : Nat
  vector : Nat
  sqTail : Nat
  cqHead : Nat
  owner : Nat
  stopped : Bool
  ended : Bool
deriving DecidableEq, Repr

/-- A descriptor that an engine holds (R144): its channel, its submission-queue index, its bytes once they have arrived,
its intake stamp, whether it waits for the admission decision, and the cap of its op's urgency at the intake stamp (R330). -/
structure Desc where
  engine : Nat
  ch : Nat
  sqHead : Nat
  bytes : List Byte
  t0 : Stamp
  waiting : Bool
  cap : Nat := 3
deriving DecidableEq, Repr

/-- The states of R152. -/
inductive OpState where
  | queued | running | comparing | answered | aborted
deriving DecidableEq, Repr

/-- An entry of the op table (R151, R152). `part` is 0 for an only or first half, 1 for a second half, 2 for a third-core
retry; `mate` is the entry of the first half for the other parts; `core` is the core it is placed on (none for the
best-effort queue and while it awaits re-dispatch); `units` the journal units reserved for it and `used` those its records
occupy; `decided` whether its answer is decided and not yet issued (R142); `left` the core that a re-dispatched part leaves (R159);
`owner` the port and function of an aborted-op record (R151). -/
structure Op where
  id : Nat
  part : Nat
  mate : Option Nat
  ch : Nat
  engine : Nat
  cls : Nat
  grp : Nat
  tag : Nat
  urgency : Nat
  t0 : Stamp
  admitted : Stamp
  deadline : Stamp
  budget : Nat
  attempt : Nat
  state : OpState
  core : Option Nat
  dispatched : Stamp
  result : Nat
  units : Nat
  used : Nat
  sqHead : Nat
  redisp : Bool
  bytes : List Byte
  decided : Bool := false
  left : Option Nat := none
  owner : Option (Nat × Nat) := none
deriving DecidableEq, Repr

/-- An answer that has been decided and not yet issued (R142). `ops` are the entries it frees; `keep` is
the entry whose records become confirmed (R165); `cap` is the cap of the urgency at the intake stamp. -/
structure Answer where
  engine : Nat
  ch : Nat
  cookie : Nat
  status : Nat
  cflags : Nat
  sqHead : Nat
  opInfo : Nat
  jseq : Nat
  result : Nat
  t0 : Stamp
  decided : Stamp
  ops : List Nat
  keep : Option Nat
  cap : Nat := 3
deriving DecidableEq, Repr

/-- What the dispatcher keeps for a core beside DSP_CORE (R154 to R158): the stamps of the dispatch and of the answer,
the status given, a TNEXT that waits (register, buffer, end), a JCOMMIT that waits for a mirror
acknowledgement (register, journal, sequence number, end), and the op whose descriptor is being written into the buffer of the TNEXT. -/
structure CoreRun where
  dispatched : Stamp
  budget : Nat
  answer : Option (Nat × Stamp)
  tnext : Option (Nat × Nat × Stamp)
  jcommit : Option (Nat × Nat × Nat × Stamp)
  issued : Stamp
  offer : Option Nat
deriving DecidableEq, Repr

/-- A journal record in the store (R162, R164). `confirmed`, `void`, `ack` and `lost` are its JFLAGS;
`closed` says that its op is answered, `restored` that a restore brought it back, which leaves it without a tag
(R411); `raw` is the whole record of a mirror slot (R306), else empty. -/
structure JRec where
  journal : Nat
  seq : Nat
  body : List Byte
  stamp : Stamp
  op : Nat
  tag : Nat
  attempt : Nat
  confirmed : Bool
  void : Bool
  ack : Bool
  lost : Bool
  mirrored : Bool
  closed : Bool
  restored : Bool := false
  raw : List Byte := []
deriving DecidableEq, Repr

/-- A block that a drain channel has written or is filling (R167): its LBA, its records, the stamp of its first record,
the stamp of its command, failures so far, and whether it completed. -/
structure DrainBlock where
  lba : Nat
  journal : Nat
  seqs : List Nat
  first : Stamp
  issued : Stamp
  fails : Nat
  done : Bool
deriving DecidableEq, Repr

/-- A drain channel's progress (R167, R168): how many blocks it has written, the blocks not yet freed, oldest first, and its places in
the submission and completion queues. -/
structure DrainState where
  next : Nat
  blocks : List DrainBlock
  tail : Nat := 0
  head : Nat := 0
deriving DecidableEq, Repr

/-! ### Harts -/

/-- What a hart holds beside its registers and CSRs (R170): the program counter, the privilege mode (0 U, 1 S or HS, 3 M),
the virtualisation bit, the line it has reserved (LR/SC), x2, x3 and x4 of an open gate frame (R322), whether it has been
released at start, whether it waits in WFI (R380), a debug halt taken or pending (R329), whether it waits in WRS.NTO (R170), whether it is
single-stepped (R329: 1 its instruction is to come, 2 it has executed), and the stamp at which its arbitration hint was last set (R178). -/
structure Hart where
  pc : Word
  priv : Nat
  virt : Bool
  resv : Option Nat
  saved : List Word
  released : Bool
  waiting : Bool
  halted : Bool
  haltPend : Bool
  stalled : Bool := false
  step : Nat := 0
  hint : Option Stamp := none
deriving DecidableEq, Repr

/-! ### Memory and coherence -/

/-- A packet (R245). `data` is its data unit, empty where it has none. Beside the header: `pkg` is the package of the requester that it
concerns, where that is another one (R296), and `issued` the issue stamp of the request that it is or is caused by, once that has passed its
metering point (R124). -/
structure Pkt where
  cls : Nat
  op : Nat
  txn : Nat
  dest : Nat
  src : Nat
  line : Nat
  tag : Nat := 0
  urgency : Nat := 0
  standing : Bool := false
  world : Bool := false
  circuits : Nat := 0
  pinned : Bool := false
  poison : Bool := false
  operand : Nat := 0
  data : List Byte := []
  pkg : Option Nat := none
  issued : Option Stamp := none
deriving DecidableEq, Repr

/-- Where a packet in flight is: in an injection queue of a stop; riding a ring in the slot of a direction and lane that was at a stop; in
an ejection buffer, with the direction it came in; or in the receive buffer of a course (brick, course, direction). Rings 0 to 15 are the
regions', 16 is the spine. -/
inductive Place where
  | waiting (ring stop : Nat)
  | riding (ring stop dir lane : Nat)
  | ejected (ring stop dir : Nat)
  | received (b c d : Nat)
deriving DecidableEq, Repr

/-- What a forwarded packet keeps while it crosses the keystone's rings to the cell of the link it leaves by (R293): that link, the package it
is for, that of its SRC, its virtual channel, and its own DEST. -/
structure Forwarded where
  link : Nat
  pkg : Nat
  src : Nat
  vc : Nat
  dest : Nat
deriving DecidableEq, Repr

/-- A packet in flight with its place, the stamp of its ring at which it was there (R103), the region it set out from, and the bits of its
data words and their check bits that have flipped on its way (R249); `via` is what a packet has that is only forwarded (R293). -/
structure Flight where
  pkt : Pkt
  place : Place
  since : Stamp
  origin : Nat := 0
  flips : List Nat := []
  via : Option Forwarded := none
deriving DecidableEq, Repr

/-- An entry of a memory controller's queue (R125): the queue (a DDR5 channel, or 16 + the stack), whether it is one of those reserved for
booked standing, and the request that holds it. -/
structure QEntry where
  queue : Nat
  reserved : Bool
  pkt : Pkt
deriving DecidableEq, Repr

/-- The MOESI states a line is held in (R255); a line in I is not listed. -/
inductive Moesi where
  | m | o | e | s
deriving DecidableEq, Repr

/-- A line of a block cache (R179, R180, R255, R317): its way, its state, its data, whether it is poisoned, the world it
was granted in, the cores whose L1I (bits 3:0) and L1D (bits 7:4) hold it, the stamp of a fill whose access has not been
performed (R263), whether it waits in the writeback buffer (R264), and whether a snoop has left nothing of it there. -/
structure CLine where
  way : Nat
  st : Moesi
  data : List Byte
  poison : Bool
  world : Bool
  l1 : Nat
  fill : Option Stamp
  wb : Bool
  gone : Bool := false
deriving DecidableEq, Repr

/-- A snoop filter entry, or one of a remote directory (R259, R297): tag, presence, owner, the second copy of tag and presence, and the
SECDED bits over them. -/
structure SfEntry where
  tag : Nat
  presence : Nat
  owner : Option (Nat × Nat)
  copy : Nat × Nat := (0, 0)
  ecc : Nat := 0
deriving DecidableEq, Repr

/-- R239: a claim on a direction of a ring: the stop that asserts it, the ring cycle of that, and the cycle in which it was dropped. -/
structure Claim where
  stop : Nat
  since : Nat
  drop : Option Nat
deriving DecidableEq, Repr

/-- A set of a snoop filter (R258): its ways and the tree pseudo-LRU bits of ways 0 to 7. -/
structure SfSet where
  ways : NMap SfEntry
  plru : Nat
deriving DecidableEq, Repr

/-- An open transaction of a home slice (R257, R260). `sums` are the bricks (12 up: the members of the group) whose SNOOP_SUM is
awaited, `answers` what they have answered so far (R248), `lost` whether one of them can no longer be reached (R267); `had` and `own`
are the presence and the owner that the entries show; `dirty` is dirty data received from a snooped holder; `asked` says that the
data has been asked of the memory or of the exporter, `mem` that the slice awaits it, `reply` what the exporter has sent, `rgrant` the
operand of its GRANT; `wr` that MC_DONE is awaited, `last` that the request's own write has been issued, `served` that data is on its
way to the requester, `granted` that GRANT has been sent; `victim` marks a back-invalidation, `parked` that the request still waits
for an entry, `way8` that its entry is the reserved way (R265). -/
structure Txn where
  slice : Nat
  line : Nat
  req : Pkt
  start : Stamp
  sums : List Nat := []
  answers : Nat := 0
  lost : Bool := false
  had : Nat := 0
  own : Option (Nat × Nat) := none
  dirty : Option (List Byte × Bool) := none
  started : Bool := false
  asked : Bool := false
  mem : Bool := false
  reply : Option (List Byte × Bool) := none
  rgrant : Option Nat := none
  wr : Bool := false
  last : Bool := false
  served : Bool := false
  granted : Bool := false
  victim : Bool := false
  parked : Bool := false
  way8 : Bool := false
deriving DecidableEq, Repr

/-- A combining entry of a course stop (R261): the snoop, the blocks still to answer, and the answers so far. -/
structure Combine where
  brick : Nat
  snoop : Pkt
  blocks : List Nat
  answers : Nat
deriving DecidableEq, Repr

/-- The instructions of SFENCE_VMA (R207, R208): SFENCE.VMA, HFENCE.VVMA and HFENCE.GVMA. The Svinval forms count with the fence
they belong to. FENCE.I (R180) is among them. -/
inductive FenceKind where
  | vma | vvma | gvma | i
deriving DecidableEq, Repr

/-- What a translation is made for. -/
inductive Want where
  | fetch | load | store
deriving DecidableEq, Repr

/-- The kinds of a core's access (R28, R170, R216); `tnext` is the write of a descriptor into the buffer of a TNEXT and `jbody` the read of
the body of a JCOMMIT (R174). -/
inductive AccKind where
  | load | store | fetch | amo (fn : Nat) | lr | sc | cboZero | cboClean | cboFlush | cboInval | tnext | jbody
deriving DecidableEq, Repr

/-- The register file an access loads into. -/
inductive Dst where
  | x | f | v
deriving DecidableEq, Repr

/-- An access of a hart: its kind, virtual address, bytes, the register it writes and its file, the bytes it stores, whether a loaded
value is sign-extended, the length of the instruction, and the size of a vector access's elements. -/
structure Access where
  kind : AccKind
  vaddr : Word
  size : Nat
  rd : Nat := 0
  data : List Byte := []
  signed : Bool := false
  ilen : Nat := 4
  dst : Dst := .x
  esize : Nat := 1
deriving DecidableEq, Repr

/-- An access a core has issued and not yet performed: the physical address and memory type (0 PMA, 1 NC, 2 IO, 3 Device) of the part
that waits, the request it has made with its line and transaction ID, the operand of its GRANT and the data that have arrived, the
bytes of the parts already done. -/
structure Miss where
  acc : Access
  paddr : Nat
  pbmt : Nat
  op : Nat
  txn : Nat
  line : Nat
  granted : Option Nat
  filled : Option (List Byte × Bool)
  got : List Byte
deriving DecidableEq, Repr

/-- The translation caches of a core that hold leaves (R200). -/
inductive TlbCache where
  | itlb | dtlb | l2
deriving DecidableEq, Repr

/-- An entry of a hart's translation caches (R200): page base, page size in bytes (log2), root address space, physical base, leaf
bits, memory type, and the world of the walk (R317). `asid` and `vmid` are those in force; `virt` the V bit; `gpage` the
guest-physical page of a two-stage translation; `vlog2` and `glog2` the sizes of the leaves of its two stages; `cache` the cache that
holds it. -/
structure TlbEntry where
  hart : Nat
  vbase : Nat
  log2 : Nat
  asid : Nat
  vmid : Nat
  virt : Bool
  global : Bool
  pbase : Nat
  perms : Nat
  gperms : Nat
  pbmt : Nat
  world : Bool
  gpage : Nat
  g : Bool
  vlog2 : Nat
  glog2 : Nat
  cache : TlbCache := .l2
deriving DecidableEq, Repr

/-- An entry of a paging-structure cache (R200): the hart, the stage (0 single, 1 VS, 2 G), its level, the address bits above that level,
the ASID, VMID, world and global bit, and the page number of the table that it points to. -/
structure Ptr where
  hart : Nat
  stage : Nat
  level : Nat
  top : Nat
  asid : Nat
  vmid : Nat
  world : Bool
  global : Bool
  next : Nat
deriving DecidableEq, Repr

/-- What a walk needs of the block cache before it can go on (R199, R205, R212): the entry's address, whether it must be owned to be
swapped, the entry as it was read and the one to be written, the zeroed frame of a first touch with its pool, and what names the entry
in a fault: its level, stage, guest-physical address and pseudoinstruction. -/
structure Need where
  addr : Nat
  own : Bool
  level : Nat
  stage : Nat
  gpa : Nat
  tinst : Nat
  swap : Option (Nat × Nat) := none
  frame : Option (Nat × Nat) := none
deriving DecidableEq, Repr

/-- A walk in flight (R199): the hart, the address and access it is for, whether it is the walker's own (TABLE_WALK) or that of an access
that waits, what it needs, the request it has made (0 while it waits for the line) with its transaction ID, and the answers that have
arrived. -/
structure Walk where
  hart : Nat
  va : Nat
  want : Want
  own : Bool
  need : Need
  op : Nat := 0
  txn : Nat := 0
  granted : Option Nat := none
  filled : Option (List Byte × Bool) := none
deriving DecidableEq, Repr

/-- A range granted to a pool (R214): its next frame and its end. -/
structure PoolRange where
  next : Nat
  stop : Nat
deriving DecidableEq, Repr

/-- A first-touch pool beside its registers (R214). -/
structure Pool where
  ranges : List PoolRange
  returned : List Nat
deriving DecidableEq, Repr

/-- A line of an intake engine's cache (R184): tag, valid and dirty sectors, and its way. The list of a set is in LRU order, the
most recently used first. -/
structure EngLine where
  tag : Nat
  valid : Nat
  dirty : Nat
  way : Nat := 0
deriving DecidableEq, Repr

/-- An access an engine's cache holds (R185 to R188): address, whether it stores, bytes, the data of a store, and the op that the engine
acts for, if it does (R109). -/
structure EngAcc where
  addr : Nat
  store : Bool
  size : Nat
  data : List Byte
  op : Option Nat := none
deriving DecidableEq, Repr

/-- An engine's cache (R184 to R187): its sets, its dirty data, the miss outstanding, the writeback it waits for, and the
accesses that wait in program order. -/
structure EngCache where
  sets : NMap (List EngLine)
  bytes : NMap Byte
  miss : Option EngAcc
  victim : Option (Nat × EngLine)
  waits : List EngAcc
deriving DecidableEq, Repr

/-- The tenure of an arbitrated port (R250 to R253): its holder, whether it is of best-effort standing, the ring cycle of its decision, its
limit in beats, the beats sent, the ring cycle of the last with the packets sent in it, the flagged sources, the revoked sources with the
beats each has yet to send, and the round-robin pointer. -/
structure Tenure where
  holder : Option Nat
  effort : Bool
  decided : Nat
  limit : Nat
  beats : Nat
  beatAt : Nat
  inBeat : Nat
  flagged : List Nat
  revoked : List (Nat × Nat)
  turn : Nat
deriving DecidableEq, Repr

/-- A request at an arbitrated port (R250, R251): its source, the class, standing and urgency of its packet, whether it is a hint, and
whether the hinted source has something to send at its first beat. -/
structure ArbReq where
  source : Nat
  cls : Nat
  standing : Bool
  urgency : Nat
  hint : Bool := false
  ready : Bool := true
deriving DecidableEq, Repr

/-- R251: a hint whose source turns out to be one of `idle`, which have nothing to send at their first beat. -/
def ArbReq.lapse (idle : List Nat) (r : ArbReq) : ArbReq := { r with ready := r.ready && !idle.contains r.source }

/-- The bits of a packet that are flipped on its way (R249): of its header, as a mask, and of each 8-byte word of its data unit with its
check bits. -/
structure Upset where
  header : Nat
  data : List Nat
deriving DecidableEq, Repr

/-- An instruction that a hart comes to: the hart and the 32 bits. -/
structure Fetched where
  hart : Nat
  ins : Nat
deriving DecidableEq, Repr

/-! ### PCI Express -/

/-- How a channel doorbell is reached (R138): the registers of an engine's cell, or BAR0 of an endpoint function at index i. -/
inductive Door where
  | engine (e ch : Nat)
  | bar0 (port fn i : Nat)
deriving DecidableEq, Repr

/-- What a function or a root link holds of its configuration space and of its MSI-X table: the bytes that have been
written or set (R340 to R342, R351). -/
structure PcieFn where
  cfg : NMap Byte
  msix : NMap Byte
deriving DecidableEq, Repr

/-- Who waits for a non-posted request (R354): a core's load, an engine's descriptor read, a core's
configuration read, or nobody: a configuration write, which its core has had acknowledged. -/
inductive Asker where
  | load (hart : Nat)
  | descriptor (ch : Nat)
  | config (hart : Nat)
  | write
deriving DecidableEq, Repr

/-- An outstanding non-posted request of a port (R353, R354): its tag, its function or root link, who asked, and its stamp; of a
configuration read also its register, its length and the stamp of its first issue (R338). -/
structure PcieRead where
  port : Nat
  tag : Nat
  fn : Nat
  asker : Asker
  issued : Stamp
  again : Option (Nat × Nat × Stamp) := none
deriving DecidableEq, Repr

/-- A quarantined tag (R354, R355): when it is freed at the latest, and whether its completion is discarded in silence. -/
structure TagHold where
  port : Nat
  tag : Nat
  fn : Nat
  stop : Stamp
  silent : Bool
deriving DecidableEq, Repr

/-- A request of a device (R339): a read of `n` bytes with its attributes (R348: bit 0 Relaxed Ordering, bit 1 ID-Based Ordering), a write
with its data and whether it is poisoned, or an AtomicOp (R334): its function (0 FetchAdd, 1 Swap, 2 CAS) with its operands and attributes.
A message of a device comes here too (R351, log 25): 0 ERR_COR, 1 ERR_NONFATAL, 2 PM_PME, with its Requester ID. -/
inductive InReq where
  | read (addr n attr : Nat)
  | write (addr : Nat) (data : List Byte) (poison : Bool)
  | atomic (addr fn : Nat) (data : List Byte) (attr : Nat)
  | message (kind rid : Nat)
deriving DecidableEq, Repr

/-- A memory request of a host to a BAR of a function (R45, R343): a read of `n` bytes, or a write and whether it is
poisoned. -/
inductive BarReq where
  | read (off n : Nat)
  | write (off : Nat) (data : List Byte) (poison : Bool)
deriving DecidableEq, Repr

/-- A configuration request to a function: a read of `n` bytes or a write. -/
inductive CfgReq where
  | read (off n : Nat)
  | write (off : Nat) (data : List Byte)
deriving DecidableEq, Repr

/-- The BARs of a function (R340, R342); the expansion ROM is one. -/
inductive Bar where
  | bar0 | bar2 | rom
deriving DecidableEq, Repr

/-- What a rebuild has put into the Barcen Service Table of an endpoint port (R345 to R347): its header with CHECK 0, and its entries in
order, each with its function. -/
structure BstTable where
  head : List Byte
  entries : List (Nat × List Byte)
deriving DecidableEq, Repr

/-- A function's reset in progress (R356): its stamp, the RESULT its ops carry, and how many of them it aborted. -/
structure FnReset where
  port : Nat
  fn : Nat
  start : Stamp
  aborted : Nat
  ops : Nat
deriving DecidableEq, Repr

/-! ### Time -/

/-- A region's replica of the STB (R93 to R96): markers missed in succession, the frame of its last check, the step its trim takes at
the next meridian, whether its trim has moved, the ticks it was found ahead of the master (negative: behind) after a trim and the frame in
which it was, the stamp of its last correction, the master's value that a hold waits for, and the value below which it never falls (R88). -/
structure Replica where
  missed : Nat
  checked : Option Nat
  step : Int
  trimmed : Bool
  off : Int
  offAt : Nat
  fixed : Option Stamp
  hold : Option Stamp
  floor : Stamp
deriving DecidableEq, Repr

/-- A re-sync in progress (R106): its activity, the stamp it is timed from, the state and source to restore, whether the PLL reference has
been switched, the valid pulses of the new source, and of the state to restore whether a step was still permitted in it and its valid
pulses. -/
structure Resync where
  act : Nat
  start : Stamp
  state : Nat
  source : Nat
  link : Nat
  switched : Bool
  pulses : Nat
  may : Bool := false
  seen : Nat := 0
deriving DecidableEq, Repr

/-- The time base beside its registers (R97 to R106): the last pulse edge in units of 10 ps and the stamp of the last valid pulse, both as
the STB would read had it not stepped since (so that what lies between two pulses is the ticks counted), the last EPOCH applied, the
successive valid pulses that count toward a change of state, whether a step is still permitted in this LOCKING, the start of
the holdover, the replicas, a re-sync in progress, the offsets of the time marks since the last mean (R302), the trims of the last
64 s, each with its stamp, oldest first (R101), and the successive frames in which STB_REF was not valid (R99). -/
structure Clock where
  lastEdge : Option Stamp := none
  lastGood : Stamp := 0
  epoch : Nat := 0
  near : Nat := 0
  far : Nat := 0
  back : Nat := 0
  mayStep : Bool := false
  seen : Nat := 0
  holdAt : Stamp := 0
  replicas : NMap Replica := []
  resync : Option Resync := none
  marks : Nat := 0
  thetas : Int := 0
  trims : List (Stamp × Int) := []
  refBad : Nat := 0
deriving DecidableEq, Repr

/-! ### Courses, links and the sideband -/

/-- A flit in a replay buffer (R273): its FSEQ, the package whose packets it brings (on a link), and its bytes. -/
structure SentFlit where
  fseq : Nat
  src : Nat
  bytes : List Byte
deriving DecidableEq, Repr

/-- One direction of a course, or a package link at this package (R270 to R276, R288 to R290): the physical lane of each logical
lane, that of the start of day, the FSEQ that the receiver expects next, the failures in succession of that flit, the raw bits of a failed
flit, the flits in the transmitter's replay buffer (R273), and on a link the FSEQ of the transmitter's next flit. -/
structure FlitDir where
  map : List Nat
  home : List Nat
  expect : Nat
  fails : Nat
  raw : Option (List Byte)
  sent : List SentFlit
  next : Nat := 0
deriving DecidableEq, Repr

/-- What a course's stall does (R275, R276): moves a logical lane off a physical lane of a direction, or changes the width. -/
inductive Change where
  | remap (dir lane : Nat)
  | width (half : Bool)
deriving DecidableEq, Repr

/-- A stall that waits for the next meridian (R275): its course, its change, the activity that asked for it, and whether a
verdict did. -/
structure Stall where
  course : Nat
  change : Change
  act : Option Nat
  verdict : Bool
deriving DecidableEq, Repr

/-- Courses, links and sideband lanes beside their registers: directions at 2 × course + direction (0 toward the keystone), the
links' receiving sides, the frame of each course's last stall, the stalls that wait, the courses whose copy hold is active
(R377), messages dropped in succession by 8 × brick + lane (R283), budgets and telemetry per brick
(R282: the frame of the last one), the address of a register write whose data is awaited (R281), the frame at whose meridian a coupler's
marker last missed, what is fenced per brick (R281: its courses, and in bit 4 its sideband), and which of messages 0x11 to 0x13 a brick that is being restored
still owes (R284: bits 0 to 2). -/
structure Fabrics where
  dirs : NMap FlitDir := []
  links : NMap FlitDir := []
  stalled : NMap Nat := []
  stalls : List Stall := []
  holds : List Nat := []
  drops : NMap Nat := []
  noBudget : NMap Nat := []
  noTele : NMap Nat := []
  wrAddr : NMap Nat := []
  wireLost : NMap Nat := []
  fenced : NMap Nat := []
  asked : NMap Nat := []
deriving DecidableEq, Repr

/-! ### The constellation -/

/-- A remote transaction (R299): the slice whose proxy home opened it, its ID and line, its first link, its stamp, and whether
its ID is quarantined. -/
structure Remote where
  slice : Nat
  txn : Nat
  line : Nat
  link : Nat
  start : Stamp
  quarantined : Bool
  req : Pkt
deriving DecidableEq, Repr

/-- A record held in a mirror slot (R305, R306): the record as it came, and its confirm and void marks. -/
structure MirRec where
  slot : Nat
  seq : Nat
  body : List Byte
  flags : Nat
deriving DecidableEq, Repr

/-- What a join finds on its links (R309): the links that train with their peer, the peer's link and the number of wavelengths; the members,
with the grandmaster, where one answers; and, for step 5, the delay of the parent link in ticks with the STB value of the parent's meridian
as it reaches the package, where the marks came in time. -/
structure Found where
  links : List (Nat × Nat × Nat × Nat)
  members : List Nat
  gm : Nat
  delay : Nat
  value : Option Stamp
deriving DecidableEq, Repr

/-- A packet that waits for a link's transmitter (R288): the link, the package it is for, its virtual channel, and the package of its SRC. -/
structure LinkPkt where
  link : Nat
  pkg : Nat
  vc : Nat
  src : Nat
  pkt : Pkt
deriving DecidableEq, Repr

/-- Constellation state beside its registers: remote transactions, the records of the mirror slots, the remote directories
(R297), the stamps at which the links that are down went down (R308), the packets that wait for each link, the STB that the last time
mark of each link's peer carried (R289), and the mirror slots whose mirroring has ended, which are freed once they are empty (R305). -/
structure Constel where
  remotes : List Remote := []
  mirrored : List MirRec := []
  dir : FMap (Nat × Nat) SfSet := []
  down : NMap Stamp := []
  linkQ : List LinkPkt := []
  marks : NMap Stamp := []
  ended : List Nat := []
deriving DecidableEq, Repr

/-! ### Power, Nightfall, debug and firmware -/

/-- A rail whose voltage the package asks for (R390): the highest ceiling whose voltage is acknowledged, the ceiling that is asked for,
the stamp of the request, whether its acknowledgement is late, the stamp of the next repeat, and the commands that await it. -/
structure Rail where
  level : Nat
  asked : Nat
  stamp : Stamp
  late : Bool
  retry : Option Stamp
  callers : List (Nat × Nat)
deriving DecidableEq, Repr

/-- What the power manager measures at a meridian (R393): the power of everything but the bricks in W, and the junction of the keystone
and the lid in 1/16 °C as 16 bits; and the frequency of STB_REF over the frame that has ended, in Hz (R99). -/
structure Measures where
  rest : Nat
  keystone : Nat
  lid : Nat
  refHz : Nat
deriving DecidableEq, Repr

/-- What a PMBus poll reads of a regulator (R391): whether the read succeeded, a fault bit, and IOUT_OC_WARN. -/
structure RegStatus where
  read : Bool
  fault : Bool
  ocWarn : Bool
deriving DecidableEq, Repr

/-- A PCI Express link that has trained: its port and link, its width and speed codes (PCIE_LINK), and whether it is in flit mode. -/
structure Trained where
  port : Nat
  link : Nat
  width : Nat
  speed : Nat
  flit : Bool
deriving DecidableEq, Repr

/-- The power manager beside its registers (R380 to R396): PEAK_W and PEAK_MS; the allowance in nJ; the levels that capping set (72 ×
cause + domain, in steps of 25 MHz; causes 0 brick junction, 1 lid, 2 regulator, 3 no telemetry, 4 keystone junction); the ceilings the
bricks apply; the last temperatures per die (bricks 0 to 11, keystone 12) and of the lid in 1/16 °C as 16 bits, and those of the last
frame (R77); the bricks' power in
1/8 W and the rest of the package's in W; since when a cause holds and since when it is clear (16 × cause + die or rail); the rails in
warning; the temperature bands of VCACHE and VKS; quiet frames, whether the present frame has seen activity, the last request of
each memory node, and the nodes that sleep; whether the package is in ECLIPSE; and the rails. -/
structure Power where
  peakW : Nat := 1250
  peakMs : Nat := 10
  allowance : Int := 0
  caps : NMap Nat := []
  budgets : NMap Nat := []
  temps : NMap Nat := []
  lid : Nat := 0
  watts : NMap Nat := []
  rest : Nat := 0
  hot : NMap Stamp := []
  cool : NMap Stamp := []
  warn : List Nat := []
  bands : NMap Nat := []
  quiet : Nat := 0
  active : Bool := false
  nodeAt : NMap Stamp := []
  asleep : List Nat := []
  eclipse : Bool := false
  rails : NMap Rail := []
  shown : NMap Nat := []
deriving DecidableEq, Repr

/-- A save-store image (R405, R406): its header; the parts whose PART_CRC is good, with bit 6 for the header; the ranges, and whether they
were not all loaded (R404); the booking records, the core-state records by core, the descriptors of the op table by op ID, the journal's
records and DRAINED_SEQ by journal, the bytes known of the listed ranges, the fault records, and the records of the mirror slots, which
R410 does not restore. -/
structure Image where
  slot : Nat
  state : Nat
  seq : Nat
  trigger : Stamp
  halt : Stamp
  stop : Stamp
  cause : Nat
  parts : Nat
  crcOk : Nat
  chipId : Nat
  critical : Nat
  ranges : List (Nat × Nat)
  short : Bool
  books : List (List Byte)
  cores : NMap (List Byte)
  ops : NMap (List Byte)
  recs : List JRec
  drained : NMap Nat
  seqs : NMap Nat
  data : NMap Byte
  faults : List FaultRec
  slots : List MirRec := []
deriving DecidableEq, Repr

/-- Nightfall beside its registers (R397 to R412): the save-store's images, the save-critical cores and the listed ranges, the
shadow's bytes, the last reading of VSAVE's input in mV with whether its regulator reported no fault, whether that has been too low
since Nightfall was last armed, whether a trigger has been qualified, the slot being written, and whether a RESTORE_BEGIN of the
journal store has completed in this start. -/
structure Night where
  images : List Image := []
  critical : Nat := 0
  ranges : List (Nat × Nat) := []
  shadow : NMap Byte := []
  reading : Option (Nat × Bool) := none
  low : Bool := false
  triggered : Bool := false
  writing : Option Nat := none
  restored : Bool := false
deriving DecidableEq, Repr

/-- Debug authentication (R78, R328, R329): the challenge with its stamp, the failures' stamps, the end of a lock, and the debug
keys per world. -/
structure Debug where
  challenge : Option (List Byte × Stamp) := none
  fails : List Stamp := []
  lockEnd : Stamp := 0
  keys : NMap (List Byte) := []
deriving DecidableEq, Repr

/-- The tables that Falip publishes at a start (R217, R218). SRAT: each memory node's range as domain, base and length, and each
brick's harts as domain, first hart and number; SLIT: the distance from one domain to another; HMAT: from a brick's domain to a node's
the latency of reads and writes in ns and the bandwidth per direction in GB/s. -/
structure Acpi where
  memory : List (Nat × Nat × Nat)
  harts : List (Nat × Nat × Nat)
  slit : List (Nat × Nat × Nat)
  hmat : List (Nat × Nat × Nat × Nat)
deriving DecidableEq, Repr

/-- Firmware (R79, R430 to R432): the boot flash's bytes (65,536 × 256 erased where nothing is listed), whether the part has
read it, the activity of a staging in progress, whether the inactive image has been verified, FALIP_VER, whether a site
image was applied, its serial number, and the ACPI tables of this start (R217). -/
structure Firmware where
  flash : NMap Byte := []
  staging : Option Nat := none
  verified : Bool := false
  version : Nat := 0
  site : Bool := false
  serial : Nat := 0
  acpi : Option Acpi := none
deriving DecidableEq, Repr

/-- The units carried in the current frame per capture (R425), by 8 × bank + d: total and booked. `since` is the stamp from
which a counter of STB ticks has not been accounted, by 16 × bank + counter; `recent` the stamps and the numbers of the last events per
counter (R420). -/
structure Counting where
  frame : NMap (Nat × Nat) := []
  since : NMap Stamp := []
  recent : NMap (List (Stamp × Nat)) := []
deriving DecidableEq, Repr

/-! ### The board -/

/-- A DIMM (R219): whether it is registered, its GiB, the width of its devices, its ranks, the height of its 3DS stacks, the highest
rate of R219 that its SPD permits (code of MEM_NODE.RATE; above 5 where it permits none), whether its channel trains, and the repairs
its SPD offers per bank group. -/
structure Dimm where
  registered : Bool
  gib : Nat
  width : Nat
  ranks : Nat
  high : Nat
  rate : Nat
  trains : Bool
  repairs : Nat
deriving DecidableEq, Repr

/-- Whether a DIMM lies within the limits of R219. -/
def Dimm.fits (d : Dimm) : Bool :=
  d.registered && decide (16 ≤ d.gib) && decide (d.gib ≤ 256) && (d.width == 4 || d.width == 8) &&
    (d.ranks == 1 || d.ranks == 2) && decide (1 ≤ d.high) && decide (d.high ≤ 4) && decide (d.rate ≤ 5)

/-- A die as the capability exchange finds it (R33, R284, R285): whether it answers, whether a brick is of stepping B1 and not B0 (R15; the
keystone is always A2), its serial, test revision, the capability bits that its fuses leave it, and errata. -/
structure Die where
  answers : Bool
  b1 : Bool
  serial : Nat
  testRev : Nat
  caps : Nat
  errata : Nat
deriving DecidableEq, Repr

/-- A stack (R220, R221): whether it answers its identification, its vendor, the pairs that train, and repairs per bank group. -/
structure Stack where
  answers : Bool
  vendor : Nat
  pairs : Nat
  repairs : Nat
deriving DecidableEq, Repr

/-- What a start finds outside the package's logic: dies (0 the keystone, 1 + b brick b), DIMMs by channel, stacks, the lanes
fused or trained bad per direction (2 × course + direction, a mask), straps, the save-store die, the boot flash, the fused hash
of the vendor key and those of the site-signing keys, the round trip of each region's paths measured at start in 10 ps
(2 × region + path; R95), the links whose fibre carries light, and the PCI Express links that train (width and speed codes). -/
structure Board where
  dies : NMap Die
  dimms : NMap Dimm
  hbmStacks : NMap Stack
  badLanes : NMap Nat
  smbAddr : Nat
  xspiMode : Nat
  imgForce : Nat
  saveStore : Bool
  flash : NMap Byte
  vendorHash : List Byte
  siteHashes : NMap (List Byte)
  trips : NMap Nat
deriving DecidableEq, Repr

/-- What a start finds (R433): the board; the PCI Express links of root ports that train; the first readings of the regulators and of the
VSAVE regulator's input in mV; the private range that the engine firmware gives each engine, in 2 MiB and as the code of its size;
the first measurements (R77), with the power in 1/8 W and the hottest junction of each brick; and what the site image's records find of other packages and of the site reference. -/
structure Start where
  board : Board
  links : List Trained
  regs : List RegStatus
  vin : Nat
  ranges : NMap (Nat × Nat)
  meas : Measures
  bricks : NMap (Nat × Nat)
  found : Found
  refs : Bool
  mirror : Option Bool
deriving DecidableEq, Repr

/-! ### What leaves the package -/

/-- What a step sends out of the package. -/
inductive OutKind where
  | msi | msix | smbus | smbusNack | alertAddress | memAnswer | cfgAnswer | completion | interrupt
  | sideband | nvme | avs | pmbus | linkFlit | courseFlit | cpl | errFatal | pcieRead | pcieWrite | pcieConfig | regRead
deriving DecidableEq, Repr

/-- One thing sent out: its kind, its numbers and its bytes. -/
structure Output where
  kind : OutKind
  args : List Nat
  data : List Byte := []
deriving DecidableEq, Repr

end Sys2Proof.Machine
end

