-- ==== Sys2Proof/Syntax.lean ====
section
/-! DEFINITION. The commands: one constructor per row of the table of operations and events. Every command carries
the STB stamp `t` at which it happens (R89, log 1). -/

namespace Sys2Proof

open Sys2Proof.Machine

/-- A command: an operation or event of the package, with its stamp and its operands. -/
inductive Instr where
  /-- Release of PKG_RST_N after PKG_PWROK starts the STB and runs the start-up sequence: image choice, calibration, brick bring-up, memory build, engine and core release, and READY. (R433.) -/
  | startUp (t : Stamp) (x : Start)
  /-- PKG_RST_N or PKG_PWROK falling with no Nightfall trigger qualified resets the package within 1 µs without a save. (R429.) -/
  | pkgReset 
  /-- Divergence of the lockstep keeper cores resets both and starts a keeper restart, with FATAL on a second divergence within 1 h. (R39.) -/
  | keeperDivergence (t : Stamp)
  /-- End of a keeper restart: commands taken before it get ST_INTERNAL, the BST is rebuilt and EV_KEEPER_RESTART is written. (R39.) -/
  | keeperRestartEnd (t : Stamp)
  /-- A write of MBX_DOORBELL.CMD_TAIL stamps and snapshots the new command entries, or is ignored with RING_OVERRUN or BAD_DOORBELL. (R47.) -/
  | mbxDoorbellCmdTail (t : Stamp) (m : Nat) (via : Via) (tail : Nat)
  /-- A write of MBX_DOORBELL.RESET discards untaken commands and clears the mailbox's pointers, sequence and errors. (R52.) -/
  | mbxDoorbellReset (t : Stamp) (m : Nat) (via : Via)
  /-- The mailbox reset ends within 1 ms and READY returns to 1. (R52.) -/
  | mailboxResetEnd (t : Stamp) (m : Nat)
  /-- A write of the completion consumer head frees completion entries, lets a held final completion be written, or is ignored with BAD_POINTER. (R49.) -/
  | mbxCmpHead (t : Stamp) (m : Nat) (via : Via) (head : Nat)
  /-- A write of the event consumer head frees event entries, after which EV_EVENTS_LOST is written with the lost count. (R53.) -/
  | mbxEvtHead (t : Stamp) (m : Nat) (via : Via) (head : Nat)
  /-- The keeper takes the next command of a mailbox in the order of R48 once the completion ring has 2 free entries and the previous command has completed or pended. (R49.) -/
  | commandTake (t : Stamp)
  /-- A command that has not finished by its bound completes with ST_TIMEOUT. (R51.) -/
  | commandBoundExpiry (t : Stamp) (m : Nat) (seq : Nat)
  /-- SMBus Block Write with command code 0xA0 sets the sideband pointer to a mailbox and window offset. (R46.) -/
  | smbusPointerWrite (t : Stamp) (m : Nat) (off : Nat) (pecOk : Bool)
  /-- SMBus Block Write with command code 0xA1 writes 8 to 32 bytes at the pointer and advances it. (R46.) -/
  | smbusDataWrite (t : Stamp) (data : List Byte) (pecOk : Bool)
  /-- SMBus Block Read with command code 0xA2 reads 32 bytes at the pointer and advances it. (R46.) -/
  | smbusDataRead (t : Stamp)
  /-- The package answers the SMBus Alert Response Address with its target address while SMBALERT_N is asserted. (R46.) -/
  | alertResponseAddress (t : Stamp)
  /-- A host memory request to an endpoint BAR is split into 8-byte accesses, checked against the mailbox path, or answered Unsupported Request. (R45.) -/
  | endpointMemoryRequest (t : Stamp) (p : Nat) (fn : Nat) (b : Bar) (q : BarReq)
  /-- A configuration request to an endpoint port is answered with Request Retry Status until the port's mailbox is READY, or during a reset. (R336.) -/
  | endpointConfigRequest (t : Stamp) (p : Nat) (fn : Nat) (q : CfgReq)
  /-- Returns chip and keystone identity, firmware version, HBM and save-die state, DDR presence and the STB. (R63.) -/
  | getInfo (t : Stamp) (m : Nat)
  /-- Returns CHIP_CAP_EFFECTIVE, every die's DIE_CAP and BRICK_UP. (R63.) -/
  | getCaps (t : Stamp) (m : Nat)
  /-- Returns one topology section: cores, memory nodes, ports or package links. (R63.) -/
  | getTopology (t : Stamp) (m : Nat)
  /-- Validates a booking record, runs the fit test and, on success, assigns a BOOKING_ID that takes effect at the next frame. (R116.) -/
  | book (t : Stamp) (m : Nat)
  /-- Removes a booking from BOOKED at the next meridian, after which it is honoured until its ops' latest deadline. (R120.) -/
  | unbook (t : Stamp) (m : Nat)
  /-- Returns up to 3 of the caller's booking records and forgets revoked IDs once they have been reported. (R66.) -/
  | queryBookings (t : Stamp) (m : Nat)
  /-- Returns NOMINAL, DERATED, RESERVE, BOOKABLE and BOOKED of one resource, after validating RESOURCE and INDEX. (R446.) -/
  | queryCapacity (t : Stamp) (m : Nat)
  /-- Changes a booking's precedence, and with it the revocation order, at its completion. (R120.) -/
  | setPrecedence (t : Stamp) (m : Nat)
  /-- Defines or redefines a service class's urgency, tag, flags, budget, longest deadline and journal allowance. (R67.) -/
  | defineClass (t : Stamp) (m : Nat)
  /-- Defines a service group's cores, refused if booked core time would no longer fit, worlds mix, or a core runs on its oscillator. (R67.) -/
  | defineGroup (t : Stamp) (m : Nat)
  /-- Binds a channel's queues to a class and group and assigns the intake engine that serves it. (R137.) -/
  | bindChannel (t : Stamp) (m : Nat)
  /-- Locks two channels of one class into a twinned pair, or unlocks them. (R67.) -/
  | lockChannels (t : Stamp) (m : Nat)
  /-- Unbinds every channel of a group and answers its queued ops as they finish or at once with OP_WITHDRAWN. (R67.) -/
  | releaseGroup (t : Stamp) (m : Nat)
  /-- Forms a binary pair of two cores of one block by stopping B, copying A's state and releasing both 2 cycles apart. (R193.) -/
  | pair (t : Stamp) (m : Nat)
  /-- Dissolves a binary pair: A continues alone and B restarts at its reset vector in no group. (R197.) -/
  | unpair (t : Stamp) (m : Nat)
  /-- Changes the world of a run of tiles, holding requests, back-invalidating the lines and flipping the map bits. (R314.) -/
  | setWorldTiles (t : Stamp) (m : Nat)
  /-- Assigns a core block to a world, flushes it and restarts its cores in the new world, unpaired and in no group. (R315.) -/
  | setBlockWorld (t : Stamp) (m : Nat)
  /-- Appends a frame range to a first-touch pool, or empties the pool when LENGTH_B is 0. (R215.) -/
  | poolGrant (t : Stamp) (m : Nat)
  /-- Sets a node's bookability and patrol period, refused when existing bookings would no longer fit. (R69.) -/
  | setNodePolicy (t : Stamp) (m : Nat)
  /-- Starts the channel mirroring copy activity of CHAN_B from CHAN_A, or ends mirroring. (R223.) -/
  | mirrorChannels (t : Stamp) (m : Nat)
  /-- Requests a maintenance activity, which the sequencer starts, queues or refuses under the compatibility matrix. (R374.) -/
  | maintStart (t : Stamp) (m : Nat)
  /-- Returns the state, progress, result and stamps of a kept maintenance activity. (R70.) -/
  | maintStatus (t : Stamp) (m : Nat)
  /-- Removes a queued activity or stops a running one before its point of no return. (R376.) -/
  | maintAbort (t : Stamp) (m : Nat)
  /-- Retires a unit through the maintenance sequencer, with or without FORCE revocation. (R71.) -/
  | retire (t : Stamp) (m : Nat)
  /-- Returns a retired unit to service after self-test, or refuses it. (R71.) -/
  | restoreUnit (t : Stamp) (m : Nat)
  /-- Returns up to 3 fault records from a sequence number, reporting whether records were lost. (R72.) -/
  | faultLogRead (t : Stamp) (m : Nat)
  /-- Sets a source's severity and bucket threshold and leak period, or a lane bucket's settings. (R360.) -/
  | setSeverity (t : Stamp) (m : Nat)
  /-- Clears a latched source bit and optionally empties its buckets, ending the safe state when the last FATAL bit clears. (R359.) -/
  | faultClear (t : Stamp) (m : Nat)
  /-- Updates holdover and epoch settings, or starts the STB re-sync activity on a change of source or link. (R105.) -/
  | stbConfig (t : Stamp) (m : Nat)
  /-- Returns the STB, discipline state, source, offset and holdover time. (R106.) -/
  | stbStatus (t : Stamp) (m : Nat)
  /-- A re-sync that has not reached its second valid pulse by 3 s completes ST_TIMEOUT and restores the previous source. (R106.) -/
  | resyncTimeout (t : Stamp)
  /-- Sets the save-critical cores and listed ranges for the next Nightfall and starts loading the shadow. (R74.) -/
  | saveListSet (t : Stamp) (m : Nat)
  /-- Returns the Nightfall arming state and the last save's stamp, size and duration. (R74.) -/
  | saveStatus (t : Stamp) (m : Nat)
  /-- Restores the named parts of the oldest held image into the journal store, the restore area or the listed ranges. (R410.) -/
  | restoreBegin (t : Stamp) (m : Nat)
  /-- Marks the oldest held image released and frees its slot. (R412.) -/
  | saveRelease (t : Stamp) (m : Nat)
  /-- Joins the constellation: trains links, learns membership, steps the STB to the parent's meridian and enables routes. (R309.) -/
  | constJoin (t : Stamp) (m : Nat) (x : Found)
  /-- Leaves the constellation, finishing or fencing remote transactions and returning to a local time source. (R310.) -/
  | constLeave (t : Stamp) (m : Nat) (refs : Bool)
  /-- Sets the primary and alternate first links toward a member package. (R292.) -/
  | constRoute (t : Stamp) (m : Nat)
  /-- Starts or stops mirroring a journal to a partner package's mirror slot. (R305.) -/
  | journalMirror (t : Stamp) (m : Nat) (answer : Option Bool)
  /-- Assigns a VF its tenant, urgency cap and permitted classes and tags. (R330.) -/
  | vfAssign (t : Stamp) (m : Nat)
  /-- Stops a VF's fetching, waits for its admitted ops and outstanding reads, and marks it quiesced. (R331.) -/
  | vfQuiesce (t : Stamp) (m : Nat)
  /-- Returns a quiesced VF to service and restarts fetching from the recorded doorbells. (R331.) -/
  | vfResume (t : Stamp) (m : Nat)
  /-- Sets the sustained and peak power limits and the committed ceilings, as a trigger of R128. (R392.) -/
  | powerLimit (t : Stamp) (m : Nat)
  /-- Returns the last frame's lid and junction temperatures, capping causes and package power. (R77.) -/
  | thermalStatus (t : Stamp) (m : Nat)
  /-- Sets or withdraws the mailbox's power vote on a block, region or the chip, and gates or ungates a block clock. (R384.) -/
  | setVotePolicy (t : Stamp) (m : Nat)
  /-- DEBUG_AUTH with SUBOP 0 returns a 32-byte challenge valid for 10 s. (R78.) -/
  | debugAuthChallenge (t : Stamp) (m : Nat)
  /-- DEBUG_AUTH with SUBOP 1 checks a signature over the challenge and enables debug kinds, or counts a failure toward lockout. (R78.) -/
  | debugAuthResponse (t : Stamp) (m : Nat)
  /-- Clears a world's debug enables and resumes harts halted in that world. (R328.) -/
  | debugRevoke (t : Stamp) (m : Nat)
  /-- Writes a chunk of the inactive boot image and verifies its signature after the last chunk. (R79.) -/
  | fwStage (t : Stamp) (m : Nat)
  /-- Activates a verified staged image at the next start by a directory write, or now by a keeper restart. (R79.) -/
  | fwActivate (t : Stamp) (m : Nat)
  /-- COUNTER_ACCESS with SUBOP 0 grants a counter to the lowest free user slot. (R424.) -/
  | counterAccessGrant (t : Stamp) (m : Nat)
  /-- COUNTER_ACCESS with SUBOP 1 frees the user slot of a counter. (R424.) -/
  | counterAccessRevoke (t : Stamp) (m : Nat)
  /-- COUNTER_ACCESS with SUBOP 2 reads a counter with its full sample stamp. (R424.) -/
  | counterAccessRead (t : Stamp) (m : Nat)
  /-- COUNTER_ACCESS with SUBOP 3 writes a counter's event and filter from its stamp on. (R424.) -/
  | counterAccessSet (t : Stamp) (m : Nat)
  /-- At each meridian the frame opens: meters and slot masks reload, bookings take effect or leave, and captures, hints and telemetry are taken. (R121.) -/
  | meridian (t : Stamp) (x : Measures) (errs : List Nat)
  /-- A region replica compares the meridian marker with its expected position and trims its fine delay by one step. (R95.) -/
  | replicaMarkerCheck (t : Stamp) (r : Nat) (missing : Bool) (residual : Int) (off : Int)
  /-- A replica found off after a trim is stepped forward or held against the master at the next meridian. (R96.) -/
  | replicaCorrection (t : Stamp) (r : Nat)
  /-- A replica held ahead of the master resumes counting when the master reaches its value. (R96.) -/
  | replicaHoldEnd (t : Stamp) (r : Nat)
  /-- A pulse on STB_PPS is validated, its offset measured, the epoch step applied if due, and the discipline state advanced. (R99.) -/
  | stbPps (t : Stamp) (tick : Nat) (frac : Nat)
  /-- No valid pulse for 1.1 s, or STB_REF invalid for 8 frames, moves the discipline to HOLDOVER or FAULT. (R101.) -/
  | referenceLoss (t : Stamp) (pulses : Bool)
  /-- Time in holdover reaching HOLDOVER_S moves the discipline to FAULT. (R101.) -/
  | holdoverExpiry (t : Stamp)
  /-- The STB reaching C × 64 of a timer compare value raises its timer interrupt. (R87.) -/
  | timerCompare (t : Stamp) (h : Nat) (guest : Bool)
  /-- A capacity trigger makes the Almanac recompute DERATED, RESERVE and BOOKABLE, fix revocations and withdrawals, and write T within 50 µs. (R129.) -/
  | recompute (t : Stamp)
  /-- A request passing its metering point decrements its tag's meter or is demoted to best effort. (R124.) -/
  | metering (t : Stamp) (p : Pkt)
  /-- A controller's queue level change is broadcast, and metering points hold or release best-effort requests. (R126.) -/
  | queueLevelChange (t : Stamp) (c : Nat) (level : Nat)
  /-- A submission tail doorbell, through IE_CH_DB or BAR0, advances a channel's tail or sets BAD_DOORBELL. (R138.) -/
  | ieChDbSqTail (t : Stamp) (d : Door) (v : Nat)
  /-- A completion head doorbell, through IE_CH_DB or BAR0, frees completion entries or sets BAD_DOORBELL. (R138.) -/
  | ieChDbCqHead (t : Stamp) (d : Door) (v : Nat)
  /-- An engine fetches a descriptor when completion-queue space and fewer than 8 held descriptors allow. (R143.) -/
  | descriptorFetch (t : Stamp) (e : Nat)
  /-- A descriptor's last byte arriving stamps t0, and the engine checks source, format, permission, twin and limits. (R145.) -/
  | intake (t : Stamp) (e : Nat) (ch : Nat) (bytes : List Byte)
  /-- The Almanac runs the core-time, op-table and journal tests, places and admits the op or refuses it, within 1.5 µs of t0. (R147.) -/
  | admission (t : Stamp)
  /-- An engine issues a completion record, and the interrupt after it, within 2 µs of the deciding event. (R142.) -/
  | answer (t : Stamp) (e : Nat)
  /-- TNEXT takes the head op of the core's queue or group best-effort queue, writes its descriptor and returns the op word, or waits. (R154.) -/
  | tnext (t : Stamp) (h : Nat) (ins : Nat)
  /-- A TNEXT wait that reaches its limit with no op retires with rd = 0. (R154.) -/
  | tnextWaitExpiry (t : Stamp) (h : Nat)
  /-- TDONE ends the held op with a result word, leading to OP_DONE or a twin comparison, and releases an answered core. (R155.) -/
  | tdone (t : Stamp) (h : Nat) (ins : Nat)
  /-- JCOMMIT appends a record to the held op's journal and retires once it is durable and, if mirrored, acknowledged. (R162.) -/
  | jcommit (t : Stamp) (h : Nat) (ins : Nat)
  /-- A core's budget timer reaching the budget answers the op OP_OVERRUN and drops its tag. (R156.) -/
  | budgetOverrun (t : Stamp) (c : Nat)
  /-- At D − 8,192 ticks an unanswered op is answered OP_OVERRUN or OP_WITHDRAWN. (R157.) -/
  | deadlineGuard (t : Stamp) (id : Nat)
  /-- A core that has not done TDONE within 32,768 ticks of its op's answer is withdrawn from its group. (R158.) -/
  | coreWithdraw (t : Stamp) (c : Nat)
  /-- The partner's acknowledgement of a mirrored record lets the waiting JCOMMIT retire. (R166.) -/
  | mirrorAck (t : Stamp) (j : Nat) (seq : Nat)
  /-- An acknowledgement not received within ACK_US leaves the record MIRROR_LOST, and later commits retire without waiting. (R166.) -/
  | mirrorAckTimeout (t : Stamp) (j : Nat) (seq : Nat)
  /-- WAIT_FRAMES after a block's first record, the drain writes the partial block with filler records. (R167.) -/
  | drainWaitExpiry (t : Stamp) (d : Nat) (j : Nat)
  /-- An NVMe drain write completing frees its block's units and advances DRAINED_SEQ, or counts toward retry. (R167.) -/
  | drainWriteCompletion (t : Stamp) (d : Nat) (lba : Nat) (ok : Bool)
  /-- A drain command not complete in 100 ms is retried, and after 3 failures the drain channel halts. (R168.) -/
  | drainCommandTimeout (t : Stamp) (d : Nat) (lba : Nat)
  /-- Writing JNL_DRAIN.ENABLE starts the drain channel or resumes it from the first unacknowledged block. (R168.) -/
  | jnlDrainEnable (t : Stamp) (via : Via) (addr : Nat) (size : Nat) (value : Nat)
  /-- WSWITCH makes a gate call, a gate return, or a direct world change, by the hart's world, mode and frame. (R321.) -/
  | wswitch (t : Stamp) (h : Nat) (ins : Nat)
  /-- A fence or Svinval instruction invalidates only the executing hart's translation caches. (R208.) -/
  | sfenceVma (t : Stamp) (h : Nat) (k : FenceKind) (va : Option Nat) (asid : Option Nat) (ins : Nat)
  /-- A core's walker reads page-table entries with the checks of R202, raising walk faults or producing a translation. (R202.) -/
  | tableWalk (t : Stamp) (h : Nat) (va : Nat) (w : Want)
  /-- An intake-engine access hits, fills a sector, or misses a line and starts a victim writeback or fill. (R185.) -/
  | engineCacheAccess (t : Stamp) (e : Nat) (x : EngAcc)
  /-- Acknowledgement of a victim's dirty sectors lets the engine invalidate the victim and issue the fill. (R186.) -/
  | victimWritebackAck (t : Stamp) (e : Nat)
  /-- A completed engine miss releases accesses to its line and lets the next waiting miss issue. (R187.) -/
  | engineMissComplete (t : Stamp) (e : Nat)
  /-- A pair comparison mismatch stops both cores, re-dispatches the held op, saves state and starts self-test. (R194.) -/
  | pairDivergence (t : Stamp) (a : Nat)
  /-- The pair self-test outcome resumes the pair, retires one or both cores, or continues unpaired. (R195.) -/
  | pairSelfTestDone (t : Stamp) (a : Nat) (okA : Bool) (okB : Bool)
  /-- A home slice serves a read for a shared copy from memory or the owner. (R260.) -/
  | fetchShare (t : Stamp) (p : Pkt)
  /-- A home slice serves a read for write ownership, snooping owner and sharers. (R260.) -/
  | fetchOwn (t : Stamp) (p : Pkt)
  /-- A home slice grants write ownership without data after killing every copy. (R260.) -/
  | ownZero (t : Stamp) (p : Pkt)
  /-- A home slice writes an evicted dirty line to memory only if the writer is still owner, and grants. (R264.) -/
  | evictDirty (t : Stamp) (p : Pkt)
  /-- A home slice serves an uncached read, flushing an owner first. (R260.) -/
  | readUc (t : Stamp) (p : Pkt)
  /-- A home slice kills every copy and writes 1 to 64 bytes to memory. (R260.) -/
  | writeUc (t : Stamp) (p : Pkt)
  /-- A home slice performs an atomic operation at memory and returns the old value. (R260.) -/
  | atomic (t : Stamp) (p : Pkt)
  /-- A memory controller reads a line and sends the data unit to the requester. (R247.) -/
  | mcRead (t : Stamp) (p : Pkt)
  /-- A memory controller writes the named bytes, also to a mirror and the save shadow, and answers MC_DONE. (R247.) -/
  | mcWrite (t : Stamp) (p : Pkt)
  /-- A Device target serves a read and returns DEV_DATA. (R256.) -/
  | devRd (t : Stamp) (p : Pkt)
  /-- A Device target performs a write and returns DEV_ACK. (R256.) -/
  | devWr (t : Stamp) (p : Pkt)
  /-- A holding block sends a shared copy to the requester and updates its state. (R262.) -/
  | snoopShare (t : Stamp) (p : Pkt) (k : Nat)
  /-- A holding block sends the line in M to the requester and invalidates. (R262.) -/
  | snoopOwn (t : Stamp) (p : Pkt) (k : Nat)
  /-- A holding block invalidates its copy and sends dirty data home. (R262.) -/
  | snoopKill (t : Stamp) (p : Pkt) (k : Nat)
  /-- A holding block sends dirty data home and keeps an S copy. (R262.) -/
  | snoopFlush (t : Stamp) (p : Pkt) (k : Nat)
  /-- A requester receiving a grant, with its data if any, finishes the transaction and sends GRANT_SEEN. (R263.) -/
  | grant (t : Stamp) (p : Pkt)
  /-- A home slice receiving GRANT_SEEN closes the line's transaction and takes the next waiting request. (R257.) -/
  | grantSeen (t : Stamp) (p : Pkt)
  /-- A course stop combines one block's snoop answer into its combining entry. (R261.) -/
  | snoopPart (t : Stamp) (p : Pkt)
  /-- A home slice receiving a brick's combined snoop answer updates the filter and grants when all have arrived. (R260.) -/
  | snoopSum (t : Stamp) (p : Pkt)
  /-- A home slice receiving the controller's write acknowledgement closes the transaction and grants. (R257.) -/
  | mcDone (t : Stamp) (p : Pkt)
  /-- A core receiving DEV_ACK may issue its next Device access. (R256.) -/
  | devAck (t : Stamp) (p : Pkt)
  /-- A requester receiving a refusal applies R28, raises cause 26, or reads poison, by reason. (R266.) -/
  | err (t : Stamp) (p : Pkt)
  /-- A requester receives the line for its transaction. (R263.) -/
  | lineData (t : Stamp) (p : Pkt)
  /-- A home slice receives dirty data from a snooped holder and writes it to memory or discards it. (R262.) -/
  | flushData (t : Stamp) (p : Pkt)
  /-- A core receives Device read data. (R256.) -/
  | devData (t : Stamp) (p : Pkt)
  /-- A requester receives the old value of an atomic operation. (R260.) -/
  | atomicOld (t : Stamp) (p : Pkt)
  /-- A block releases a newly filled line to waiting snoops after its access or 64 block cycles. (R263.) -/
  | fillHoldExpiry (t : Stamp) (bb : Nat) (line : Nat)
  /-- A transaction open for 10 ms is abandoned with a fixed FATAL fault. (R266.) -/
  | transactionTimeout (t : Stamp) (h : Nat) (line : Nat)
  /-- A stop injects a waiting packet into an empty slot in the order that the slot position sets. (R237.) -/
  | packetInject (t : Stamp) (ring : Nat) (stop : Nat) (dir : Nat)
  /-- A packet at its destination ejects if buffer and port allow, or deflects and may be pinned. (R242.) -/
  | packetArrival (t : Stamp) (p : Pkt) (upset : Upset)
  /-- A stop whose head packet has waited STARVE_LIMIT ring cycles asserts a claim on the status lane. (R239.) -/
  | starveClaim (t : Stamp) (ring : Nat) (stop : Nat) (dir : Nat)
  /-- An arbiter decides the next tenure of a port in the last beat of the current one, with hints and revocation. (R250.) -/
  | tenureDecision (t : Stamp) (port : Nat) (inst : Nat) (hints : List ArbReq) (idle : List Nat)
  /-- A tenure reaching HOLD_LIMIT beats is cut off and its holder flagged. (R253.) -/
  | holdCutoff (t : Stamp) (port : Nat) (inst : Nat) (hints : List ArbReq)
  /-- A course receiver checks a flit's CRC, delivers its packets, sends or acts on NAK and replays, and charges lane errors. (R273.) -/
  | courseFlitReceive (t : Stamp) (idx : Nat) (d : Nat) (f : List Byte)
  /-- A remap or width change that would stall a second time in a frame completes within 2 µs of the next meridian. (R275.) -/
  | deferredStall (t : Stamp) (idx : Nat)
  /-- A brick is retired: cores stop, recompute runs, caches write back, presence is cleared and its power goes off. (R279.) -/
  | brickRetirement (t : Stamp) (b : Nat)
  /-- Sideband message 0x01 reads a brick register. (R281.) -/
  | registerReadMessage (t : Stamp) (b : Nat) (lane : Nat) (addr : Nat) (ok : Bool)
  /-- Sideband message 0x02, with its data message, writes a brick register. (R281.) -/
  | registerWriteMessage (t : Stamp) (b : Nat) (lane : Nat) (x : Nat) (ok : Bool)
  /-- Sideband message 0x03 returns register read data. (R281.) -/
  | readAnswer (t : Stamp) (b : Nat) (lane : Nat) (x : Nat) (ok : Bool)
  /-- Sideband message 0x10 asks a brick for its identity, capability and errata. (R284.) -/
  | capabilityRequest (t : Stamp) (b : Nat) (lane : Nat) (ok : Bool)
  /-- Sideband messages 0x11 to 0x13 deliver a brick's DIE_ID, DIE_CAP and DIE_ERRATA. (R284.) -/
  | capabilityAnswer (t : Stamp) (b : Nat) (lane : Nat) (mtype : Nat) (x : Nat) (ok : Bool)
  /-- Sideband message 0x20 reports a brick's power and hottest junction each meridian. (R282.) -/
  | telemetry (t : Stamp) (b : Nat) (lane : Nat) (power : Nat) (junction : Nat) (ok : Bool)
  /-- Sideband message 0x21 gives a brick its per-domain frequency ceilings. (R282.) -/
  | budget (t : Stamp) (b : Nat) (lane : Nat) (ceilings : List Nat) (ok : Bool)
  /-- Sideband message 0x30 carries a brick region collector's error-pin level to the chip. (R358.) -/
  | errorPin (t : Stamp) (b : Nat) (lane : Nat) (level : Nat) (ok : Bool)
  /-- Sideband message 0x31 fences a brick's courses or sideband. (R281.) -/
  | fence (t : Stamp) (b : Nat) (lane : Nat) (courses : Nat) (sideband : Bool) (ok : Bool)
  /-- Sideband message 0x40 agrees a lane remap between the two ends of a course. (R275.) -/
  | remapAgreement (t : Stamp) (b : Nat) (lane : Nat) (course : Nat) (dir : Nat) (logical : Nat) (phys : Nat) (ok : Bool)
  /-- A sideband message unanswered after 1 µs is repeated, and 8 drops fail the lane and move it to its spare. (R281.) -/
  | sidebandRetry (t : Stamp) (b : Nat) (lane : Nat)
  /-- A brick with no budget for 8 frames lowers every block domain to 1.2 GHz. (R282.) -/
  | budgetMissing (t : Stamp) (b : Nat)
  /-- No telemetry from a brick for 8 frames makes the keystone assume the 1.2 GHz ceiling, as a trigger. (R282.) -/
  | telemetryMissing (t : Stamp) (b : Nat)
  /-- Light below threshold for 100 ns switches to source B, or moves every region to the fallback. (R287.) -/
  | lightbedSourceFailure (t : Stamp) (src : Nat)
  /-- A missing marker at a coupler for 2 meridians makes that link's time marks unusable. (R287.) -/
  | couplerTimePathLoss (t : Stamp) (l : Nat)
  /-- A package link receives a flit, replays, forwards or delivers its packets, and charges wavelength errors. (R289.) -/
  | linkFlitReceive (t : Stamp) (l : Nat) (f : List Byte) (from_ : Nat)
  /-- A time-mark flit is stamped, and link delay and offset are computed for discipline. (R302.) -/
  | timeMark (t : Stamp) (l : Nat) (sA : Nat) (rB : Nat) (sB : Nat) (rA : Nat) (number : Nat)
  /-- A link goes down on replay failure, width loss, light loss, a fence flit, a wrong peer or a leave. (R307.) -/
  | linkDown (t : Stamp) (l : Nat) (cause : Nat)
  /-- A member whose links have been down for 1 ms is lost, and members apply the containment effects. (R308.) -/
  | memberLost (t : Stamp) (p : Nat)
  /-- A membership update from a neighbour's Falip raises EV_CONST_CHANGE at every member. (R308.) -/
  | membershipUpdate (t : Stamp) (p : Nat) (came : Bool)
  /-- Falip elects a grandmaster and sets each member's time parent. (R303.) -/
  | grandmasterElection (t : Stamp) (gm : Nat)
  /-- An exporter checks a remote-window request's segment, address, world and coherence and serves it at its home. (R294.) -/
  | remoteRequest (t : Stamp) (p : Pkt)
  /-- A remote transaction unanswered within REMOTE_TO is answered ERR reason 4 and its ID quarantined. (R299.) -/
  | remoteTimeout (t : Stamp) (slice : Nat) (txn : Nat)
  /-- A quarantined remote transaction ID is released after 4 × REMOTE_TO. (R299.) -/
  | remoteQuarantineExpiry (t : Stamp) (slice : Nat) (txn : Nat)
  /-- A write of CST_MSG_SEND sends one doorbell message to another package, or drops it. (R301.) -/
  | cstMsgSend (t : Stamp) (via : Via) (addr : Nat) (size : Nat) (value : Nat)
  /-- A target package turns a doorbell message into an MSI, or drops it. (R301.) -/
  | doorbellMessage (t : Stamp) (src : Nat) (hart : Nat) (file : Nat) (guest : Nat) (eiid : Nat) (secure : Bool)
  /-- A partner stores a mirrored record in its slot and acknowledges it. (R305.) -/
  | mirrorRecord (t : Stamp) (src : Nat) (journal : Nat) (seq : Nat) (bytes : List Byte) (drained : Nat)
  /-- A partner applies confirm and void marks and frees records up to the source's DRAINED_SEQ. (R306.) -/
  | mirrorMark (t : Stamp) (src : Nat) (journal : Nat) (seq : Nat) (fl : Nat) (drained : Nat) (ended : Bool)
  /-- A write of BLK_CLK_CTRL.GATE gates or ungates the block clock, or is refused while the block is held. (R327.) -/
  | blkClkCtrl (t : Stamp) (via : Via) (addr : Nat) (size : Nat) (value : Nat)
  /-- A write of WLD_BLK_SEC.SVOTE sets or withdraws the secure power vote and restores a gated clock. (R326.) -/
  | svote (t : Stamp) (via : Via) (addr : Nat) (size : Nat) (value : Nat)
  /-- A write of WLD_BLK_SEC.SGATE gates or ungates a held block's clock. (R327.) -/
  | sgate (t : Stamp) (via : Via) (addr : Nat) (size : Nat) (value : Nat)
  /-- A debug halt request halts a hart whose world's invasive enable applies, or stays pending. (R329.) -/
  | debugHaltRequest (t : Stamp) (h : Nat)
  /-- An FLR, or VF Enable cleared, stops the function, records its ops aborted, aborts reads and resets it within 100 ms. (R356.) -/
  | functionLevelReset (t : Stamp) (p : Nat) (fn : Nat) (vfClear : Bool)
  /-- At 100 ms the function's registers reset, its channels restart at 0, old records are freed and EV_VF_RESET is written. (R356.) -/
  | resetCompletion (t : Stamp) (p : Nat) (fn : Nat)
  /-- Clearing Bus Master Enable stops the function, aborts its reads and records its ops aborted. (R355.) -/
  | busMasterEnableClear (t : Stamp) (p : Nat) (fn : Nat)
  /-- Setting Bus Master Enable again resumes fetching from each channel's SQ_HEAD. (R355.) -/
  | busMasterEnableSet (t : Stamp) (p : Nat) (fn : Nat)
  /-- A root port takes a device memory request as an MSI, or maps it through an inbound window to memory, or refuses it. (R339.) -/
  | inboundRequest (t : Stamp) (p : Nat) (j : Nat) (q : InReq)
  /-- A non-posted request not completed by s + T is answered as timed out and its tag quarantined. (R354.) -/
  | completionTimeout (t : Stamp) (p : Nat) (tag : Nat)
  /-- A completion arriving after timeout or abort is dropped, logged and may free its tag. (R354.) -/
  | lateCompletion (t : Stamp) (p : Nat) (tag : Nat) (last : Bool)
  /-- A quarantined PCI Express tag is freed at the timeout stamp + 4 × T. (R354.) -/
  | tagQuarantineExpiry (t : Stamp) (p : Nat) (tag : Nat)
  /-- A root link enters containment on ERR_FATAL, a fatal error or the safe state, timing out its reads. (R352.) -/
  | downstreamPortContainment (t : Stamp) (p : Nat) (j : Nat) (err : Option Nat)
  /-- Software clearing DPC Trigger Status re-enables a contained root link. (R352.) -/
  | dpcTriggerStatusClear (t : Stamp) (p : Nat) (j : Nat)
  /-- A source event latches its bit, adds to its bucket and drives the error pins upward. (R357.) -/
  | faultEvent (t : Stamp) (e : FaultEvt)
  /-- A bucket loses 1 at each leak stamp while LEVEL is above 0. (R365.) -/
  | bucketLeak (t : Stamp) (c : Coll) (b : Nat) (e : Option Nat)
  /-- On a rising pin the keeper reads collectors downward, writes fault records and clears NOTE and CORRECTED bits. (R364.) -/
  | faultRecordWrite (t : Stamp)
  /-- Every 1 ms the keeper reads EVENTS of latched DEGRADE and FATAL sources and writes further records. (R364.) -/
  | latchedSourcePoll (t : Stamp)
  /-- At each keeper tick the sequencer starts each queued activity whose matrix entries allow. (R374.) -/
  | maintQueueWalk (t : Stamp)
  /-- A maintenance activity ends done, aborted or failed, completes its command and writes EV_MAINT_DONE. (R376.) -/
  | activityEnd (t : Stamp) (id : Nat) (ok : Bool)
  /-- A pending rewrite of a corrected line enters the controller queue at the first free shared entry. (R227.) -/
  | demandScrubRewrite (t : Stamp) (c : Nat)
  /-- The copy hold ends when the course has delivered every flit its replay buffer held at the stall. (R377.) -/
  | copyHoldEnd (t : Stamp) (idx : Nat)
  /-- WFI moves a core to GATED, RETAIN or OFF by IDLE_STATE while no enabled interrupt is pending. (R380.) -/
  | wfi (t : Stamp) (x : Fetched)
  /-- A pending interrupt or admitted halt request returns a core to RUN, from OFF at its reset vector. (R381.) -/
  | coreWake (t : Stamp) (h : Nat)
  /-- A write of CORE_PWR.CLK_SRC requests a switch between oscillator and block PLL. (R382.) -/
  | clkSrc (t : Stamp) (via : Via) (addr : Nat) (size : Nat) (value : Nat)
  /-- The core switches to its block PLL at the first core-clock boundary after the PLL reports lock. (R382.) -/
  | clockSwitch (t : Stamp) (c : Nat)
  /-- When the last hold of a domain is removed, it flushes, fences, clamps and powers off within 1 ms. (R384.) -/
  | domainOff (t : Stamp) (idx : Nat)
  /-- A hold arising on an OFF domain powers it on within 1 ms. (R384.) -/
  | domainOn (t : Stamp) (idx : Nat)
  /-- After 64 quiet frames the package enters IDLE, and unbooked memory nodes self-refresh. (R386.) -/
  | idleEntry (t : Stamp)
  /-- With the package vote withdrawn and all conditions met, the package enters ECLIPSE at a keeper tick. (R387.) -/
  | eclipseEntry (t : Stamp)
  /-- An address match on a sideband bus wakes the package from ECLIPSE back to ACTIVE. (R388.) -/
  | eclipseWake (t : Stamp) (i3c : Bool) (trained : List Trained)
  /-- A regulator's acknowledgement of a voltage request lets a frequency raise take effect. (R390.) -/
  | avsbusAcknowledgement (t : Stamp) (r : Nat)
  /-- An acknowledgement missing after 500 µs sets TIMEOUT, latches source 35 and schedules a repeat. (R390.) -/
  | avsbusTimeout (t : Stamp) (r : Nat)
  /-- An unacknowledged voltage request is made again 1 ms later. (R390.) -/
  | avsbusRetry (t : Stamp) (r : Nat)
  /-- Every 10 ms the keeper reads regulator status and VSAVE input, and decides Nightfall arming. (R391.) -/
  | pmbusPoll (t : Stamp) (regs : List RegStatus) (vin : Nat)
  /-- A junction at or above 103 °C for 1 ms lowers f_c by 100 MHz per further 1 ms, as a trigger. (R394.) -/
  | junctionCapping (t : Stamp) (die : Nat)
  /-- A lid at or above 85 °C for 1 ms lowers f_c of all bricks. (R394.) -/
  | lidCapping (t : Stamp)
  /-- An IOUT_OC_WARN lowers f_c of the rail's domains by 100 MHz per 10 ms. (R394.) -/
  | regulatorCapping (t : Stamp) (r : Nat)
  /-- After 100 ms in the clear, f_c rises by 100 MHz per 100 ms as an upward trigger. (R394.) -/
  | cappingLift (t : Stamp) (cause : Nat) (u : Nat)
  /-- A junction at or above 110 °C latches FATAL source 36 and asserts THERMTRIP_N. (R395.) -/
  | thermalTrip (t : Stamp) (die : Nat)
  /-- SAG_WARN_N or VIN_SENSE qualifies a trigger: admission stops, cores halt, domains are fenced and the save begins. (R397.) -/
  | nightfallTrigger (t : Stamp) (cause : Nat)
  /-- The save-store controller finishes writing the slot, writes the header as complete and releases NF_ACTIVE_N. (R408.) -/
  | saveComplete (t : Stamp)
  /-- The save shadow finishes loading every listed range and sets SHADOW_READY. (R404.) -/
  | shadowLoadDone (t : Stamp)
  /-- A write of CTR_CFG changes a counter's event and filters from its stamp on. (R419.) -/
  | ctrCfg (t : Stamp) (via : Via) (addr : Nat) (size : Nat) (value : Nat)
  /-- A read of CTR_VALUE samples the counter at the read's stamp, with its low 16 bits. (R420.) -/
  | ctrValue (t : Stamp) (via : Via) (addr : Nat) (size : Nat)
  /-- A write to a register with no row of its own is taken by its block's register port, with the RWL, SRW, RSV and W1C rules. (R32.) -/
  | registerWrite (t : Stamp) (via : Via) (addr : Nat) (size : Nat) (value : Nat)
  /-- A core load, store, fetch, AMO or LR/SC is performed through its L1 and block cache, with access faults, poison, world checks and pair comparison. (R28.) -/
  | coreLoadStoreFetch (t : Stamp) (h : Nat) (a : Access)
  /-- A CSR instruction reads or writes an Xbcn CSR, STBTIME or time, mip bit 21, a satp mode or an hpm counter, with the permission and write-ignore rules. (R176.) -/
  | csrAccess (t : Stamp) (h : Nat) (ins : Nat)
  /-- A memory controller issues the next patrol read of its node at the pass pace while its queue level is 0, correcting, rewriting or poisoning the line. (R226.) -/
  | patrolScrubRead (t : Stamp) (n : Nat) (outcome : Nat) (e : Option Nat)
  /-- A patrol pass not finished within 1.5 × PATROL_H raises a NOTE on channel source 7. (R226.) -/
  | patrolPassLate (t : Stamp) (n : Nat)
  /-- A change of PE_EP_PERST_N holds an endpoint port in fundamental reset or releases it to train and answer Request Retry Status until READY. (R336.) -/
  | endpointFundamentalReset (t : Stamp) (p : Nat) (high : Bool) (width : Nat) (speed : Nat) (flit : Bool)
  /-- Removal of package power after a Nightfall or a thermal trip leaves the package unpowered, releases THERMTRIP_N with VIO and loses the STB count. (R85.) -/
  | powerLoss (written : Nat)
  /-- A 48-bit counter wrapping from 2^48 − 1 to 0 sets its OF and, if OF was 0, raises the counter-overflow interrupt. (R422.) -/
  | counterWrap (t : Stamp) (bank : Nat) (idx : Nat)
  /-- A command that received ST_PENDING finishes its timed sequence and the keeper writes its final completion. (R51.) -/
  | finalCompletion (t : Stamp) (m : Nat) (seq : Nat)
deriving DecidableEq, Repr

end Sys2Proof
end

