-- ==== Sys2Proof/Config.lean ====
section
/-! DEFINITION. The free values: what the spec leaves open. They are opaque, so that no proof can use a value of them. -/

namespace Sys2Proof.Config

/-- A free value: fresh for every count it is applied to (log 8). -/
opaque freeValue : Nat → Nat

/-- Whether an ECDSA P-384 signature of a message is good under a public key (R78, R81, R432); the algorithm is its
standard's (log 10). -/
opaque p384Verify : List (BitVec 8) → List (BitVec 8) → List (BitVec 8) → Bool

/-- The SHA-384 hash of a message (R432; log 10). -/
opaque sha384 : List (BitVec 8) → List (BitVec 8)

/-- Whether the signature of a site image is good under a site-signing key of which the keystone's fuses hold the hash (R81, R430); where
the key itself stands the spec does not say (log 10). -/
opaque siteVerify : List (BitVec 8) → List (BitVec 8) → List (BitVec 8) → Bool

/-- A byte of a configuration space whose value is fixed and not stated (R334, R341): of the physical function (0), a virtual function (1) or
a root link (2), by its offset (log 15). -/
opaque cfgByte : Nat → Nat → Nat

/-- The fused voltage in mV of a VCORE rail for a ceiling in steps of 25 MHz (R389; log 8). -/
opaque railMv : Nat → Nat → Nat

/-- The fused voltage in mV of VCACHE (rail 2) or VKS (rail 3) for a temperature band of 10 °C (R389; log 8). -/
opaque bandMv : Nat → Nat → Nat

/-- A byte of a save-store image, by IMAGE_SEQ and offset in its slot, whose layout or value the spec does not give: the keeper's memory,
the journal store, the second halves of op-table entries, and what the shadow had not loaded (R404, R405; log 8). -/
opaque saveByte : Nat → Nat → BitVec 8

end Sys2Proof.Config
end

