-- ==== Sys2Proof/Machine/FaultTable.lean ====
section
/-! DEFINITION. The collectors of R357 and the source table of R367 and R396: for each kind of unit its sources, their
default severities, the fixed FATAL sources, and the buckets' defaults. -/

namespace Sys2Proof.Machine

/-- The place of a collector among the collectors: the chip, the 16 regions, the 136 blocks (level 16 is the chip's
own), and 16 cells of each block. -/
def Coll.idx : Coll → Nat
  | .chip => 0
  | .region r => 1 + r
  | .block l b => 17 + l * 8 + b
  | .cell l b k => 153 + (l * 8 + b) * 16 + k

/-- The collector at a place, the inverse of `Coll.idx`. -/
def collAt (i : Nat) : Coll :=
  if i = 0 then .chip
  else if i < 17 then .region (i - 1)
  else if i < 153 then .block ((i - 17) / 8) ((i - 17) % 8)
  else .cell ((i - 153) / 16 / 8) ((i - 153) / 16 % 8) ((i - 153) % 16)

/-- The collector above, and the bit that stands there for this one (R357). -/
def Coll.parent : Coll → Option (Coll × Nat)
  | .chip => none
  | .region r => some (.chip, r)
  | .block l b => if l = 16 then some (.chip, 16 + b) else some (.region l, b)
  | .cell l b k => some (.block l b, k)

/-- The UNIT of R58 that names a collector's unit. -/
def Coll.unit : Coll → Nat
  | .chip => 0x00FFFFFF
  | .region r => 0x00FFFF00 + r
  | .block l b => 0x00FF0000 + b * 256 + (if l = 16 then 255 else l)
  | .cell l b k => k * 65536 + b * 256 + (if l = 16 then 255 else l)

/-- The kinds of unit of R367. -/
inductive UnitKind where
  | core | coreBlock | ddr | hbm | slice | engine | dispatcher | pcie | link | brick | quadrant | chip | other
deriving DecidableEq, Repr

/-- Which kind of unit a collector collects for (R22, R23, R367). -/
def Coll.kind : Coll → UnitKind
  | .chip => .chip
  | .region r => if r < 12 then .brick else .quadrant
  | .block l _ => if l < 12 then .coreBlock else .other
  | .cell l b k =>
    if l < 12 then (if b < 6 ∧ k < 4 then .core else .other)
    else if l < 16 then
      if b < 2 then (if k < 2 then .ddr else .other)
      else if b = 2 then .hbm
      else if b < 5 then (if k < 8 then .slice else .other)
      else if b = 5 then (if k < 2 then .pcie else .other)
      else if b = 6 then (if k < 2 then .link else .other)
      else if k < 4 then .engine else .other
    else if b = 2 ∧ k = 0 then .dispatcher else .other

/-- What an element bucket of a source is kept for (R366). -/
inductive ElemKind where
  | none | setWay | row | device | lane | wavelength
deriving DecidableEq, Repr

/-- A source of R367: default severity, whether it is fixed at FATAL, the bucket's threshold and leak period in ms (0
without a bucket), and what its element buckets are kept for. -/
structure Source where
  sev : Nat
  fixed : Bool
  thr : Nat
  leak : Nat
  elem : ElemKind
deriving DecidableEq, Repr

/-- R366: whether a source's THRESHOLD and LEAK_MS can be set: it has a bucket of its own, or lane buckets; other element buckets keep the
defaults of R367. -/
def Source.settable (d : Source) : Bool := d.thr != 0 && (d.elem == .none || d.elem == .lane)

/-- A bucket's leak of 1 h, in ms. -/
def hour : Nat := 3600000
/-- A bucket's leak of 24 h, in ms. -/
def day : Nat := 86400000

/-- A source without a bucket. -/
def plainSource (sev : Nat) : Source := ⟨sev, false, 0, 0, .none⟩
/-- A source fixed at FATAL. -/
def fixedSource : Source := ⟨3, true, 0, 0, .none⟩

/-- R367 and R396: the source of a bit of a kind of unit; none where the bit is not assigned. -/
def sourceOf : UnitKind → Nat → Option Source
  | .core, b => match b with
    | 0 => some ⟨1, false, 8, hour, .setWay⟩
    | 1 => some ⟨1, false, 8, hour, .setWay⟩
    | 2 => some ⟨1, false, 2, day, .setWay⟩
    | 3 => some ⟨2, false, 1, day, .setWay⟩
    | 4 => some ⟨1, false, 4, hour, .setWay⟩
    | 5 => some fixedSource
    | 6 => some (plainSource 2)
    | 7 => some (plainSource 2)
    | _ => none
  | .coreBlock, b => match b with
    | 16 => some ⟨1, false, 16, hour, .setWay⟩
    | 17 => some ⟨1, false, 4, day, .setWay⟩
    | 18 => some ⟨2, false, 1, day, .setWay⟩
    | 19 => some ⟨1, false, 4, hour, .setWay⟩
    | 20 => some fixedSource
    | 21 => some (plainSource 2)
    | _ => none
  | .ddr, b => match b with
    | 0 => some ⟨1, false, 4096, hour, .none⟩
    | 1 => some ⟨2, false, 16, day, .none⟩
    | 2 => some ⟨1, false, 4, day, .row⟩
    | 3 => some ⟨1, false, 512, hour, .device⟩
    | 4 => some (plainSource 2)
    | 5 => some (plainSource 2)
    | 6 => some ⟨1, false, 256, hour, .none⟩
    | 7 => some (plainSource 0)
    | _ => none
  | .hbm, b => match b with
    | 0 => some ⟨1, false, 4096, hour, .none⟩
    | 1 => some ⟨2, false, 16, day, .none⟩
    | 2 => some ⟨1, false, 4, day, .row⟩
    | 5 => some (plainSource 2)
    | _ => none
  | .slice, b => match b with
    | 0 => some ⟨1, false, 1024, hour, .none⟩
    | 1 => some fixedSource
    | 2 => some fixedSource
    | 3 => some (plainSource 0)
    | 4 => some (plainSource 2)
    | _ => none
  | .engine, b => match b with
    | 0 => some (plainSource 0)
    | 1 => some (plainSource 2)
    | 2 => some (plainSource 2)
    | 3 => some ⟨1, false, 16, hour, .setWay⟩
    | 4 => some ⟨2, false, 1, day, .setWay⟩
    | _ => none
  | .dispatcher, b => if b = 0 then some (plainSource 2) else none
  | .pcie, b => match b with
    | 0 => some ⟨1, false, 256, 1000, .none⟩
    | 1 => some ⟨1, false, 16, hour, .none⟩
    | 2 => some (plainSource 0)
    | 3 => some (plainSource 2)
    | _ => none
  | .link, b => match b with
    | 0 => some ⟨1, false, 32, 100, .wavelength⟩
    | 1 => some (plainSource 2)
    | 2 => some (plainSource 0)
    | 3 => some (plainSource 2)
    | _ => none
  | .brick, b => match b with
    | 8 => some ⟨1, false, 1024, hour, .none⟩
    | 9 => some fixedSource
    | 10 => some fixedSource
    | 11 => some ⟨1, false, 32, 100, .lane⟩
    | 12 => some ⟨1, false, 32, 100, .lane⟩
    | 13 => some ⟨1, false, 32, 100, .lane⟩
    | 14 => some ⟨1, false, 32, 100, .lane⟩
    | 15 => some (plainSource 2)
    | 16 => some (plainSource 2)
    | 17 => some (plainSource 2)
    | 18 => some (plainSource 2)
    | 19 => some (plainSource 2)
    | 20 => some (plainSource 2)
    | 21 => some (plainSource 2)
    | 22 => some (plainSource 0)
    | 23 => some (plainSource 2)
    | 24 => some (plainSource 2)
    | _ => none
  | .quadrant, b => match b with
    | 8 => some ⟨1, false, 1024, hour, .none⟩
    | 9 => some fixedSource
    | 10 => some fixedSource
    | 19 => some (plainSource 2)
    | 20 => some (plainSource 2)
    | 22 => some (plainSource 0)
    | 24 => some fixedSource
    | _ => none
  | .chip, b => match b with
    | 24 => some (plainSource 0)
    | 25 => some (plainSource 2)
    | 26 => some fixedSource
    | 27 => some (plainSource 2)
    | 28 => some (plainSource 2)
    | 29 => some (plainSource 2)
    | 30 => some ⟨1, false, 64, hour, .none⟩
    | 31 => some fixedSource
    | 32 => some (plainSource 0)
    | 33 => some (plainSource 2)
    | 34 => some (plainSource 2)
    | 35 => some (plainSource 2)
    | 36 => some fixedSource
    | 37 => some (plainSource 2)
    | 38 => some (plainSource 2)
    | 39 => some ⟨2, false, 8, day, .none⟩
    | 40 => some (plainSource 0)
    | 41 => some (plainSource 0)
    | _ => none
  | .other, _ => none

/-- The bits of a collector that stand for a lower collector (R357). -/
def Coll.lowerBit (c : Coll) (b : Nat) : Bool :=
  match c with
  | .chip => b < 24
  | .region _ => b < 8
  | .block _ _ => b < 16
  | .cell _ _ _ => false

/-- The lower collector that a bit stands for. -/
def Coll.lower (c : Coll) (b : Nat) : Coll :=
  match c with
  | .chip => if b < 16 then .region b else .block 16 (b - 16)
  | .region r => .block r b
  | .block l k => .cell l k b
  | .cell l k j => .cell l k j

/-- The source that a bit of a collector stands for (R367). -/
def Coll.source (c : Coll) (b : Nat) : Option Source := if c.lowerBit b then none else sourceOf c.kind b

/-- The reset word of the severity registers (R360, R367): 2 bits for each of 32 sources from `base` up. -/
def sevReset (c : Coll) (base : Nat) : Nat :=
  ((List.range 32).map (fun i => ((c.source (base + i)).map Source.sev).getD 0 * 4 ^ i)).sum

/-- The fixed FATAL sources of a collector (R360). -/
def fixedReset (c : Coll) : Nat :=
  ((List.range 64).map (fun i => if ((c.source i).map Source.fixed).getD false then 2 ^ i else 0)).sum

end Sys2Proof.Machine
end

