-- ==== Sys2Proof/Machine/Regs.lean ====
section
/-! DEFINITION. The register file of the package: every register of the spec's register tables by name, its fields
with their places, access types (R4) and reset values, and the reset word of each register. -/

namespace Sys2Proof.Machine

/-- The access types of R4. -/
inductive Acc where
  | ro | rw | rwl | srw | w1c | w1s | rc | wo
deriving DecidableEq, Repr

/-- Every register the spec's register tables name, one constructor each. A register the spec repeats for many units
is one constructor, told apart by its index. -/
inductive Reg where
  | CHIP_ID
  | DIE_ID
  | MBX_CFG
  | MBX_DOORBELL
  | MBX_STATUS
  | MBX_CMP_HEAD
  | MBX_EVT_HEAD
  | MBX_SEQ
  | MBX_IRQ
  | MBX_EVT_MASK
  | MBX_ERR
  | STB_NOW
  | STB_STATE
  | STB_PPS_STAMP
  | STB_OFFSET
  | STB_TRIM
  | STB_EVT
  | STB_CTRL
  | STB_EPOCH
  | STB_REPLICA
  | ALM_STATUS
  | ALM_RECOMPUTE
  | ALM_TRIGGER
  | ALM_NEXT_ID
  | ALM_EVT
  | ALM_CAP
  | ALM_SHARE
  | ALM_RING_MASK
  | ALM_COURSE_MASK
  | ALM_METER
  | ALM_TAG_CFG
  | IE_STATUS
  | IE_EVT
  | IE_SPOOF_LOG
  | IE_SPOOF_STAMP
  | IE_CH_STATE
  | IE_CH_DB
  | DSP_STATUS
  | DSP_TIMES
  | DSP_EVT
  | DSP_GROUP
  | DSP_CORE
  | OPT_STATUS
  | OPT_TAG
  | JNL_STATUS
  | JNL_EVT
  | JNL_TAG
  | JNL_SEQ
  | JNL_DRAIN_MAP
  | JNL_DRAIN
  | BTAG
  | TOPID
  | MWORLD
  | MXBCFG
  | SXBCFG
  | IEC_CFG
  | IEC_RANGE
  | IEC_STATUS
  | CORE_ARB_HINT
  | CORE_PAIR
  | MEM_NODE
  | MC_STATUS
  | MC_ERR_LOG
  | CORE_WALK_ERR
  | CORE_WALK_ADDR
  | CORE_WALK_STAT
  | POOL_STATE
  | RING_CTRL
  | RING_STATUS
  | RING_STOP_CNT
  | ARB_PORT
  | HA_STATUS
  | HA_SF_STAT
  | HA_ERR_LOG
  | CRS_STATUS
  | CRS_BAD_LO_K
  | CRS_BAD_LO_B
  | CRS_BAD_HI
  | CRS_REMAP
  | CRS_COUNT
  | CRS_EVT
  | SB_STATUS
  | DIE_ERRATA
  | CHIP_WORKAROUND
  | LB_STATUS
  | LINK_STATUS
  | LINK_COUNT
  | LINK_EVT
  | LINK_TRACK
  | CST_STATUS
  | CST_CTRL
  | CST_MSG_SEND
  | CST_MSG_STATUS
  | CST_ROUTE
  | CST_MEMBERS
  | CST_EXPORT
  | CST_MSG_ALLOW
  | CST_MIRROR_SLOT
  | WLD_GATE
  | CORE_WFRAME
  | BLK_CLK_CTRL
  | WLD_BLK_STATE
  | WLD_BLK_SEC
  | WLD_PORT
  | WLD_DEBUG
  | TNT_VF
  | PCIE_PORT_STATUS
  | PCIE_LINK
  | PCIE_PORT_EVT
  | PCIE_TAGS
  | RP_OUT
  | RP_MSI
  | RP_IRQ
  | EP_APERTURE
  | RP_IN_WIN
  | FLT_STATUS
  | FLT_SEV_LO
  | FLT_SEV_HI
  | FLT_FIXED
  | FLT_FIRST
  | FLT_SRC
  | FLT_SECURE
  | CHIP_SAFE
  | MNT_STATE
  | CORE_PWR
  | BLK_FREQ
  | PWR_DOMAIN
  | PPM_STATUS
  | PPM_RAIL
  | PPM_CEIL
  | NF_STATUS
  | NF_CFG
  | CTR_BANK
  | CTR_RANGE
  | CTR_CFG
  | CTR_VALUE
  | CTR_BW
  | CTR_USER_MAP
  | BOOT_STATUS
  | BOOT_VEC
  | STRAP_STATUS
  | DIE_CAP
  | CHIP_CAP_EFFECTIVE
deriving DecidableEq, Repr

/-- One field of a register: the register, the 64-bit word of it, the lowest bit, the width, the access type (R4) and
the reset value its table gives. -/
structure Fld where
  reg : Reg
  word : Nat
  lo : Nat
  w : Nat
  acc : Acc
  reset : Nat
deriving DecidableEq, Repr

/-- Field `k` of a field that its table repeats every `stride` bits. -/
def Fld.nth (f : Fld) (stride k : Nat) : Fld := { f with lo := f.lo + stride * k }

/- CHIP_ID (R33, spec/01_package_and_hierarchy.md). -/
def CHIP_ID.PART : Fld := ⟨.CHIP_ID, 0, 0, 16, .ro, 37512⟩
def CHIP_ID.KS_MASK : Fld := ⟨.CHIP_ID, 0, 16, 4, .ro, 0⟩
def CHIP_ID.KS_METAL : Fld := ⟨.CHIP_ID, 0, 20, 4, .ro, 2⟩
def CHIP_ID.BRICK_UP : Fld := ⟨.CHIP_ID, 0, 24, 12, .ro, 0⟩
def CHIP_ID.BRICK_STEP : Fld := ⟨.CHIP_ID, 0, 36, 12, .ro, 0⟩
def CHIP_ID.CONST_NUMBER : Fld := ⟨.CHIP_ID, 0, 48, 10, .ro, 0⟩
/- DIE_ID (R33, spec/01_package_and_hierarchy.md). -/
def DIE_ID.DIE_TYPE : Fld := ⟨.DIE_ID, 0, 0, 4, .ro, 0⟩
def DIE_ID.MASK : Fld := ⟨.DIE_ID, 0, 4, 4, .ro, 0⟩
def DIE_ID.METAL : Fld := ⟨.DIE_ID, 0, 8, 4, .ro, 0⟩
def DIE_ID.POSITION : Fld := ⟨.DIE_ID, 0, 12, 4, .ro, 0⟩
def DIE_ID.SERIAL : Fld := ⟨.DIE_ID, 0, 16, 32, .ro, 0⟩
def DIE_ID.TEST_REV : Fld := ⟨.DIE_ID, 0, 48, 8, .ro, 0⟩
def DIE_ID.UP : Fld := ⟨.DIE_ID, 0, 63, 1, .ro, 0⟩
/- MBX_CFG (R46, spec/02_keeper_and_mailboxes.md). -/
def MBX_CFG.PATH : Fld := ⟨.MBX_CFG, 0, 0, 2, .ro, 0⟩
def MBX_CFG.PORT : Fld := ⟨.MBX_CFG, 0, 2, 3, .ro, 0⟩
def MBX_CFG.SECURE : Fld := ⟨.MBX_CFG, 0, 5, 1, .ro, 0⟩
/- MBX_DOORBELL (R46, spec/02_keeper_and_mailboxes.md). -/
def MBX_DOORBELL.CMD_TAIL : Fld := ⟨.MBX_DOORBELL, 0, 0, 5, .wo, 0⟩
def MBX_DOORBELL.RESET : Fld := ⟨.MBX_DOORBELL, 0, 63, 1, .wo, 0⟩
/- MBX_STATUS (R46, spec/02_keeper_and_mailboxes.md). -/
def MBX_STATUS.CMD_HEAD : Fld := ⟨.MBX_STATUS, 0, 0, 5, .ro, 0⟩
def MBX_STATUS.CMP_TAIL : Fld := ⟨.MBX_STATUS, 0, 8, 5, .ro, 0⟩
def MBX_STATUS.EVT_TAIL : Fld := ⟨.MBX_STATUS, 0, 16, 6, .ro, 0⟩
def MBX_STATUS.EVT_LOST : Fld := ⟨.MBX_STATUS, 0, 24, 8, .ro, 0⟩
def MBX_STATUS.READY : Fld := ⟨.MBX_STATUS, 0, 32, 1, .ro, 0⟩
def MBX_STATUS.KEEPER_RESTART : Fld := ⟨.MBX_STATUS, 0, 33, 1, .ro, 0⟩
/- MBX_CMP_HEAD (R46, spec/02_keeper_and_mailboxes.md). -/
def MBX_CMP_HEAD.CMP_HEAD : Fld := ⟨.MBX_CMP_HEAD, 0, 0, 5, .rw, 0⟩
/- MBX_EVT_HEAD (R46, spec/02_keeper_and_mailboxes.md). -/
def MBX_EVT_HEAD.EVT_HEAD : Fld := ⟨.MBX_EVT_HEAD, 0, 0, 6, .rw, 0⟩
/- MBX_SEQ (R46, spec/02_keeper_and_mailboxes.md). -/
def MBX_SEQ.SEQ_EXPECT : Fld := ⟨.MBX_SEQ, 0, 0, 32, .ro, 0⟩
/- MBX_IRQ (R46, spec/02_keeper_and_mailboxes.md). -/
def MBX_IRQ.CMP_EN : Fld := ⟨.MBX_IRQ, 0, 0, 1, .rw, 0⟩
def MBX_IRQ.EVT_EN : Fld := ⟨.MBX_IRQ, 0, 1, 1, .rw, 0⟩
def MBX_IRQ.HART : Fld := ⟨.MBX_IRQ, 0, 2, 9, .rw, 0⟩
def MBX_IRQ.FILE : Fld := ⟨.MBX_IRQ, 0, 11, 2, .rw, 0⟩
def MBX_IRQ.GUEST : Fld := ⟨.MBX_IRQ, 0, 13, 6, .rw, 0⟩
def MBX_IRQ.EIID : Fld := ⟨.MBX_IRQ, 0, 19, 11, .rw, 0⟩
/- MBX_EVT_MASK (R46, spec/02_keeper_and_mailboxes.md). -/
def MBX_EVT_MASK.EVT_EN : Fld := ⟨.MBX_EVT_MASK, 0, 1, 63, .rw, 9223372036854775807⟩
/- MBX_ERR (R46, spec/02_keeper_and_mailboxes.md). -/
def MBX_ERR.RING_OVERRUN : Fld := ⟨.MBX_ERR, 0, 0, 1, .w1c, 0⟩
def MBX_ERR.BAD_DOORBELL : Fld := ⟨.MBX_ERR, 0, 1, 1, .w1c, 0⟩
def MBX_ERR.BAD_POINTER : Fld := ⟨.MBX_ERR, 0, 2, 1, .w1c, 0⟩
def MBX_ERR.PATH_VIOLATION : Fld := ⟨.MBX_ERR, 0, 3, 1, .w1c, 0⟩
/- STB_NOW (R106, spec/03_sidereal_time_base.md). -/
def STB_NOW.STB : Fld := ⟨.STB_NOW, 0, 0, 64, .ro, 0⟩
/- STB_STATE (R106, spec/03_sidereal_time_base.md). -/
def STB_STATE.STATE : Fld := ⟨.STB_STATE, 0, 0, 3, .ro, 0⟩
def STB_STATE.SOURCE : Fld := ⟨.STB_STATE, 0, 3, 2, .ro, 0⟩
def STB_STATE.LINK : Fld := ⟨.STB_STATE, 0, 5, 3, .ro, 0⟩
def STB_STATE.HOLDOVER_EN : Fld := ⟨.STB_STATE, 0, 8, 1, .ro, 0⟩
def STB_STATE.STEPPED : Fld := ⟨.STB_STATE, 0, 9, 1, .ro, 0⟩
def STB_STATE.RESYNC : Fld := ⟨.STB_STATE, 0, 10, 1, .ro, 0⟩
def STB_STATE.FALLBACK : Fld := ⟨.STB_STATE, 0, 32, 16, .ro, 0⟩
/- STB_PPS_STAMP (R106, spec/03_sidereal_time_base.md). -/
def STB_PPS_STAMP.STAMP : Fld := ⟨.STB_PPS_STAMP, 0, 0, 64, .ro, 0⟩
/- STB_OFFSET (R106, spec/03_sidereal_time_base.md). -/
def STB_OFFSET.OFFSET_PS : Fld := ⟨.STB_OFFSET, 0, 0, 32, .ro, 0⟩
def STB_OFFSET.HOLDOVER_MS : Fld := ⟨.STB_OFFSET, 0, 32, 32, .ro, 0⟩
/- STB_TRIM (R106, spec/03_sidereal_time_base.md). -/
def STB_TRIM.TRIM_PPB : Fld := ⟨.STB_TRIM, 0, 0, 24, .ro, 0⟩
/- STB_EVT (R106, spec/03_sidereal_time_base.md). -/
def STB_EVT.PULSE_INVALID : Fld := ⟨.STB_EVT, 0, 0, 1, .w1c, 0⟩
def STB_EVT.REF_LOST : Fld := ⟨.STB_EVT, 0, 1, 1, .w1c, 0⟩
def STB_EVT.HOLDOVER_EXPIRED : Fld := ⟨.STB_EVT, 0, 2, 1, .w1c, 0⟩
def STB_EVT.REPLICA_ERR : Fld := ⟨.STB_EVT, 0, 3, 1, .w1c, 0⟩
def STB_EVT.STEPPED : Fld := ⟨.STB_EVT, 0, 4, 1, .w1c, 0⟩
/- STB_CTRL (R106, spec/03_sidereal_time_base.md). -/
def STB_CTRL.SOURCE : Fld := ⟨.STB_CTRL, 0, 0, 2, .srw, 0⟩
def STB_CTRL.LINK : Fld := ⟨.STB_CTRL, 0, 2, 3, .srw, 0⟩
def STB_CTRL.HOLDOVER_EN : Fld := ⟨.STB_CTRL, 0, 5, 1, .srw, 0⟩
def STB_CTRL.HOLDOVER_S : Fld := ⟨.STB_CTRL, 0, 32, 17, .srw, 0⟩
/- STB_EPOCH (R106, spec/03_sidereal_time_base.md). -/
def STB_EPOCH.EPOCH : Fld := ⟨.STB_EPOCH, 0, 0, 64, .srw, 0⟩
/- STB_REPLICA (R106, spec/03_sidereal_time_base.md). -/
def STB_REPLICA.PATH : Fld := ⟨.STB_REPLICA, 0, 0, 1, .ro, 0⟩
def STB_REPLICA.REPLICA_ERR : Fld := ⟨.STB_REPLICA, 0, 1, 1, .w1c, 0⟩
def STB_REPLICA.FINE_TRIM : Fld := ⟨.STB_REPLICA, 0, 4, 8, .ro, 0⟩
def STB_REPLICA.COARSE_DELAY : Fld := ⟨.STB_REPLICA, 0, 12, 12, .ro, 0⟩
def STB_REPLICA.RESIDUAL : Fld := ⟨.STB_REPLICA, 0, 24, 8, .ro, 0⟩
/- ALM_STATUS (R136, spec/04_almanac_admission.md). -/
def ALM_STATUS.RECOMPUTING : Fld := ⟨.ALM_STATUS, 0, 0, 1, .ro, 0⟩
def ALM_STATUS.WITHDRAWING : Fld := ⟨.ALM_STATUS, 0, 1, 1, .ro, 0⟩
def ALM_STATUS.BOOKINGS : Fld := ⟨.ALM_STATUS, 0, 16, 15, .ro, 0⟩
def ALM_STATUS.GENERATION : Fld := ⟨.ALM_STATUS, 0, 32, 32, .ro, 0⟩
/- ALM_RECOMPUTE (R136, spec/04_almanac_admission.md). -/
def ALM_RECOMPUTE.STAMP : Fld := ⟨.ALM_RECOMPUTE, 0, 0, 64, .ro, 0⟩
/- ALM_TRIGGER (R136, spec/04_almanac_admission.md). -/
def ALM_TRIGGER.STAMP : Fld := ⟨.ALM_TRIGGER, 0, 0, 64, .ro, 0⟩
/- ALM_NEXT_ID (R136, spec/04_almanac_admission.md). -/
def ALM_NEXT_ID.NEXT_ID : Fld := ⟨.ALM_NEXT_ID, 0, 0, 32, .ro, 1⟩
/- ALM_EVT (R136, spec/04_almanac_admission.md). -/
def ALM_EVT.RECOMPUTED : Fld := ⟨.ALM_EVT, 0, 0, 1, .w1c, 0⟩
def ALM_EVT.REVOKED : Fld := ⟨.ALM_EVT, 0, 1, 1, .w1c, 0⟩
def ALM_EVT.WITHDRAWN : Fld := ⟨.ALM_EVT, 0, 2, 1, .w1c, 0⟩
def ALM_EVT.OVERLOAD : Fld := ⟨.ALM_EVT, 0, 3, 1, .w1c, 0⟩
def ALM_EVT.UPWARD : Fld := ⟨.ALM_EVT, 0, 4, 1, .w1c, 0⟩
/- ALM_CAP (R136, spec/04_almanac_admission.md). -/
def ALM_CAP.DERATED : Fld := ⟨.ALM_CAP, 0, 0, 32, .ro, 0⟩
def ALM_CAP.BOOKED : Fld := ⟨.ALM_CAP, 0, 32, 32, .ro, 0⟩
def ALM_CAP.BOOKABLE : Fld := ⟨.ALM_CAP, 1, 0, 32, .ro, 0⟩
def ALM_CAP.HONOURED : Fld := ⟨.ALM_CAP, 1, 32, 32, .ro, 0⟩
/- ALM_SHARE (R136, spec/04_almanac_admission.md). -/
def ALM_SHARE.SHARE : Fld := ⟨.ALM_SHARE, 0, 0, 32, .ro, 0⟩
def ALM_SHARE.HONOURED_SHARE : Fld := ⟨.ALM_SHARE, 0, 32, 32, .ro, 0⟩
/- ALM_RING_MASK (R136, spec/04_almanac_admission.md). -/
def ALM_RING_MASK.POSITIONS : Fld := ⟨.ALM_RING_MASK, 0, 0, 64, .ro, 0⟩
/- ALM_COURSE_MASK (R136, spec/04_almanac_admission.md). -/
def ALM_COURSE_MASK.POSITIONS : Fld := ⟨.ALM_COURSE_MASK, 0, 0, 64, .ro, 0⟩
/- ALM_METER (R136, spec/04_almanac_admission.md). -/
def ALM_METER.REMAINING : Fld := ⟨.ALM_METER, 0, 0, 32, .ro, 0⟩
def ALM_METER.DEMOTED : Fld := ⟨.ALM_METER, 0, 32, 32, .ro, 0⟩
/- ALM_TAG_CFG (R136, spec/04_almanac_admission.md). -/
def ALM_TAG_CFG.ENABLED : Fld := ⟨.ALM_TAG_CFG, 0, 0, 1, .srw, 0⟩
def ALM_TAG_CFG.SECURE : Fld := ⟨.ALM_TAG_CFG, 0, 1, 1, .srw, 0⟩
def ALM_TAG_CFG.CORE_OK : Fld := ⟨.ALM_TAG_CFG, 0, 2, 1, .srw, 0⟩
def ALM_TAG_CFG.MAX_URGENCY : Fld := ⟨.ALM_TAG_CFG, 0, 3, 2, .srw, 0⟩
/- IE_STATUS (R169, spec/05_intake_dispatch_journal.md). -/
def IE_STATUS.ENABLED : Fld := ⟨.IE_STATUS, 0, 0, 1, .ro, 0⟩
def IE_STATUS.IN_ADMISSION : Fld := ⟨.IE_STATUS, 0, 1, 4, .ro, 0⟩
def IE_STATUS.DRAIN_ACTIVE : Fld := ⟨.IE_STATUS, 0, 5, 1, .ro, 0⟩
def IE_STATUS.CHANNELS : Fld := ⟨.IE_STATUS, 0, 16, 13, .ro, 0⟩
/- IE_EVT (R169, spec/05_intake_dispatch_journal.md). -/
def IE_EVT.SPOOF : Fld := ⟨.IE_EVT, 0, 0, 1, .w1c, 0⟩
def IE_EVT.REFUSED : Fld := ⟨.IE_EVT, 0, 1, 1, .w1c, 0⟩
def IE_EVT.BAD_DOORBELL : Fld := ⟨.IE_EVT, 0, 2, 1, .w1c, 0⟩
def IE_EVT.CQ_WAIT : Fld := ⟨.IE_EVT, 0, 3, 1, .w1c, 0⟩
def IE_EVT.ENTRY_TIE_LOST : Fld := ⟨.IE_EVT, 0, 4, 1, .w1c, 0⟩
/- IE_SPOOF_LOG (R169, spec/05_intake_dispatch_journal.md). -/
def IE_SPOOF_LOG.CHANNEL : Fld := ⟨.IE_SPOOF_LOG, 0, 0, 12, .ro, 0⟩
def IE_SPOOF_LOG.CLAIMED_PORT : Fld := ⟨.IE_SPOOF_LOG, 0, 12, 8, .ro, 0⟩
def IE_SPOOF_LOG.CLAIMED_FUNCTION : Fld := ⟨.IE_SPOOF_LOG, 0, 20, 9, .ro, 0⟩
def IE_SPOOF_LOG.CLAIMED_TENANT : Fld := ⟨.IE_SPOOF_LOG, 0, 29, 8, .ro, 0⟩
def IE_SPOOF_LOG.CHECK : Fld := ⟨.IE_SPOOF_LOG, 0, 37, 2, .ro, 0⟩
/- IE_SPOOF_STAMP (R169, spec/05_intake_dispatch_journal.md). -/
def IE_SPOOF_STAMP.STAMP : Fld := ⟨.IE_SPOOF_STAMP, 0, 0, 64, .ro, 0⟩
/- IE_CH_STATE (R169, spec/05_intake_dispatch_journal.md). -/
def IE_CH_STATE.SQ_HEAD : Fld := ⟨.IE_CH_STATE, 0, 0, 16, .ro, 0⟩
def IE_CH_STATE.CQ_TAIL : Fld := ⟨.IE_CH_STATE, 0, 16, 16, .ro, 0⟩
def IE_CH_STATE.PHASE : Fld := ⟨.IE_CH_STATE, 0, 32, 1, .ro, 1⟩
def IE_CH_STATE.BOUND : Fld := ⟨.IE_CH_STATE, 0, 33, 1, .ro, 0⟩
def IE_CH_STATE.TWIN_FIRST : Fld := ⟨.IE_CH_STATE, 0, 34, 1, .ro, 0⟩
def IE_CH_STATE.TWIN_SECOND : Fld := ⟨.IE_CH_STATE, 0, 35, 1, .ro, 0⟩
def IE_CH_STATE.OUTSTANDING : Fld := ⟨.IE_CH_STATE, 0, 36, 17, .ro, 0⟩
/- IE_CH_DB (R169, spec/05_intake_dispatch_journal.md). -/
def IE_CH_DB.SQ_TAIL : Fld := ⟨.IE_CH_DB, 0, 0, 16, .wo, 0⟩
def IE_CH_DB.CQ_HEAD : Fld := ⟨.IE_CH_DB, 1, 0, 16, .wo, 0⟩
def IE_CH_DB.IRQ_EN : Fld := ⟨.IE_CH_DB, 2, 0, 1, .rw, 0⟩
def IE_CH_DB.HART : Fld := ⟨.IE_CH_DB, 2, 1, 9, .rw, 0⟩
def IE_CH_DB.FILE : Fld := ⟨.IE_CH_DB, 2, 10, 2, .rw, 0⟩
def IE_CH_DB.GUEST : Fld := ⟨.IE_CH_DB, 2, 12, 6, .rw, 0⟩
/- DSP_STATUS (R169, spec/05_intake_dispatch_journal.md). -/
def DSP_STATUS.QUEUED : Fld := ⟨.DSP_STATUS, 0, 0, 18, .ro, 0⟩
def DSP_STATUS.HOLDING : Fld := ⟨.DSP_STATUS, 0, 18, 9, .ro, 0⟩
/- DSP_TIMES (R169, spec/05_intake_dispatch_journal.md). -/
def DSP_TIMES.GUARD : Fld := ⟨.DSP_TIMES, 0, 0, 16, .ro, 8192⟩
def DSP_TIMES.ANSWER : Fld := ⟨.DSP_TIMES, 0, 16, 16, .ro, 8000⟩
/- DSP_EVT (R169, spec/05_intake_dispatch_journal.md). -/
def DSP_EVT.OVERRUN : Fld := ⟨.DSP_EVT, 0, 0, 1, .w1c, 0⟩
def DSP_EVT.GUARD_FIRED : Fld := ⟨.DSP_EVT, 0, 1, 1, .w1c, 0⟩
def DSP_EVT.MISMATCH : Fld := ⟨.DSP_EVT, 0, 2, 1, .w1c, 0⟩
def DSP_EVT.RETRY : Fld := ⟨.DSP_EVT, 0, 3, 1, .w1c, 0⟩
def DSP_EVT.CORE_WITHDRAWN : Fld := ⟨.DSP_EVT, 0, 4, 1, .w1c, 0⟩
def DSP_EVT.REDISPATCH : Fld := ⟨.DSP_EVT, 0, 5, 1, .w1c, 0⟩
/- DSP_GROUP (R169, spec/05_intake_dispatch_journal.md). -/
def DSP_GROUP.QUEUED : Fld := ⟨.DSP_GROUP, 0, 0, 18, .ro, 0⟩
def DSP_GROUP.CORES_IN : Fld := ⟨.DSP_GROUP, 0, 18, 9, .ro, 0⟩
def DSP_GROUP.CORES_OUT : Fld := ⟨.DSP_GROUP, 0, 27, 9, .ro, 0⟩
def DSP_GROUP.HEAD_DEADLINE : Fld := ⟨.DSP_GROUP, 1, 0, 64, .ro, 0⟩
def DSP_GROUP.BLOCKING : Fld := ⟨.DSP_GROUP, 2, 0, 32, .ro, 0⟩
/- DSP_CORE (R169, spec/05_intake_dispatch_journal.md). -/
def DSP_CORE.OP_ID : Fld := ⟨.DSP_CORE, 0, 0, 17, .ro, 0⟩
def DSP_CORE.HOLDING : Fld := ⟨.DSP_CORE, 0, 17, 1, .ro, 0⟩
def DSP_CORE.ANSWERED : Fld := ⟨.DSP_CORE, 0, 18, 1, .ro, 0⟩
def DSP_CORE.OUT : Fld := ⟨.DSP_CORE, 0, 19, 1, .ro, 0⟩
def DSP_CORE.GROUP : Fld := ⟨.DSP_CORE, 0, 20, 6, .ro, 0⟩
def DSP_CORE.IN_GROUP : Fld := ⟨.DSP_CORE, 0, 26, 1, .ro, 0⟩
def DSP_CORE.QUEUED : Fld := ⟨.DSP_CORE, 0, 27, 18, .ro, 0⟩
/- OPT_STATUS (R169, spec/05_intake_dispatch_journal.md). -/
def OPT_STATUS.FREE : Fld := ⟨.OPT_STATUS, 0, 0, 17, .ro, 122880⟩
def OPT_STATUS.HELD : Fld := ⟨.OPT_STATUS, 0, 17, 17, .ro, 0⟩
def OPT_STATUS.KEPT_HELD : Fld := ⟨.OPT_STATUS, 0, 34, 14, .ro, 0⟩
/- OPT_TAG (R169, spec/05_intake_dispatch_journal.md). -/
def OPT_TAG.HELD : Fld := ⟨.OPT_TAG, 0, 0, 17, .ro, 0⟩
def OPT_TAG.ALLOWED : Fld := ⟨.OPT_TAG, 0, 17, 17, .ro, 0⟩
/- JNL_STATUS (R169, spec/05_intake_dispatch_journal.md). -/
def JNL_STATUS.FREE_UNITS : Fld := ⟨.JNL_STATUS, 0, 0, 21, .ro, 1048576⟩
def JNL_STATUS.DRAIN_HALTED : Fld := ⟨.JNL_STATUS, 0, 24, 8, .ro, 0⟩
/- JNL_EVT (R169, spec/05_intake_dispatch_journal.md). -/
def JNL_EVT.DRAIN_ERROR : Fld := ⟨.JNL_EVT, 0, 0, 1, .w1c, 0⟩
def JNL_EVT.MIRROR_TIMEOUT : Fld := ⟨.JNL_EVT, 0, 1, 1, .w1c, 0⟩
def JNL_EVT.FULL_REFUSAL : Fld := ⟨.JNL_EVT, 0, 2, 1, .w1c, 0⟩
def JNL_EVT.VOIDED : Fld := ⟨.JNL_EVT, 0, 3, 1, .w1c, 0⟩
/- JNL_TAG (R169, spec/05_intake_dispatch_journal.md). -/
def JNL_TAG.HELD : Fld := ⟨.JNL_TAG, 0, 0, 21, .ro, 0⟩
def JNL_TAG.ALLOWED : Fld := ⟨.JNL_TAG, 0, 21, 21, .ro, 0⟩
/- JNL_SEQ (R169, spec/05_intake_dispatch_journal.md). -/
def JNL_SEQ.NEXT_SEQ : Fld := ⟨.JNL_SEQ, 0, 0, 63, .ro, 1⟩
def JNL_SEQ.DRAINED_SEQ : Fld := ⟨.JNL_SEQ, 1, 0, 63, .ro, 0⟩
def JNL_SEQ.MIRROR_LOST : Fld := ⟨.JNL_SEQ, 1, 63, 1, .ro, 0⟩
/- JNL_DRAIN_MAP (R169, spec/05_intake_dispatch_journal.md). -/
def JNL_DRAIN_MAP.CHAN : Fld := ⟨.JNL_DRAIN_MAP, 0, 0, 4, .srw, 15⟩
/- JNL_DRAIN (R169, spec/05_intake_dispatch_journal.md). -/
def JNL_DRAIN.ENABLE : Fld := ⟨.JNL_DRAIN, 0, 0, 1, .srw, 0⟩
def JNL_DRAIN.PORT : Fld := ⟨.JNL_DRAIN, 0, 1, 3, .srw, 0⟩
def JNL_DRAIN.ENGINE : Fld := ⟨.JNL_DRAIN, 0, 4, 4, .srw, 0⟩
def JNL_DRAIN.QID : Fld := ⟨.JNL_DRAIN, 0, 16, 16, .srw, 0⟩
def JNL_DRAIN.QLOG2 : Fld := ⟨.JNL_DRAIN, 0, 32, 8, .srw, 0⟩
def JNL_DRAIN.WAIT_FRAMES : Fld := ⟨.JNL_DRAIN, 0, 40, 8, .srw, 0⟩
def JNL_DRAIN.SQ_ADDR : Fld := ⟨.JNL_DRAIN, 1, 0, 64, .srw, 0⟩
def JNL_DRAIN.CQ_ADDR : Fld := ⟨.JNL_DRAIN, 2, 0, 64, .srw, 0⟩
def JNL_DRAIN.SQ_DOORBELL : Fld := ⟨.JNL_DRAIN, 3, 0, 64, .srw, 0⟩
def JNL_DRAIN.CQ_DOORBELL : Fld := ⟨.JNL_DRAIN, 4, 0, 64, .srw, 0⟩
def JNL_DRAIN.NSID : Fld := ⟨.JNL_DRAIN, 5, 0, 32, .srw, 0⟩
def JNL_DRAIN.LBA_START : Fld := ⟨.JNL_DRAIN, 6, 0, 64, .srw, 0⟩
def JNL_DRAIN.LBA_COUNT : Fld := ⟨.JNL_DRAIN, 7, 0, 48, .srw, 0⟩
/- BTAG (R176, spec/06_cores_and_pairs.md). -/
def BTAG.TAG : Fld := ⟨.BTAG, 0, 0, 6, .rw, 0⟩
def BTAG.TAG_VALID : Fld := ⟨.BTAG, 0, 6, 1, .rw, 0⟩
def BTAG.URGENCY : Fld := ⟨.BTAG, 0, 8, 2, .rw, 0⟩
def BTAG.URG_VALID : Fld := ⟨.BTAG, 0, 10, 1, .rw, 0⟩
/- TOPID (R176, spec/06_cores_and_pairs.md). -/
def TOPID.OP_ID : Fld := ⟨.TOPID, 0, 0, 17, .ro, 0⟩
def TOPID.CLASS : Fld := ⟨.TOPID, 0, 17, 6, .ro, 0⟩
def TOPID.ATTEMPT : Fld := ⟨.TOPID, 0, 23, 2, .ro, 0⟩
def TOPID.VALID : Fld := ⟨.TOPID, 0, 63, 1, .ro, 0⟩
/- MWORLD (R176, spec/06_cores_and_pairs.md). -/
def MWORLD.WORLD : Fld := ⟨.MWORLD, 0, 0, 1, .ro, 0⟩
def MWORLD.BLOCK_WORLD : Fld := ⟨.MWORLD, 0, 1, 1, .ro, 0⟩
/- MXBCFG (R176, spec/06_cores_and_pairs.md). -/
def MXBCFG.TX_S : Fld := ⟨.MXBCFG, 0, 0, 1, .rw, 0⟩
def MXBCFG.TX_U : Fld := ⟨.MXBCFG, 0, 1, 1, .rw, 0⟩
def MXBCFG.WS_EN : Fld := ⟨.MXBCFG, 0, 2, 1, .rw, 0⟩
def MXBCFG.BTAG_EN : Fld := ⟨.MXBCFG, 0, 3, 1, .rw, 0⟩
def MXBCFG.FT_G : Fld := ⟨.MXBCFG, 0, 4, 1, .rw, 0⟩
def MXBCFG.FT_PERMIT : Fld := ⟨.MXBCFG, 0, 5, 1, .rw, 0⟩
/- SXBCFG (R176, spec/06_cores_and_pairs.md). -/
def SXBCFG.TX_V : Fld := ⟨.SXBCFG, 0, 0, 1, .rw, 0⟩
def SXBCFG.TX_U : Fld := ⟨.SXBCFG, 0, 1, 1, .rw, 0⟩
def SXBCFG.BTAG_U : Fld := ⟨.SXBCFG, 0, 2, 1, .rw, 0⟩
def SXBCFG.FT_S : Fld := ⟨.SXBCFG, 0, 3, 1, .rw, 0⟩
def SXBCFG.FT_VS : Fld := ⟨.SXBCFG, 0, 4, 1, .rw, 0⟩
/- IEC_CFG (R188, spec/06_cores_and_pairs.md). -/
def IEC_CFG.ENABLE : Fld := ⟨.IEC_CFG, 0, 0, 1, .rwl, 0⟩
def IEC_CFG.BLOCKING : Fld := ⟨.IEC_CFG, 0, 1, 1, .rwl, 0⟩
/- IEC_RANGE (R188, spec/06_cores_and_pairs.md). -/
def IEC_RANGE.BASE : Fld := ⟨.IEC_RANGE, 0, 21, 31, .rwl, 0⟩
def IEC_RANGE.SIZE : Fld := ⟨.IEC_RANGE, 0, 52, 4, .rwl, 0⟩
def IEC_RANGE.VALID : Fld := ⟨.IEC_RANGE, 0, 56, 1, .rwl, 0⟩
/- IEC_STATUS (R188, spec/06_cores_and_pairs.md). -/
def IEC_STATUS.MISS_PENDING : Fld := ⟨.IEC_STATUS, 0, 0, 1, .ro, 0⟩
def IEC_STATUS.WRITEBACK_PENDING : Fld := ⟨.IEC_STATUS, 0, 1, 1, .ro, 0⟩
def IEC_STATUS.SECOND_MISS_WAIT : Fld := ⟨.IEC_STATUS, 0, 2, 1, .ro, 0⟩
def IEC_STATUS.DISABLED_WAYS : Fld := ⟨.IEC_STATUS, 0, 8, 8, .ro, 0⟩
/- CORE_ARB_HINT (R190, spec/06_cores_and_pairs.md). -/
def CORE_ARB_HINT.THRESHOLD : Fld := ⟨.CORE_ARB_HINT, 0, 0, 16, .rw, 0⟩
def CORE_ARB_HINT.LAST_WAIT : Fld := ⟨.CORE_ARB_HINT, 0, 16, 16, .ro, 0⟩
/- CORE_PAIR (R197, spec/06_cores_and_pairs.md). -/
def CORE_PAIR.STATE : Fld := ⟨.CORE_PAIR, 0, 0, 3, .ro, 0⟩
def CORE_PAIR.PARTNER : Fld := ⟨.CORE_PAIR, 0, 3, 9, .ro, 0⟩
def CORE_PAIR.DIVERGENCES : Fld := ⟨.CORE_PAIR, 0, 16, 8, .ro, 0⟩
/- MEM_NODE (R231, spec/07_translation_and_memory.md). -/
def MEM_NODE.STATE : Fld := ⟨.MEM_NODE, 0, 0, 2, .ro, 0⟩
def MEM_NODE.WAYS : Fld := ⟨.MEM_NODE, 0, 2, 5, .ro, 0⟩
def MEM_NODE.MASK : Fld := ⟨.MEM_NODE, 0, 16, 16, .ro, 0⟩
def MEM_NODE.RATE : Fld := ⟨.MEM_NODE, 0, 32, 3, .ro, 0⟩
def MEM_NODE.BOOKABLE : Fld := ⟨.MEM_NODE, 0, 35, 1, .ro, 1⟩
def MEM_NODE.CAPACITY : Fld := ⟨.MEM_NODE, 0, 36, 16, .ro, 0⟩
def MEM_NODE.PATROL_H : Fld := ⟨.MEM_NODE, 0, 52, 8, .ro, 24⟩
/- MC_STATUS (R231, spec/07_translation_and_memory.md). -/
def MC_STATUS.STATE : Fld := ⟨.MC_STATUS, 0, 0, 3, .ro, 0⟩
def MC_STATUS.PARTNER : Fld := ⟨.MC_STATUS, 0, 3, 4, .ro, 0⟩
def MC_STATUS.FAILED_DEVICE : Fld := ⟨.MC_STATUS, 0, 7, 6, .ro, 63⟩
def MC_STATUS.SPARED_ROWS : Fld := ⟨.MC_STATUS, 0, 13, 8, .ro, 0⟩
def MC_STATUS.QLEVEL : Fld := ⟨.MC_STATUS, 0, 21, 2, .ro, 0⟩
/- MC_ERR_LOG (R231, spec/07_translation_and_memory.md). -/
def MC_ERR_LOG.ADDR : Fld := ⟨.MC_ERR_LOG, 0, 0, 52, .ro, 0⟩
def MC_ERR_LOG.KIND : Fld := ⟨.MC_ERR_LOG, 0, 52, 3, .ro, 0⟩
def MC_ERR_LOG.COUNT : Fld := ⟨.MC_ERR_LOG, 0, 56, 8, .rc, 0⟩
def MC_ERR_LOG.STAMP : Fld := ⟨.MC_ERR_LOG, 1, 0, 64, .ro, 0⟩
/- CORE_WALK_ERR (R231, spec/07_translation_and_memory.md). -/
def CORE_WALK_ERR.VALID : Fld := ⟨.CORE_WALK_ERR, 0, 0, 1, .w1c, 0⟩
def CORE_WALK_ERR.OVERFLOW : Fld := ⟨.CORE_WALK_ERR, 0, 1, 1, .w1c, 0⟩
def CORE_WALK_ERR.KIND : Fld := ⟨.CORE_WALK_ERR, 0, 2, 3, .ro, 0⟩
def CORE_WALK_ERR.STAGE : Fld := ⟨.CORE_WALK_ERR, 0, 5, 1, .ro, 0⟩
def CORE_WALK_ERR.LEVEL : Fld := ⟨.CORE_WALK_ERR, 0, 6, 3, .ro, 0⟩
/- CORE_WALK_ADDR (R231, spec/07_translation_and_memory.md). -/
def CORE_WALK_ADDR.ADDR : Fld := ⟨.CORE_WALK_ADDR, 0, 0, 52, .ro, 0⟩
/- CORE_WALK_STAT (R231, spec/07_translation_and_memory.md). -/
def CORE_WALK_STAT.ABANDONS : Fld := ⟨.CORE_WALK_STAT, 0, 0, 32, .ro, 0⟩
def CORE_WALK_STAT.FT_ALLOCS : Fld := ⟨.CORE_WALK_STAT, 0, 32, 32, .ro, 0⟩
/- POOL_STATE (R231, spec/07_translation_and_memory.md). -/
def POOL_STATE.WORLD : Fld := ⟨.POOL_STATE, 0, 0, 1, .ro, 0⟩
def POOL_STATE.NODE : Fld := ⟨.POOL_STATE, 0, 1, 3, .ro, 0⟩
def POOL_STATE.FSIZE : Fld := ⟨.POOL_STATE, 0, 4, 1, .ro, 0⟩
def POOL_STATE.RANGES : Fld := ⟨.POOL_STATE, 0, 5, 4, .ro, 0⟩
def POOL_STATE.RETURNED : Fld := ⟨.POOL_STATE, 0, 9, 11, .ro, 0⟩
def POOL_STATE.NEXT : Fld := ⟨.POOL_STATE, 1, 0, 52, .ro, 0⟩
def POOL_STATE.FREE : Fld := ⟨.POOL_STATE, 2, 0, 64, .ro, 0⟩
def POOL_STATE.EMPTY_FAULTS : Fld := ⟨.POOL_STATE, 3, 0, 16, .ro, 0⟩
def POOL_STATE.SKIPPED : Fld := ⟨.POOL_STATE, 3, 16, 16, .ro, 0⟩
def POOL_STATE.WORLD_MISS : Fld := ⟨.POOL_STATE, 3, 32, 16, .ro, 0⟩
/- RING_CTRL (R268, spec/08_rings_and_coherence.md). -/
def RING_CTRL.STARVE_LIMIT : Fld := ⟨.RING_CTRL, 0, 0, 8, .rwl, 128⟩
/- RING_STATUS (R268, spec/08_rings_and_coherence.md). -/
def RING_STATUS.PINNED : Fld := ⟨.RING_STATUS, 0, 0, 16, .ro, 0⟩
def RING_STATUS.CLAIM0 : Fld := ⟨.RING_STATUS, 0, 16, 1, .ro, 0⟩
def RING_STATUS.CLAIM1 : Fld := ⟨.RING_STATUS, 0, 17, 1, .ro, 0⟩
def RING_STATUS.HDR_CORRECTED : Fld := ⟨.RING_STATUS, 0, 32, 16, .rc, 0⟩
/- RING_STOP_CNT (R268, spec/08_rings_and_coherence.md). -/
def RING_STOP_CNT.DEFLECTIONS : Fld := ⟨.RING_STOP_CNT, 0, 0, 32, .ro, 0⟩
def RING_STOP_CNT.PINS : Fld := ⟨.RING_STOP_CNT, 0, 32, 32, .ro, 0⟩
def RING_STOP_CNT.CLAIMS : Fld := ⟨.RING_STOP_CNT, 1, 0, 32, .ro, 0⟩
def RING_STOP_CNT.PIN_PEAK : Fld := ⟨.RING_STOP_CNT, 1, 32, 6, .rc, 0⟩
/- ARB_PORT (R268, spec/08_rings_and_coherence.md). -/
def ARB_PORT.HOLD_LIMIT : Fld := ⟨.ARB_PORT, 0, 0, 5, .rwl, 0⟩
def ARB_PORT.HOLD_CUTOFFS : Fld := ⟨.ARB_PORT, 0, 16, 16, .ro, 0⟩
def ARB_PORT.REVOKES : Fld := ⟨.ARB_PORT, 0, 32, 16, .ro, 0⟩
def ARB_PORT.HINT_MISSES : Fld := ⟨.ARB_PORT, 0, 48, 16, .ro, 0⟩
/- HA_STATUS (R268, spec/08_rings_and_coherence.md). -/
def HA_STATUS.TRACKER_USED : Fld := ⟨.HA_STATUS, 0, 0, 10, .ro, 0⟩
def HA_STATUS.SET_WAITING : Fld := ⟨.HA_STATUS, 0, 10, 10, .ro, 0⟩
def HA_STATUS.RESERVED_IN_USE : Fld := ⟨.HA_STATUS, 0, 20, 15, .ro, 0⟩
/- HA_SF_STAT (R268, spec/08_rings_and_coherence.md). -/
def HA_SF_STAT.VALID : Fld := ⟨.HA_SF_STAT, 0, 0, 18, .ro, 0⟩
def HA_SF_STAT.BACK_INVALS : Fld := ⟨.HA_SF_STAT, 0, 18, 32, .ro, 0⟩
/- HA_ERR_LOG (R268, spec/08_rings_and_coherence.md). -/
def HA_ERR_LOG.ADDR : Fld := ⟨.HA_ERR_LOG, 0, 0, 52, .ro, 0⟩
def HA_ERR_LOG.KIND : Fld := ⟨.HA_ERR_LOG, 0, 52, 3, .ro, 0⟩
def HA_ERR_LOG.COUNT : Fld := ⟨.HA_ERR_LOG, 0, 56, 8, .rc, 0⟩
def HA_ERR_LOG.STAMP : Fld := ⟨.HA_ERR_LOG, 1, 0, 64, .ro, 0⟩
/- CRS_STATUS (R287, spec/09_courses_and_lightbed.md). -/
def CRS_STATUS.WIDTH : Fld := ⟨.CRS_STATUS, 0, 0, 2, .ro, 0⟩
def CRS_STATUS.GROUP_K : Fld := ⟨.CRS_STATUS, 0, 2, 1, .ro, 0⟩
def CRS_STATUS.GROUP_B : Fld := ⟨.CRS_STATUS, 0, 3, 1, .ro, 0⟩
def CRS_STATUS.SPARES_K : Fld := ⟨.CRS_STATUS, 0, 4, 3, .ro, 0⟩
def CRS_STATUS.SPARES_B : Fld := ⟨.CRS_STATUS, 0, 7, 3, .ro, 0⟩
def CRS_STATUS.STALLS : Fld := ⟨.CRS_STATUS, 0, 16, 16, .ro, 0⟩
/- CRS_BAD_LO_K (R287, spec/09_courses_and_lightbed.md). -/
def CRS_BAD_LO_K.BAD : Fld := ⟨.CRS_BAD_LO_K, 0, 0, 64, .ro, 0⟩
/- CRS_BAD_LO_B (R287, spec/09_courses_and_lightbed.md). -/
def CRS_BAD_LO_B.BAD : Fld := ⟨.CRS_BAD_LO_B, 0, 0, 64, .ro, 0⟩
/- CRS_BAD_HI (R287, spec/09_courses_and_lightbed.md). -/
def CRS_BAD_HI.BAD_K : Fld := ⟨.CRS_BAD_HI, 0, 0, 4, .ro, 0⟩
def CRS_BAD_HI.BAD_B : Fld := ⟨.CRS_BAD_HI, 0, 8, 4, .ro, 0⟩
/- CRS_REMAP (R287, spec/09_courses_and_lightbed.md). -/
def CRS_REMAP.LOGICAL : Fld := ⟨.CRS_REMAP, 0, 0, 6, .ro, 0⟩
def CRS_REMAP.LOGICAL_HI : Fld := ⟨.CRS_REMAP, 1, 0, 6, .ro, 0⟩
def CRS_REMAP.PHYSICAL : Fld := ⟨.CRS_REMAP, 0, 6, 7, .ro, 0⟩
def CRS_REMAP.PHYSICAL_HI : Fld := ⟨.CRS_REMAP, 1, 6, 7, .ro, 0⟩
def CRS_REMAP.DIR : Fld := ⟨.CRS_REMAP, 0, 14, 1, .ro, 0⟩
def CRS_REMAP.DIR_HI : Fld := ⟨.CRS_REMAP, 1, 14, 1, .ro, 0⟩
def CRS_REMAP.VALID : Fld := ⟨.CRS_REMAP, 0, 15, 1, .ro, 0⟩
def CRS_REMAP.VALID_HI : Fld := ⟨.CRS_REMAP, 1, 15, 1, .ro, 0⟩
/- CRS_COUNT (R287, spec/09_courses_and_lightbed.md). -/
def CRS_COUNT.REPLAYS : Fld := ⟨.CRS_COUNT, 0, 0, 32, .ro, 0⟩
def CRS_COUNT.CHARGED : Fld := ⟨.CRS_COUNT, 0, 32, 32, .ro, 0⟩
/- CRS_EVT (R287, spec/09_courses_and_lightbed.md). -/
def CRS_EVT.REMAP : Fld := ⟨.CRS_EVT, 0, 0, 1, .w1c, 0⟩
def CRS_EVT.HALF : Fld := ⟨.CRS_EVT, 0, 1, 1, .w1c, 0⟩
def CRS_EVT.RETIRED : Fld := ⟨.CRS_EVT, 0, 2, 1, .w1c, 0⟩
def CRS_EVT.DEFERRED : Fld := ⟨.CRS_EVT, 0, 3, 1, .w1c, 0⟩
def CRS_EVT.REMAP_UNLOGGED : Fld := ⟨.CRS_EVT, 0, 4, 1, .w1c, 0⟩
/- SB_STATUS (R287, spec/09_courses_and_lightbed.md). -/
def SB_STATUS.FAILED : Fld := ⟨.SB_STATUS, 0, 0, 8, .ro, 0⟩
def SB_STATUS.BUDGET_FALLBACK : Fld := ⟨.SB_STATUS, 0, 8, 1, .ro, 0⟩
/- DIE_ERRATA (R287, spec/09_courses_and_lightbed.md). -/
def DIE_ERRATA.ERRATA : Fld := ⟨.DIE_ERRATA, 0, 0, 3, .ro, 0⟩
/- CHIP_WORKAROUND (R287, spec/09_courses_and_lightbed.md). -/
def CHIP_WORKAROUND.ERRATA : Fld := ⟨.CHIP_WORKAROUND, 0, 0, 3, .ro, 0⟩
/- LB_STATUS (R287, spec/09_courses_and_lightbed.md). -/
def LB_STATUS.SOURCE : Fld := ⟨.LB_STATUS, 0, 0, 1, .ro, 0⟩
def LB_STATUS.A_FAILED : Fld := ⟨.LB_STATUS, 0, 1, 1, .ro, 0⟩
def LB_STATUS.B_FAILED : Fld := ⟨.LB_STATUS, 0, 2, 1, .ro, 0⟩
def LB_STATUS.BRIDGE_LOST : Fld := ⟨.LB_STATUS, 0, 8, 12, .ro, 0⟩
def LB_STATUS.COUPLER_LOST : Fld := ⟨.LB_STATUS, 0, 20, 8, .ro, 0⟩
def LB_STATUS.LINK_PATH_LOST : Fld := ⟨.LB_STATUS, 0, 28, 8, .ro, 0⟩
/- LINK_STATUS (R310, spec/10_constellation.md). -/
def LINK_STATUS.STATE : Fld := ⟨.LINK_STATUS, 0, 0, 2, .ro, 0⟩
def LINK_STATUS.WIDTH : Fld := ⟨.LINK_STATUS, 0, 2, 2, .ro, 0⟩
def LINK_STATUS.BAD_WAVES : Fld := ⟨.LINK_STATUS, 0, 4, 8, .ro, 0⟩
def LINK_STATUS.PEER : Fld := ⟨.LINK_STATUS, 0, 12, 10, .ro, 0⟩
def LINK_STATUS.PEER_LINK : Fld := ⟨.LINK_STATUS, 0, 22, 3, .ro, 0⟩
def LINK_STATUS.MARKS_OK : Fld := ⟨.LINK_STATUS, 0, 25, 1, .ro, 0⟩
def LINK_STATUS.DELAY : Fld := ⟨.LINK_STATUS, 0, 32, 24, .ro, 0⟩
/- LINK_COUNT (R310, spec/10_constellation.md). -/
def LINK_COUNT.REPLAYS : Fld := ⟨.LINK_COUNT, 0, 0, 32, .ro, 0⟩
def LINK_COUNT.CHARGED : Fld := ⟨.LINK_COUNT, 0, 32, 32, .ro, 0⟩
/- LINK_EVT (R310, spec/10_constellation.md). -/
def LINK_EVT.DOWN : Fld := ⟨.LINK_EVT, 0, 0, 1, .w1c, 0⟩
def LINK_EVT.WIDTH : Fld := ⟨.LINK_EVT, 0, 1, 1, .w1c, 0⟩
def LINK_EVT.FENCE_RX : Fld := ⟨.LINK_EVT, 0, 2, 1, .w1c, 0⟩
def LINK_EVT.LATE_ANSWER : Fld := ⟨.LINK_EVT, 0, 3, 1, .w1c, 0⟩
def LINK_EVT.REMOTE_TIMEOUT : Fld := ⟨.LINK_EVT, 0, 4, 1, .w1c, 0⟩
def LINK_EVT.WRONG_PEER : Fld := ⟨.LINK_EVT, 0, 5, 1, .w1c, 0⟩
/- LINK_TRACK (R310, spec/10_constellation.md). -/
def LINK_TRACK.USED : Fld := ⟨.LINK_TRACK, 0, 0, 12, .ro, 0⟩
def LINK_TRACK.QUARANTINED : Fld := ⟨.LINK_TRACK, 0, 12, 12, .ro, 0⟩
/- CST_STATUS (R310, spec/10_constellation.md). -/
def CST_STATUS.MEMBER : Fld := ⟨.CST_STATUS, 0, 0, 1, .ro, 0⟩
def CST_STATUS.JOINING : Fld := ⟨.CST_STATUS, 0, 1, 1, .ro, 0⟩
def CST_STATUS.LEAVING : Fld := ⟨.CST_STATUS, 0, 2, 1, .ro, 0⟩
def CST_STATUS.IS_GM : Fld := ⟨.CST_STATUS, 0, 3, 1, .ro, 0⟩
def CST_STATUS.NUMBER : Fld := ⟨.CST_STATUS, 0, 8, 10, .ro, 0⟩
def CST_STATUS.GM : Fld := ⟨.CST_STATUS, 0, 18, 10, .ro, 0⟩
def CST_STATUS.COH_GROUP : Fld := ⟨.CST_STATUS, 0, 32, 8, .ro, 0⟩
def CST_STATUS.GROUP_SIZE : Fld := ⟨.CST_STATUS, 0, 40, 3, .ro, 0⟩
def CST_STATUS.TOPOLOGY : Fld := ⟨.CST_STATUS, 0, 43, 1, .ro, 0⟩
def CST_STATUS.DIM_X : Fld := ⟨.CST_STATUS, 0, 44, 4, .ro, 0⟩
def CST_STATUS.DIM_Y : Fld := ⟨.CST_STATUS, 0, 48, 3, .ro, 0⟩
def CST_STATUS.DIM_Z : Fld := ⟨.CST_STATUS, 0, 51, 3, .ro, 0⟩
/- CST_CTRL (R310, spec/10_constellation.md). -/
def CST_CTRL.REMOTE_TO : Fld := ⟨.CST_CTRL, 0, 0, 16, .rwl, 1000⟩
/- CST_MSG_SEND (R310, spec/10_constellation.md). -/
def CST_MSG_SEND.DEST_PKG : Fld := ⟨.CST_MSG_SEND, 0, 0, 10, .wo, 0⟩
def CST_MSG_SEND.HART : Fld := ⟨.CST_MSG_SEND, 0, 10, 9, .wo, 0⟩
def CST_MSG_SEND.FILE : Fld := ⟨.CST_MSG_SEND, 0, 19, 2, .wo, 0⟩
def CST_MSG_SEND.GUEST : Fld := ⟨.CST_MSG_SEND, 0, 21, 6, .wo, 0⟩
def CST_MSG_SEND.EIID : Fld := ⟨.CST_MSG_SEND, 0, 27, 11, .wo, 0⟩
/- CST_MSG_STATUS (R310, spec/10_constellation.md). -/
def CST_MSG_STATUS.SENT : Fld := ⟨.CST_MSG_STATUS, 0, 0, 32, .ro, 0⟩
def CST_MSG_STATUS.DROPPED : Fld := ⟨.CST_MSG_STATUS, 0, 32, 32, .ro, 0⟩
/- CST_ROUTE (R310, spec/10_constellation.md). -/
def CST_ROUTE.PRIMARY : Fld := ⟨.CST_ROUTE, 0, 0, 3, .ro, 0⟩
def CST_ROUTE.ALTERNATE : Fld := ⟨.CST_ROUTE, 0, 3, 3, .ro, 0⟩
def CST_ROUTE.ALT_VALID : Fld := ⟨.CST_ROUTE, 0, 6, 1, .ro, 0⟩
def CST_ROUTE.VALID : Fld := ⟨.CST_ROUTE, 0, 7, 1, .ro, 0⟩
/- CST_MEMBERS (R310, spec/10_constellation.md). -/
def CST_MEMBERS.MEMBER : Fld := ⟨.CST_MEMBERS, 0, 0, 64, .ro, 0⟩
/- CST_EXPORT (R310, spec/10_constellation.md). -/
def CST_EXPORT.VALID : Fld := ⟨.CST_EXPORT, 0, 0, 1, .srw, 0⟩
def CST_EXPORT.COH : Fld := ⟨.CST_EXPORT, 0, 1, 1, .srw, 0⟩
def CST_EXPORT.BASE : Fld := ⟨.CST_EXPORT, 0, 36, 16, .srw, 0⟩
/- CST_MSG_ALLOW (R310, spec/10_constellation.md). -/
def CST_MSG_ALLOW.ALLOW : Fld := ⟨.CST_MSG_ALLOW, 0, 0, 64, .srw, 0⟩
/- CST_MIRROR_SLOT (R310, spec/10_constellation.md). -/
def CST_MIRROR_SLOT.VALID : Fld := ⟨.CST_MIRROR_SLOT, 0, 0, 1, .ro, 0⟩
def CST_MIRROR_SLOT.ORPHAN : Fld := ⟨.CST_MIRROR_SLOT, 0, 1, 1, .ro, 0⟩
def CST_MIRROR_SLOT.SOURCE : Fld := ⟨.CST_MIRROR_SLOT, 0, 2, 10, .ro, 0⟩
def CST_MIRROR_SLOT.JOURNAL : Fld := ⟨.CST_MIRROR_SLOT, 0, 12, 6, .ro, 0⟩
def CST_MIRROR_SLOT.DRAIN : Fld := ⟨.CST_MIRROR_SLOT, 0, 18, 4, .srw, 15⟩
def CST_MIRROR_SLOT.UNITS : Fld := ⟨.CST_MIRROR_SLOT, 1, 0, 16, .ro, 0⟩
/- WLD_GATE (R325, spec/11_worlds_and_tenancy.md). -/
def WLD_GATE.VALID : Fld := ⟨.WLD_GATE, 0, 0, 1, .srw, 0⟩
def WLD_GATE.ENTRY : Fld := ⟨.WLD_GATE, 0, 2, 50, .srw, 0⟩
def WLD_GATE.CALLERS : Fld := ⟨.WLD_GATE, 0, 52, 4, .srw, 0⟩
def WLD_GATE.TRAP : Fld := ⟨.WLD_GATE, 1, 2, 50, .srw, 0⟩
/- CORE_WFRAME (R325, spec/11_worlds_and_tenancy.md). -/
def CORE_WFRAME.OPEN : Fld := ⟨.CORE_WFRAME, 0, 0, 1, .ro, 0⟩
def CORE_WFRAME.GATE : Fld := ⟨.CORE_WFRAME, 0, 1, 6, .ro, 0⟩
def CORE_WFRAME.RD : Fld := ⟨.CORE_WFRAME, 0, 7, 5, .ro, 0⟩
def CORE_WFRAME.CALLER_MODE : Fld := ⟨.CORE_WFRAME, 0, 12, 2, .ro, 0⟩
def CORE_WFRAME.CALLER_V : Fld := ⟨.CORE_WFRAME, 0, 14, 1, .ro, 0⟩
/- BLK_CLK_CTRL (R327, spec/11_worlds_and_tenancy.md). -/
def BLK_CLK_CTRL.GATE : Fld := ⟨.BLK_CLK_CTRL, 0, 0, 1, .rw, 0⟩
/- WLD_BLK_STATE (R327, spec/11_worlds_and_tenancy.md). -/
def WLD_BLK_STATE.WORLD : Fld := ⟨.WLD_BLK_STATE, 0, 0, 1, .ro, 0⟩
def WLD_BLK_STATE.SVOTE : Fld := ⟨.WLD_BLK_STATE, 0, 1, 1, .ro, 0⟩
def WLD_BLK_STATE.HELD : Fld := ⟨.WLD_BLK_STATE, 0, 2, 1, .ro, 0⟩
def WLD_BLK_STATE.GATED : Fld := ⟨.WLD_BLK_STATE, 0, 3, 1, .ro, 0⟩
/- WLD_BLK_SEC (R327, spec/11_worlds_and_tenancy.md). -/
def WLD_BLK_SEC.SVOTE : Fld := ⟨.WLD_BLK_SEC, 0, 0, 1, .srw, 0⟩
def WLD_BLK_SEC.SGATE : Fld := ⟨.WLD_BLK_SEC, 0, 1, 1, .srw, 0⟩
/- WLD_PORT (R327, spec/11_worlds_and_tenancy.md). -/
def WLD_PORT.SECURE : Fld := ⟨.WLD_PORT, 0, 0, 1, .srw, 0⟩
/- WLD_DEBUG (R329, spec/11_worlds_and_tenancy.md). -/
def WLD_DEBUG.INVASIVE : Fld := ⟨.WLD_DEBUG, 0, 0, 1, .ro, 0⟩
def WLD_DEBUG.NONINVASIVE : Fld := ⟨.WLD_DEBUG, 0, 1, 1, .ro, 0⟩
def WLD_DEBUG.SCOPE : Fld := ⟨.WLD_DEBUG, 0, 32, 32, .ro, 0⟩
/- TNT_VF (R333, spec/11_worlds_and_tenancy.md). -/
def TNT_VF.STATE : Fld := ⟨.TNT_VF, 0, 0, 3, .ro, 0⟩
def TNT_VF.TENANT : Fld := ⟨.TNT_VF, 0, 8, 8, .ro, 0⟩
def TNT_VF.MAX_URGENCY : Fld := ⟨.TNT_VF, 0, 16, 2, .ro, 0⟩
def TNT_VF.MANAGER : Fld := ⟨.TNT_VF, 0, 18, 6, .ro, 0⟩
def TNT_VF.INFLIGHT : Fld := ⟨.TNT_VF, 0, 24, 17, .ro, 0⟩
def TNT_VF.CLASS_MASK : Fld := ⟨.TNT_VF, 1, 0, 64, .ro, 0⟩
def TNT_VF.TAG_MASK : Fld := ⟨.TNT_VF, 2, 0, 64, .ro, 0⟩
def TNT_VF.ABORTED : Fld := ⟨.TNT_VF, 3, 0, 32, .ro, 0⟩
/- PCIE_PORT_STATUS (R356, spec/12_host_ports.md). -/
def PCIE_PORT_STATUS.ROLE : Fld := ⟨.PCIE_PORT_STATUS, 0, 0, 2, .ro, 0⟩
def PCIE_PORT_STATUS.BIFURCATION : Fld := ⟨.PCIE_PORT_STATUS, 0, 2, 2, .ro, 0⟩
def PCIE_PORT_STATUS.CONTAINED : Fld := ⟨.PCIE_PORT_STATUS, 0, 4, 1, .ro, 0⟩
def PCIE_PORT_STATUS.EP_READY : Fld := ⟨.PCIE_PORT_STATUS, 0, 5, 1, .ro, 0⟩
def PCIE_PORT_STATUS.CPL_TO_US : Fld := ⟨.PCIE_PORT_STATUS, 0, 8, 24, .ro, 50000⟩
/- PCIE_LINK (R356, spec/12_host_ports.md). -/
def PCIE_LINK.STATE : Fld := ⟨.PCIE_LINK, 0, 0, 2, .ro, 0⟩
def PCIE_LINK.WIDTH : Fld := ⟨.PCIE_LINK, 0, 2, 3, .ro, 0⟩
def PCIE_LINK.SPEED : Fld := ⟨.PCIE_LINK, 0, 5, 3, .ro, 0⟩
def PCIE_LINK.FLIT : Fld := ⟨.PCIE_LINK, 0, 8, 1, .ro, 0⟩
/- PCIE_PORT_EVT (R356, spec/12_host_ports.md). -/
def PCIE_PORT_EVT.CPL_TIMEOUT : Fld := ⟨.PCIE_PORT_EVT, 0, 0, 1, .w1c, 0⟩
def PCIE_PORT_EVT.LATE_CPL : Fld := ⟨.PCIE_PORT_EVT, 0, 1, 1, .w1c, 0⟩
def PCIE_PORT_EVT.BME_ABORT : Fld := ⟨.PCIE_PORT_EVT, 0, 2, 1, .w1c, 0⟩
def PCIE_PORT_EVT.FLR : Fld := ⟨.PCIE_PORT_EVT, 0, 3, 1, .w1c, 0⟩
def PCIE_PORT_EVT.INBOUND_UR : Fld := ⟨.PCIE_PORT_EVT, 0, 4, 1, .w1c, 0⟩
def PCIE_PORT_EVT.INBOUND_WORLD : Fld := ⟨.PCIE_PORT_EVT, 0, 5, 1, .w1c, 0⟩
def PCIE_PORT_EVT.DPC : Fld := ⟨.PCIE_PORT_EVT, 0, 6, 1, .w1c, 0⟩
def PCIE_PORT_EVT.SPOOF_CHARGED : Fld := ⟨.PCIE_PORT_EVT, 0, 7, 1, .w1c, 0⟩
/- PCIE_TAGS (R356, spec/12_host_ports.md). -/
def PCIE_TAGS.OUTSTANDING : Fld := ⟨.PCIE_TAGS, 0, 0, 14, .ro, 0⟩
def PCIE_TAGS.QUARANTINED : Fld := ⟨.PCIE_TAGS, 0, 14, 14, .ro, 0⟩
/- RP_OUT (R356, spec/12_host_ports.md). -/
def RP_OUT.BASE : Fld := ⟨.RP_OUT, 0, 12, 52, .rw, 0⟩
/- RP_MSI (R356, spec/12_host_ports.md). -/
def RP_MSI.VALID : Fld := ⟨.RP_MSI, 0, 0, 1, .rw, 0⟩
def RP_MSI.MACHINE_OK : Fld := ⟨.RP_MSI, 0, 1, 1, .srw, 0⟩
def RP_MSI.BUS_BASE : Fld := ⟨.RP_MSI, 0, 25, 39, .rw, 0⟩
/- RP_IRQ (R356, spec/12_host_ports.md). -/
def RP_IRQ.IRQ_EN : Fld := ⟨.RP_IRQ, 0, 0, 1, .rw, 0⟩
def RP_IRQ.HART : Fld := ⟨.RP_IRQ, 0, 1, 9, .rw, 0⟩
def RP_IRQ.FILE : Fld := ⟨.RP_IRQ, 0, 10, 2, .rw, 0⟩
def RP_IRQ.GUEST : Fld := ⟨.RP_IRQ, 0, 12, 6, .rw, 0⟩
def RP_IRQ.EIID : Fld := ⟨.RP_IRQ, 0, 18, 11, .rw, 0⟩
/- EP_APERTURE (R356, spec/12_host_ports.md). -/
def EP_APERTURE.VALID : Fld := ⟨.EP_APERTURE, 0, 0, 1, .rw, 0⟩
def EP_APERTURE.WORLD : Fld := ⟨.EP_APERTURE, 0, 1, 1, .srw, 0⟩
def EP_APERTURE.BASE : Fld := ⟨.EP_APERTURE, 0, 12, 52, .rw, 0⟩
def EP_APERTURE.PAGES : Fld := ⟨.EP_APERTURE, 1, 0, 23, .rw, 0⟩
/- RP_IN_WIN (R356, spec/12_host_ports.md). -/
def RP_IN_WIN.VALID : Fld := ⟨.RP_IN_WIN, 0, 0, 1, .rw, 0⟩
def RP_IN_WIN.BUS_BASE : Fld := ⟨.RP_IN_WIN, 0, 12, 52, .rw, 0⟩
def RP_IN_WIN.SIZE : Fld := ⟨.RP_IN_WIN, 1, 12, 52, .rw, 0⟩
def RP_IN_WIN.TARGET : Fld := ⟨.RP_IN_WIN, 2, 12, 40, .rw, 0⟩
/- FLT_STATUS (R379, spec/13_faults_and_maintenance.md). -/
def FLT_STATUS.SOURCES : Fld := ⟨.FLT_STATUS, 0, 0, 64, .ro, 0⟩
/- FLT_SEV_LO (R379, spec/13_faults_and_maintenance.md). -/
def FLT_SEV_LO.SEV : Fld := ⟨.FLT_SEV_LO, 0, 0, 2, .srw, 0⟩
/- FLT_SEV_HI (R379, spec/13_faults_and_maintenance.md). -/
def FLT_SEV_HI.SEV : Fld := ⟨.FLT_SEV_HI, 0, 0, 2, .srw, 0⟩
/- FLT_FIXED (R379, spec/13_faults_and_maintenance.md). -/
def FLT_FIXED.FIXED : Fld := ⟨.FLT_FIXED, 0, 0, 64, .ro, 0⟩
/- FLT_FIRST (R379, spec/13_faults_and_maintenance.md). -/
def FLT_FIRST.BIT : Fld := ⟨.FLT_FIRST, 0, 0, 6, .ro, 0⟩
def FLT_FIRST.VALID : Fld := ⟨.FLT_FIRST, 0, 6, 1, .ro, 0⟩
def FLT_FIRST.PIN : Fld := ⟨.FLT_FIRST, 0, 7, 3, .ro, 0⟩
def FLT_FIRST.STAMP : Fld := ⟨.FLT_FIRST, 1, 0, 64, .ro, 0⟩
/- FLT_SRC (R379, spec/13_faults_and_maintenance.md). -/
def FLT_SRC.LEVEL : Fld := ⟨.FLT_SRC, 0, 0, 16, .ro, 0⟩
def FLT_SRC.EVENTS : Fld := ⟨.FLT_SRC, 0, 16, 8, .rc, 0⟩
def FLT_SRC.PERMANENT : Fld := ⟨.FLT_SRC, 0, 24, 1, .ro, 0⟩
def FLT_SRC.THRESHOLD : Fld := ⟨.FLT_SRC, 0, 32, 16, .srw, 0⟩
def FLT_SRC.LEAK_MS : Fld := ⟨.FLT_SRC, 1, 0, 32, .srw, 0⟩
def FLT_SRC.LAST_STAMP : Fld := ⟨.FLT_SRC, 2, 0, 64, .ro, 0⟩
/- FLT_SECURE (R379, spec/13_faults_and_maintenance.md). -/
def FLT_SECURE.SRW_WRITE : Fld := ⟨.FLT_SECURE, 0, 0, 1, .w1c, 0⟩
def FLT_SECURE.PAGE_ACCESS : Fld := ⟨.FLT_SECURE, 0, 1, 1, .w1c, 0⟩
def FLT_SECURE.PATH_VIOLATION : Fld := ⟨.FLT_SECURE, 0, 2, 1, .w1c, 0⟩
def FLT_SECURE.HELD_SECURE : Fld := ⟨.FLT_SECURE, 0, 3, 1, .w1c, 0⟩
def FLT_SECURE.GATE_WRITE : Fld := ⟨.FLT_SECURE, 0, 4, 1, .w1c, 0⟩
def FLT_SECURE.AUTH_FAIL : Fld := ⟨.FLT_SECURE, 0, 5, 1, .w1c, 0⟩
def FLT_SECURE.STAMP : Fld := ⟨.FLT_SECURE, 1, 0, 64, .ro, 0⟩
/- CHIP_SAFE (R379, spec/13_faults_and_maintenance.md). -/
def CHIP_SAFE.SAFE : Fld := ⟨.CHIP_SAFE, 0, 0, 1, .ro, 0⟩
def CHIP_SAFE.CAUSE_LEVEL : Fld := ⟨.CHIP_SAFE, 0, 1, 5, .ro, 0⟩
def CHIP_SAFE.CAUSE_BIT : Fld := ⟨.CHIP_SAFE, 0, 6, 6, .ro, 0⟩
def CHIP_SAFE.FAULT_N_BY : Fld := ⟨.CHIP_SAFE, 0, 16, 3, .ro, 0⟩
def CHIP_SAFE.STAMP : Fld := ⟨.CHIP_SAFE, 1, 0, 64, .ro, 0⟩
/- MNT_STATE (R379, spec/13_faults_and_maintenance.md). -/
def MNT_STATE.RUNNING : Fld := ⟨.MNT_STATE, 0, 0, 12, .ro, 0⟩
def MNT_STATE.UNIT_RETIRE : Fld := ⟨.MNT_STATE, 0, 12, 1, .ro, 0⟩
def MNT_STATE.QUEUED : Fld := ⟨.MNT_STATE, 0, 13, 6, .ro, 0⟩
def MNT_STATE.COPY_HOLD : Fld := ⟨.MNT_STATE, 0, 19, 1, .ro, 0⟩
def MNT_STATE.TIME_LOCK : Fld := ⟨.MNT_STATE, 0, 20, 1, .ro, 0⟩
def MNT_STATE.COPY_HOLDS : Fld := ⟨.MNT_STATE, 0, 32, 16, .ro, 0⟩
def MNT_STATE.RESYNC_ABORTS : Fld := ⟨.MNT_STATE, 0, 48, 16, .ro, 0⟩
/- CORE_PWR (R415, spec/14_power_and_nightfall.md). -/
def CORE_PWR.IDLE_STATE : Fld := ⟨.CORE_PWR, 0, 0, 2, .rw, 0⟩
def CORE_PWR.CLK_SRC : Fld := ⟨.CORE_PWR, 0, 2, 1, .rw, 0⟩
def CORE_PWR.CLK_SWITCHING : Fld := ⟨.CORE_PWR, 0, 3, 1, .ro, 0⟩
def CORE_PWR.STATE : Fld := ⟨.CORE_PWR, 0, 4, 2, .ro, 0⟩
/- BLK_FREQ (R415, spec/14_power_and_nightfall.md). -/
def BLK_FREQ.REQ : Fld := ⟨.BLK_FREQ, 0, 0, 8, .rw, 104⟩
/- PWR_DOMAIN (R415, spec/14_power_and_nightfall.md). -/
def PWR_DOMAIN.ON : Fld := ⟨.PWR_DOMAIN, 0, 0, 1, .ro, 1⟩
def PWR_DOMAIN.CELL_HOLD : Fld := ⟨.PWR_DOMAIN, 0, 1, 1, .ro, 0⟩
def PWR_DOMAIN.SVOTE : Fld := ⟨.PWR_DOMAIN, 0, 2, 1, .ro, 0⟩
def PWR_DOMAIN.PACKAGE_VOTE : Fld := ⟨.PWR_DOMAIN, 0, 3, 1, .ro, 1⟩
def PWR_DOMAIN.MSI_LOST : Fld := ⟨.PWR_DOMAIN, 0, 16, 16, .ro, 0⟩
def PWR_DOMAIN.VOTES : Fld := ⟨.PWR_DOMAIN, 1, 0, 64, .ro, 0⟩
/- PPM_STATUS (R415, spec/14_power_and_nightfall.md). -/
def PPM_STATUS.PACKAGE_W : Fld := ⟨.PPM_STATUS, 0, 0, 16, .ro, 0⟩
def PPM_STATUS.LIMIT_W : Fld := ⟨.PPM_STATUS, 0, 16, 16, .ro, 1000⟩
def PPM_STATUS.ALLOWANCE_MJ : Fld := ⟨.PPM_STATUS, 0, 32, 16, .ro, 0⟩
def PPM_STATUS.IDLE : Fld := ⟨.PPM_STATUS, 0, 48, 1, .ro, 0⟩
def PPM_STATUS.WAKE_CAUSE : Fld := ⟨.PPM_STATUS, 0, 49, 2, .ro, 0⟩
/- PPM_RAIL (R415, spec/14_power_and_nightfall.md). -/
def PPM_RAIL.REQ_MV : Fld := ⟨.PPM_RAIL, 0, 0, 16, .ro, 0⟩
def PPM_RAIL.ACK_MV : Fld := ⟨.PPM_RAIL, 0, 16, 16, .ro, 0⟩
def PPM_RAIL.PENDING : Fld := ⟨.PPM_RAIL, 0, 32, 1, .ro, 0⟩
def PPM_RAIL.TIMEOUT : Fld := ⟨.PPM_RAIL, 0, 33, 1, .w1c, 0⟩
/- PPM_CEIL (R415, spec/14_power_and_nightfall.md). -/
def PPM_CEIL.COMMITTED : Fld := ⟨.PPM_CEIL, 0, 0, 8, .ro, 104⟩
def PPM_CEIL.CEILING : Fld := ⟨.PPM_CEIL, 0, 8, 8, .ro, 104⟩
def PPM_CEIL.RUNNING : Fld := ⟨.PPM_CEIL, 0, 16, 8, .ro, 0⟩
def PPM_CEIL.CAUSE : Fld := ⟨.PPM_CEIL, 0, 24, 4, .ro, 0⟩
/- NF_STATUS (R415, spec/14_power_and_nightfall.md). -/
def NF_STATUS.ARMED : Fld := ⟨.NF_STATUS, 0, 0, 1, .ro, 0⟩
def NF_STATUS.BANK_LOW : Fld := ⟨.NF_STATUS, 0, 1, 1, .ro, 0⟩
def NF_STATUS.SLOTS_FULL : Fld := ⟨.NF_STATUS, 0, 2, 1, .ro, 0⟩
def NF_STATUS.STORE_FAILED : Fld := ⟨.NF_STATUS, 0, 3, 1, .ro, 0⟩
def NF_STATUS.SHADOW_READY : Fld := ⟨.NF_STATUS, 0, 4, 1, .ro, 1⟩
def NF_STATUS.STAGE : Fld := ⟨.NF_STATUS, 0, 5, 3, .ro, 0⟩
def NF_STATUS.CAUSE : Fld := ⟨.NF_STATUS, 0, 8, 2, .ro, 0⟩
def NF_STATUS.HELD : Fld := ⟨.NF_STATUS, 0, 10, 2, .ro, 0⟩
def NF_STATUS.RESTORING : Fld := ⟨.NF_STATUS, 0, 12, 1, .ro, 0⟩
def NF_STATUS.TRIGGER : Fld := ⟨.NF_STATUS, 1, 0, 64, .ro, 0⟩
def NF_STATUS.HALT : Fld := ⟨.NF_STATUS, 2, 0, 64, .ro, 0⟩
/- NF_CFG (R415, spec/14_power_and_nightfall.md). -/
def NF_CFG.ARM_MV : Fld := ⟨.NF_CFG, 0, 0, 16, .srw, 11970⟩
def NF_CFG.VALID : Fld := ⟨.NF_CFG, 1, 0, 1, .srw, 0⟩
def NF_CFG.RESTORE_BASE : Fld := ⟨.NF_CFG, 1, 21, 31, .srw, 0⟩
/- CTR_BANK (R426, spec/15_counters.md). -/
def CTR_BANK.LAG : Fld := ⟨.CTR_BANK, 0, 0, 8, .ro, 0⟩
def CTR_BANK.COUNTERS : Fld := ⟨.CTR_BANK, 0, 8, 5, .ro, 0⟩
def CTR_BANK.CALIBRATING : Fld := ⟨.CTR_BANK, 0, 13, 1, .ro, 0⟩
def CTR_BANK.RESTARTS : Fld := ⟨.CTR_BANK, 0, 16, 16, .ro, 0⟩
/- CTR_RANGE (R426, spec/15_counters.md). -/
def CTR_RANGE.BASE : Fld := ⟨.CTR_RANGE, 0, 6, 46, .rw, 0⟩
def CTR_RANGE.MASK : Fld := ⟨.CTR_RANGE, 1, 6, 46, .rw, 0⟩
/- CTR_CFG (R426, spec/15_counters.md). -/
def CTR_CFG.EVENT : Fld := ⟨.CTR_CFG, 0, 0, 16, .rw, 0⟩
def CTR_CFG.WORLD_F : Fld := ⟨.CTR_CFG, 0, 16, 2, .rw, 0⟩
def CTR_CFG.TAG : Fld := ⟨.CTR_CFG, 0, 18, 6, .rw, 0⟩
def CTR_CFG.TAG_EN : Fld := ⟨.CTR_CFG, 0, 24, 1, .rw, 0⟩
def CTR_CFG.RANGE_SEL : Fld := ⟨.CTR_CFG, 0, 25, 2, .rw, 0⟩
def CTR_CFG.MASTER : Fld := ⟨.CTR_CFG, 0, 27, 12, .rw, 0⟩
def CTR_CFG.MASTER_SCOPE : Fld := ⟨.CTR_CFG, 0, 39, 2, .rw, 0⟩
def CTR_CFG.INH : Fld := ⟨.CTR_CFG, 0, 58, 5, .rw, 0⟩
def CTR_CFG.OF : Fld := ⟨.CTR_CFG, 0, 63, 1, .rw, 0⟩
/- CTR_VALUE (R426, spec/15_counters.md). -/
def CTR_VALUE.COUNT : Fld := ⟨.CTR_VALUE, 0, 0, 48, .ro, 0⟩
def CTR_VALUE.SAMPLE_LO : Fld := ⟨.CTR_VALUE, 0, 48, 16, .ro, 0⟩
/- CTR_BW (R426, spec/15_counters.md). -/
def CTR_BW.TOTAL : Fld := ⟨.CTR_BW, 0, 0, 32, .ro, 0⟩
def CTR_BW.BOOKED : Fld := ⟨.CTR_BW, 1, 0, 32, .ro, 0⟩
def CTR_BW.FRAME : Fld := ⟨.CTR_BW, 0, 32, 32, .ro, 0⟩
def CTR_BW.FRAME1 : Fld := ⟨.CTR_BW, 1, 32, 32, .ro, 0⟩
def CTR_BW.PEAK : Fld := ⟨.CTR_BW, 2, 0, 32, .rc, 0⟩
def CTR_BW.PEAK_FRAME : Fld := ⟨.CTR_BW, 2, 32, 32, .ro, 0⟩
/- CTR_USER_MAP (R426, spec/15_counters.md). -/
def CTR_USER_MAP.UNIT : Fld := ⟨.CTR_USER_MAP, 0, 0, 32, .ro, 0⟩
def CTR_USER_MAP.COUNTER : Fld := ⟨.CTR_USER_MAP, 0, 32, 4, .ro, 0⟩
def CTR_USER_MAP.VALID : Fld := ⟨.CTR_USER_MAP, 0, 63, 1, .ro, 0⟩
/- BOOT_STATUS (R444, spec/16_startup_pins_board.md). -/
def BOOT_STATUS.STEP : Fld := ⟨.BOOT_STATUS, 0, 0, 4, .ro, 0⟩
def BOOT_STATUS.IMAGE : Fld := ⟨.BOOT_STATUS, 0, 4, 1, .ro, 0⟩
def BOOT_STATUS.FALLBACK : Fld := ⟨.BOOT_STATUS, 0, 5, 1, .ro, 0⟩
def BOOT_STATUS.FORCED : Fld := ⟨.BOOT_STATUS, 0, 6, 1, .ro, 0⟩
def BOOT_STATUS.START_MS : Fld := ⟨.BOOT_STATUS, 0, 16, 16, .ro, 0⟩
/- BOOT_VEC (R444, spec/16_startup_pins_board.md). -/
def BOOT_VEC.ENTRY : Fld := ⟨.BOOT_VEC, 0, 2, 50, .rwl, 0⟩
/- STRAP_STATUS (R444, spec/16_startup_pins_board.md). -/
def STRAP_STATUS.SMB_ADDR : Fld := ⟨.STRAP_STATUS, 0, 0, 3, .ro, 0⟩
def STRAP_STATUS.XSPI_MODE : Fld := ⟨.STRAP_STATUS, 0, 3, 1, .ro, 0⟩
def STRAP_STATUS.IMG_FORCE : Fld := ⟨.STRAP_STATUS, 0, 4, 2, .ro, 0⟩
def STRAP_STATUS.SMB_ADDR_USED : Fld := ⟨.STRAP_STATUS, 0, 6, 7, .ro, 0⟩
/- DIE_CAP (R35, spec/01_package_and_hierarchy.md). -/
def DIE_CAP.CAPS : Fld := ⟨.DIE_CAP, 0, 0, 15, .ro, 0⟩
/- CHIP_CAP_EFFECTIVE (R35, spec/01_package_and_hierarchy.md). -/
def CHIP_CAP_EFFECTIVE.CAPS : Fld := ⟨.CHIP_CAP_EFFECTIVE, 0, 0, 15, .ro, 0⟩

/-- The fields of a register, in the order of its table; a field repeated every few bits is listed once per copy. -/
def Reg.fields : Reg → List Fld
  | .CHIP_ID => [CHIP_ID.PART, CHIP_ID.KS_MASK, CHIP_ID.KS_METAL, CHIP_ID.BRICK_UP, CHIP_ID.BRICK_STEP, CHIP_ID.CONST_NUMBER]
  | .DIE_ID => [DIE_ID.DIE_TYPE, DIE_ID.MASK, DIE_ID.METAL, DIE_ID.POSITION, DIE_ID.SERIAL, DIE_ID.TEST_REV, DIE_ID.UP]
  | .MBX_CFG => [MBX_CFG.PATH, MBX_CFG.PORT, MBX_CFG.SECURE]
  | .MBX_DOORBELL => [MBX_DOORBELL.CMD_TAIL, MBX_DOORBELL.RESET]
  | .MBX_STATUS => [MBX_STATUS.CMD_HEAD, MBX_STATUS.CMP_TAIL, MBX_STATUS.EVT_TAIL, MBX_STATUS.EVT_LOST, MBX_STATUS.READY, MBX_STATUS.KEEPER_RESTART]
  | .MBX_CMP_HEAD => [MBX_CMP_HEAD.CMP_HEAD]
  | .MBX_EVT_HEAD => [MBX_EVT_HEAD.EVT_HEAD]
  | .MBX_SEQ => [MBX_SEQ.SEQ_EXPECT]
  | .MBX_IRQ => [MBX_IRQ.CMP_EN, MBX_IRQ.EVT_EN, MBX_IRQ.HART, MBX_IRQ.FILE, MBX_IRQ.GUEST, MBX_IRQ.EIID]
  | .MBX_EVT_MASK => [MBX_EVT_MASK.EVT_EN]
  | .MBX_ERR => [MBX_ERR.RING_OVERRUN, MBX_ERR.BAD_DOORBELL, MBX_ERR.BAD_POINTER, MBX_ERR.PATH_VIOLATION]
  | .STB_NOW => [STB_NOW.STB]
  | .STB_STATE => [STB_STATE.STATE, STB_STATE.SOURCE, STB_STATE.LINK, STB_STATE.HOLDOVER_EN, STB_STATE.STEPPED, STB_STATE.RESYNC, STB_STATE.FALLBACK]
  | .STB_PPS_STAMP => [STB_PPS_STAMP.STAMP]
  | .STB_OFFSET => [STB_OFFSET.OFFSET_PS, STB_OFFSET.HOLDOVER_MS]
  | .STB_TRIM => [STB_TRIM.TRIM_PPB]
  | .STB_EVT => [STB_EVT.PULSE_INVALID, STB_EVT.REF_LOST, STB_EVT.HOLDOVER_EXPIRED, STB_EVT.REPLICA_ERR, STB_EVT.STEPPED]
  | .STB_CTRL => [STB_CTRL.SOURCE, STB_CTRL.LINK, STB_CTRL.HOLDOVER_EN, STB_CTRL.HOLDOVER_S]
  | .STB_EPOCH => [STB_EPOCH.EPOCH]
  | .STB_REPLICA => [STB_REPLICA.PATH, STB_REPLICA.REPLICA_ERR, STB_REPLICA.FINE_TRIM, STB_REPLICA.COARSE_DELAY, STB_REPLICA.RESIDUAL]
  | .ALM_STATUS => [ALM_STATUS.RECOMPUTING, ALM_STATUS.WITHDRAWING, ALM_STATUS.BOOKINGS, ALM_STATUS.GENERATION]
  | .ALM_RECOMPUTE => [ALM_RECOMPUTE.STAMP]
  | .ALM_TRIGGER => [ALM_TRIGGER.STAMP]
  | .ALM_NEXT_ID => [ALM_NEXT_ID.NEXT_ID]
  | .ALM_EVT => [ALM_EVT.RECOMPUTED, ALM_EVT.REVOKED, ALM_EVT.WITHDRAWN, ALM_EVT.OVERLOAD, ALM_EVT.UPWARD]
  | .ALM_CAP => [ALM_CAP.DERATED, ALM_CAP.BOOKED, ALM_CAP.BOOKABLE, ALM_CAP.HONOURED]
  | .ALM_SHARE => [ALM_SHARE.SHARE, ALM_SHARE.HONOURED_SHARE]
  | .ALM_RING_MASK => [ALM_RING_MASK.POSITIONS]
  | .ALM_COURSE_MASK => [ALM_COURSE_MASK.POSITIONS]
  | .ALM_METER => [ALM_METER.REMAINING, ALM_METER.DEMOTED]
  | .ALM_TAG_CFG => [ALM_TAG_CFG.ENABLED, ALM_TAG_CFG.SECURE, ALM_TAG_CFG.CORE_OK, ALM_TAG_CFG.MAX_URGENCY]
  | .IE_STATUS => [IE_STATUS.ENABLED, IE_STATUS.IN_ADMISSION, IE_STATUS.DRAIN_ACTIVE, IE_STATUS.CHANNELS]
  | .IE_EVT => [IE_EVT.SPOOF, IE_EVT.REFUSED, IE_EVT.BAD_DOORBELL, IE_EVT.CQ_WAIT, IE_EVT.ENTRY_TIE_LOST]
  | .IE_SPOOF_LOG => [IE_SPOOF_LOG.CHANNEL, IE_SPOOF_LOG.CLAIMED_PORT, IE_SPOOF_LOG.CLAIMED_FUNCTION, IE_SPOOF_LOG.CLAIMED_TENANT, IE_SPOOF_LOG.CHECK]
  | .IE_SPOOF_STAMP => [IE_SPOOF_STAMP.STAMP]
  | .IE_CH_STATE => [IE_CH_STATE.SQ_HEAD, IE_CH_STATE.CQ_TAIL, IE_CH_STATE.PHASE, IE_CH_STATE.BOUND, IE_CH_STATE.TWIN_FIRST, IE_CH_STATE.TWIN_SECOND, IE_CH_STATE.OUTSTANDING]
  | .IE_CH_DB => [IE_CH_DB.SQ_TAIL, IE_CH_DB.CQ_HEAD, IE_CH_DB.IRQ_EN, IE_CH_DB.HART, IE_CH_DB.FILE, IE_CH_DB.GUEST]
  | .DSP_STATUS => [DSP_STATUS.QUEUED, DSP_STATUS.HOLDING]
  | .DSP_TIMES => [DSP_TIMES.GUARD, DSP_TIMES.ANSWER]
  | .DSP_EVT => [DSP_EVT.OVERRUN, DSP_EVT.GUARD_FIRED, DSP_EVT.MISMATCH, DSP_EVT.RETRY, DSP_EVT.CORE_WITHDRAWN, DSP_EVT.REDISPATCH]
  | .DSP_GROUP => [DSP_GROUP.QUEUED, DSP_GROUP.CORES_IN, DSP_GROUP.CORES_OUT, DSP_GROUP.HEAD_DEADLINE, DSP_GROUP.BLOCKING]
  | .DSP_CORE => [DSP_CORE.OP_ID, DSP_CORE.HOLDING, DSP_CORE.ANSWERED, DSP_CORE.OUT, DSP_CORE.GROUP, DSP_CORE.IN_GROUP, DSP_CORE.QUEUED]
  | .OPT_STATUS => [OPT_STATUS.FREE, OPT_STATUS.HELD, OPT_STATUS.KEPT_HELD]
  | .OPT_TAG => [OPT_TAG.HELD, OPT_TAG.ALLOWED]
  | .JNL_STATUS => [JNL_STATUS.FREE_UNITS, JNL_STATUS.DRAIN_HALTED]
  | .JNL_EVT => [JNL_EVT.DRAIN_ERROR, JNL_EVT.MIRROR_TIMEOUT, JNL_EVT.FULL_REFUSAL, JNL_EVT.VOIDED]
  | .JNL_TAG => [JNL_TAG.HELD, JNL_TAG.ALLOWED]
  | .JNL_SEQ => [JNL_SEQ.NEXT_SEQ, JNL_SEQ.DRAINED_SEQ, JNL_SEQ.MIRROR_LOST]
  | .JNL_DRAIN_MAP => (List.range 16).map (JNL_DRAIN_MAP.CHAN.nth 4)
  | .JNL_DRAIN => [JNL_DRAIN.ENABLE, JNL_DRAIN.PORT, JNL_DRAIN.ENGINE, JNL_DRAIN.QID, JNL_DRAIN.QLOG2, JNL_DRAIN.WAIT_FRAMES, JNL_DRAIN.SQ_ADDR, JNL_DRAIN.CQ_ADDR, JNL_DRAIN.SQ_DOORBELL, JNL_DRAIN.CQ_DOORBELL, JNL_DRAIN.NSID, JNL_DRAIN.LBA_START, JNL_DRAIN.LBA_COUNT]
  | .BTAG => [BTAG.TAG, BTAG.TAG_VALID, BTAG.URGENCY, BTAG.URG_VALID]
  | .TOPID => [TOPID.OP_ID, TOPID.CLASS, TOPID.ATTEMPT, TOPID.VALID]
  | .MWORLD => [MWORLD.WORLD, MWORLD.BLOCK_WORLD]
  | .MXBCFG => [MXBCFG.TX_S, MXBCFG.TX_U, MXBCFG.WS_EN, MXBCFG.BTAG_EN, MXBCFG.FT_G, MXBCFG.FT_PERMIT]
  | .SXBCFG => [SXBCFG.TX_V, SXBCFG.TX_U, SXBCFG.BTAG_U, SXBCFG.FT_S, SXBCFG.FT_VS]
  | .IEC_CFG => [IEC_CFG.ENABLE, IEC_CFG.BLOCKING]
  | .IEC_RANGE => [IEC_RANGE.BASE, IEC_RANGE.SIZE, IEC_RANGE.VALID]
  | .IEC_STATUS => [IEC_STATUS.MISS_PENDING, IEC_STATUS.WRITEBACK_PENDING, IEC_STATUS.SECOND_MISS_WAIT, IEC_STATUS.DISABLED_WAYS]
  | .CORE_ARB_HINT => [CORE_ARB_HINT.THRESHOLD, CORE_ARB_HINT.LAST_WAIT]
  | .CORE_PAIR => [CORE_PAIR.STATE, CORE_PAIR.PARTNER, CORE_PAIR.DIVERGENCES]
  | .MEM_NODE => [MEM_NODE.STATE, MEM_NODE.WAYS, MEM_NODE.MASK, MEM_NODE.RATE, MEM_NODE.BOOKABLE, MEM_NODE.CAPACITY, MEM_NODE.PATROL_H]
  | .MC_STATUS => [MC_STATUS.STATE, MC_STATUS.PARTNER, MC_STATUS.FAILED_DEVICE, MC_STATUS.SPARED_ROWS, MC_STATUS.QLEVEL]
  | .MC_ERR_LOG => [MC_ERR_LOG.ADDR, MC_ERR_LOG.KIND, MC_ERR_LOG.COUNT, MC_ERR_LOG.STAMP]
  | .CORE_WALK_ERR => [CORE_WALK_ERR.VALID, CORE_WALK_ERR.OVERFLOW, CORE_WALK_ERR.KIND, CORE_WALK_ERR.STAGE, CORE_WALK_ERR.LEVEL]
  | .CORE_WALK_ADDR => [CORE_WALK_ADDR.ADDR]
  | .CORE_WALK_STAT => [CORE_WALK_STAT.ABANDONS, CORE_WALK_STAT.FT_ALLOCS]
  | .POOL_STATE => [POOL_STATE.WORLD, POOL_STATE.NODE, POOL_STATE.FSIZE, POOL_STATE.RANGES, POOL_STATE.RETURNED, POOL_STATE.NEXT, POOL_STATE.FREE, POOL_STATE.EMPTY_FAULTS, POOL_STATE.SKIPPED, POOL_STATE.WORLD_MISS]
  | .RING_CTRL => [RING_CTRL.STARVE_LIMIT]
  | .RING_STATUS => [RING_STATUS.PINNED, RING_STATUS.CLAIM0, RING_STATUS.CLAIM1, RING_STATUS.HDR_CORRECTED]
  | .RING_STOP_CNT => [RING_STOP_CNT.DEFLECTIONS, RING_STOP_CNT.PINS, RING_STOP_CNT.CLAIMS, RING_STOP_CNT.PIN_PEAK]
  | .ARB_PORT => [ARB_PORT.HOLD_LIMIT, ARB_PORT.HOLD_CUTOFFS, ARB_PORT.REVOKES, ARB_PORT.HINT_MISSES]
  | .HA_STATUS => [HA_STATUS.TRACKER_USED, HA_STATUS.SET_WAITING, HA_STATUS.RESERVED_IN_USE]
  | .HA_SF_STAT => [HA_SF_STAT.VALID, HA_SF_STAT.BACK_INVALS]
  | .HA_ERR_LOG => [HA_ERR_LOG.ADDR, HA_ERR_LOG.KIND, HA_ERR_LOG.COUNT, HA_ERR_LOG.STAMP]
  | .CRS_STATUS => [CRS_STATUS.WIDTH, CRS_STATUS.GROUP_K, CRS_STATUS.GROUP_B, CRS_STATUS.SPARES_K, CRS_STATUS.SPARES_B, CRS_STATUS.STALLS]
  | .CRS_BAD_LO_K => [CRS_BAD_LO_K.BAD]
  | .CRS_BAD_LO_B => [CRS_BAD_LO_B.BAD]
  | .CRS_BAD_HI => [CRS_BAD_HI.BAD_K, CRS_BAD_HI.BAD_B]
  | .CRS_REMAP => (List.range 4).map (CRS_REMAP.LOGICAL.nth 16) ++ (List.range 4).map (CRS_REMAP.LOGICAL_HI.nth 16) ++ (List.range 4).map (CRS_REMAP.PHYSICAL.nth 16) ++ (List.range 4).map (CRS_REMAP.PHYSICAL_HI.nth 16) ++ (List.range 4).map (CRS_REMAP.DIR.nth 16) ++ (List.range 4).map (CRS_REMAP.DIR_HI.nth 16) ++ (List.range 4).map (CRS_REMAP.VALID.nth 16) ++ (List.range 4).map (CRS_REMAP.VALID_HI.nth 16)
  | .CRS_COUNT => [CRS_COUNT.REPLAYS, CRS_COUNT.CHARGED]
  | .CRS_EVT => [CRS_EVT.REMAP, CRS_EVT.HALF, CRS_EVT.RETIRED, CRS_EVT.DEFERRED, CRS_EVT.REMAP_UNLOGGED]
  | .SB_STATUS => [SB_STATUS.FAILED, SB_STATUS.BUDGET_FALLBACK]
  | .DIE_ERRATA => [DIE_ERRATA.ERRATA]
  | .CHIP_WORKAROUND => [CHIP_WORKAROUND.ERRATA]
  | .LB_STATUS => [LB_STATUS.SOURCE, LB_STATUS.A_FAILED, LB_STATUS.B_FAILED, LB_STATUS.BRIDGE_LOST, LB_STATUS.COUPLER_LOST, LB_STATUS.LINK_PATH_LOST]
  | .LINK_STATUS => [LINK_STATUS.STATE, LINK_STATUS.WIDTH, LINK_STATUS.BAD_WAVES, LINK_STATUS.PEER, LINK_STATUS.PEER_LINK, LINK_STATUS.MARKS_OK, LINK_STATUS.DELAY]
  | .LINK_COUNT => [LINK_COUNT.REPLAYS, LINK_COUNT.CHARGED]
  | .LINK_EVT => [LINK_EVT.DOWN, LINK_EVT.WIDTH, LINK_EVT.FENCE_RX, LINK_EVT.LATE_ANSWER, LINK_EVT.REMOTE_TIMEOUT, LINK_EVT.WRONG_PEER]
  | .LINK_TRACK => [LINK_TRACK.USED, LINK_TRACK.QUARANTINED]
  | .CST_STATUS => [CST_STATUS.MEMBER, CST_STATUS.JOINING, CST_STATUS.LEAVING, CST_STATUS.IS_GM, CST_STATUS.NUMBER, CST_STATUS.GM, CST_STATUS.COH_GROUP, CST_STATUS.GROUP_SIZE, CST_STATUS.TOPOLOGY, CST_STATUS.DIM_X, CST_STATUS.DIM_Y, CST_STATUS.DIM_Z]
  | .CST_CTRL => [CST_CTRL.REMOTE_TO]
  | .CST_MSG_SEND => [CST_MSG_SEND.DEST_PKG, CST_MSG_SEND.HART, CST_MSG_SEND.FILE, CST_MSG_SEND.GUEST, CST_MSG_SEND.EIID]
  | .CST_MSG_STATUS => [CST_MSG_STATUS.SENT, CST_MSG_STATUS.DROPPED]
  | .CST_ROUTE => (List.range 8).map (CST_ROUTE.PRIMARY.nth 8) ++ (List.range 8).map (CST_ROUTE.ALTERNATE.nth 8) ++ (List.range 8).map (CST_ROUTE.ALT_VALID.nth 8) ++ (List.range 8).map (CST_ROUTE.VALID.nth 8)
  | .CST_MEMBERS => [CST_MEMBERS.MEMBER]
  | .CST_EXPORT => [CST_EXPORT.VALID, CST_EXPORT.COH, CST_EXPORT.BASE]
  | .CST_MSG_ALLOW => [CST_MSG_ALLOW.ALLOW]
  | .CST_MIRROR_SLOT => [CST_MIRROR_SLOT.VALID, CST_MIRROR_SLOT.ORPHAN, CST_MIRROR_SLOT.SOURCE, CST_MIRROR_SLOT.JOURNAL, CST_MIRROR_SLOT.DRAIN, CST_MIRROR_SLOT.UNITS]
  | .WLD_GATE => [WLD_GATE.VALID, WLD_GATE.ENTRY, WLD_GATE.CALLERS, WLD_GATE.TRAP]
  | .CORE_WFRAME => [CORE_WFRAME.OPEN, CORE_WFRAME.GATE, CORE_WFRAME.RD, CORE_WFRAME.CALLER_MODE, CORE_WFRAME.CALLER_V]
  | .BLK_CLK_CTRL => [BLK_CLK_CTRL.GATE]
  | .WLD_BLK_STATE => [WLD_BLK_STATE.WORLD, WLD_BLK_STATE.SVOTE, WLD_BLK_STATE.HELD, WLD_BLK_STATE.GATED]
  | .WLD_BLK_SEC => [WLD_BLK_SEC.SVOTE, WLD_BLK_SEC.SGATE]
  | .WLD_PORT => [WLD_PORT.SECURE]
  | .WLD_DEBUG => [WLD_DEBUG.INVASIVE, WLD_DEBUG.NONINVASIVE, WLD_DEBUG.SCOPE]
  | .TNT_VF => [TNT_VF.STATE, TNT_VF.TENANT, TNT_VF.MAX_URGENCY, TNT_VF.MANAGER, TNT_VF.INFLIGHT, TNT_VF.CLASS_MASK, TNT_VF.TAG_MASK, TNT_VF.ABORTED]
  | .PCIE_PORT_STATUS => [PCIE_PORT_STATUS.ROLE, PCIE_PORT_STATUS.BIFURCATION, PCIE_PORT_STATUS.CONTAINED, PCIE_PORT_STATUS.EP_READY, PCIE_PORT_STATUS.CPL_TO_US]
  | .PCIE_LINK => [PCIE_LINK.STATE, PCIE_LINK.WIDTH, PCIE_LINK.SPEED, PCIE_LINK.FLIT]
  | .PCIE_PORT_EVT => [PCIE_PORT_EVT.CPL_TIMEOUT, PCIE_PORT_EVT.LATE_CPL, PCIE_PORT_EVT.BME_ABORT, PCIE_PORT_EVT.FLR, PCIE_PORT_EVT.INBOUND_UR, PCIE_PORT_EVT.INBOUND_WORLD, PCIE_PORT_EVT.DPC, PCIE_PORT_EVT.SPOOF_CHARGED]
  | .PCIE_TAGS => [PCIE_TAGS.OUTSTANDING, PCIE_TAGS.QUARANTINED]
  | .RP_OUT => [RP_OUT.BASE]
  | .RP_MSI => [RP_MSI.VALID, RP_MSI.MACHINE_OK, RP_MSI.BUS_BASE]
  | .RP_IRQ => [RP_IRQ.IRQ_EN, RP_IRQ.HART, RP_IRQ.FILE, RP_IRQ.GUEST, RP_IRQ.EIID]
  | .EP_APERTURE => [EP_APERTURE.VALID, EP_APERTURE.WORLD, EP_APERTURE.BASE, EP_APERTURE.PAGES]
  | .RP_IN_WIN => [RP_IN_WIN.VALID, RP_IN_WIN.BUS_BASE, RP_IN_WIN.SIZE, RP_IN_WIN.TARGET]
  | .FLT_STATUS => [FLT_STATUS.SOURCES]
  | .FLT_SEV_LO => (List.range 32).map (FLT_SEV_LO.SEV.nth 2)
  | .FLT_SEV_HI => (List.range 32).map (FLT_SEV_HI.SEV.nth 2)
  | .FLT_FIXED => [FLT_FIXED.FIXED]
  | .FLT_FIRST => [FLT_FIRST.BIT, FLT_FIRST.VALID, FLT_FIRST.PIN, FLT_FIRST.STAMP]
  | .FLT_SRC => [FLT_SRC.LEVEL, FLT_SRC.EVENTS, FLT_SRC.PERMANENT, FLT_SRC.THRESHOLD, FLT_SRC.LEAK_MS, FLT_SRC.LAST_STAMP]
  | .FLT_SECURE => [FLT_SECURE.SRW_WRITE, FLT_SECURE.PAGE_ACCESS, FLT_SECURE.PATH_VIOLATION, FLT_SECURE.HELD_SECURE, FLT_SECURE.GATE_WRITE, FLT_SECURE.AUTH_FAIL, FLT_SECURE.STAMP]
  | .CHIP_SAFE => [CHIP_SAFE.SAFE, CHIP_SAFE.CAUSE_LEVEL, CHIP_SAFE.CAUSE_BIT, CHIP_SAFE.FAULT_N_BY, CHIP_SAFE.STAMP]
  | .MNT_STATE => [MNT_STATE.RUNNING, MNT_STATE.UNIT_RETIRE, MNT_STATE.QUEUED, MNT_STATE.COPY_HOLD, MNT_STATE.TIME_LOCK, MNT_STATE.COPY_HOLDS, MNT_STATE.RESYNC_ABORTS]
  | .CORE_PWR => [CORE_PWR.IDLE_STATE, CORE_PWR.CLK_SRC, CORE_PWR.CLK_SWITCHING, CORE_PWR.STATE]
  | .BLK_FREQ => [BLK_FREQ.REQ]
  | .PWR_DOMAIN => [PWR_DOMAIN.ON, PWR_DOMAIN.CELL_HOLD, PWR_DOMAIN.SVOTE, PWR_DOMAIN.PACKAGE_VOTE, PWR_DOMAIN.MSI_LOST, PWR_DOMAIN.VOTES]
  | .PPM_STATUS => [PPM_STATUS.PACKAGE_W, PPM_STATUS.LIMIT_W, PPM_STATUS.ALLOWANCE_MJ, PPM_STATUS.IDLE, PPM_STATUS.WAKE_CAUSE]
  | .PPM_RAIL => [PPM_RAIL.REQ_MV, PPM_RAIL.ACK_MV, PPM_RAIL.PENDING, PPM_RAIL.TIMEOUT]
  | .PPM_CEIL => [PPM_CEIL.COMMITTED, PPM_CEIL.CEILING, PPM_CEIL.RUNNING, PPM_CEIL.CAUSE]
  | .NF_STATUS => [NF_STATUS.ARMED, NF_STATUS.BANK_LOW, NF_STATUS.SLOTS_FULL, NF_STATUS.STORE_FAILED, NF_STATUS.SHADOW_READY, NF_STATUS.STAGE, NF_STATUS.CAUSE, NF_STATUS.HELD, NF_STATUS.RESTORING, NF_STATUS.TRIGGER, NF_STATUS.HALT]
  | .NF_CFG => [NF_CFG.ARM_MV, NF_CFG.VALID, NF_CFG.RESTORE_BASE]
  | .CTR_BANK => [CTR_BANK.LAG, CTR_BANK.COUNTERS, CTR_BANK.CALIBRATING, CTR_BANK.RESTARTS]
  | .CTR_RANGE => [CTR_RANGE.BASE, CTR_RANGE.MASK]
  | .CTR_CFG => [CTR_CFG.EVENT, CTR_CFG.WORLD_F, CTR_CFG.TAG, CTR_CFG.TAG_EN, CTR_CFG.RANGE_SEL, CTR_CFG.MASTER, CTR_CFG.MASTER_SCOPE, CTR_CFG.INH, CTR_CFG.OF]
  | .CTR_VALUE => [CTR_VALUE.COUNT, CTR_VALUE.SAMPLE_LO]
  | .CTR_BW => [CTR_BW.TOTAL, CTR_BW.BOOKED, CTR_BW.FRAME, CTR_BW.FRAME1, CTR_BW.PEAK, CTR_BW.PEAK_FRAME]
  | .CTR_USER_MAP => [CTR_USER_MAP.UNIT, CTR_USER_MAP.COUNTER, CTR_USER_MAP.VALID]
  | .BOOT_STATUS => [BOOT_STATUS.STEP, BOOT_STATUS.IMAGE, BOOT_STATUS.FALLBACK, BOOT_STATUS.FORCED, BOOT_STATUS.START_MS]
  | .BOOT_VEC => [BOOT_VEC.ENTRY]
  | .STRAP_STATUS => [STRAP_STATUS.SMB_ADDR, STRAP_STATUS.XSPI_MODE, STRAP_STATUS.IMG_FORCE, STRAP_STATUS.SMB_ADDR_USED]
  | .DIE_CAP => [DIE_CAP.CAPS]
  | .CHIP_CAP_EFFECTIVE => [CHIP_CAP_EFFECTIVE.CAPS]

/-- The reset word the register's own table gives it: every field at its table's value, reserved bits 0 (R4). The
registers whose reset value depends on the unit (R43, R254, R367, R420, a fuse or a strap) get it in `resetWord`. -/
def Reg.tableReset (r : Reg) (word : Nat) : Nat :=
  ((r.fields.filter (fun f => f.word == word)).map (fun f => f.reset * 2 ^ f.lo)).sum

end Sys2Proof.Machine
end

