-- ==== Sys2Proof/Machine/RegFile.lean ====
section
/-! DEFINITION. The register file: the word of a register by its name, its index and the number of the word, with the
reset word where nothing is listed. -/

namespace Sys2Proof.Machine

/-- The place of a 64-bit word in the register file: the register, its index among the units that have one, and the
word of a register of several words. -/
structure RKey where
  reg : Reg
  idx : Nat
  word : Nat
deriving DecidableEq, Repr

/-- The order in which the register file lists its words. -/
def rkeyLt (a b : RKey) : Bool :=
  decide (a.reg.ctorIdx < b.reg.ctorIdx) ||
    (decide (a.reg.ctorIdx = b.reg.ctorIdx) &&
      (decide (a.idx < b.idx) || (decide (a.idx = b.idx) && decide (a.word < b.word))))

/-- R43: the default path of a mailbox with its port, as MBX_CFG reads. -/
def mbxCfgReset (m : Nat) : Nat :=
  let secure := if m < 4 then 32 else 0
  if m = 3 ∨ m = 63 then 2 + secure
  else if 56 ≤ m ∧ m ≤ 59 then 1 + 4 * (2 * (m - 56))
  else secure

/-- R254: HOLD_LIMIT after reset. Block ports stand at 2 × block + n, level ports at 272 + 4 × level + n. -/
def holdLimitReset (i : Nat) : Nat :=
  if i < 272 then
    if i % 2 = 0 then 8
    else if 12 ≤ i / 16 ∧ i / 16 < 16 ∧ (i / 2 % 8 = 3 ∨ i / 2 % 8 = 4) then 1 else 0
  else
    let l := (i - 272) / 4
    let n := (i - 272) % 4
    if l < 12 then (if n = 0 then 4 else 0)
    else if l < 16 then (if n = 1 then 8 else if n = 2 then 16 else 0)
    else if n = 0 then 16 else if n = 1 then 8 else 0

/-- R416 and R420: the lag and the number of counters of a bank. Cells stand at 64 × block + cell, blocks at 8,704 up,
levels at 8,840 up. The mailbox unit has no bank. -/
def ctrBankReset (i : Nat) : Nat :=
  if i = 8194 then 0
  else if i < 8840 then 16 + 8 * 256
  else if i < 8856 then 24 + 8 * 256
  else 32 + 16 * 256

/-- The reset word of a register: its table's, or the unit's own where the value depends on the unit. -/
def resetWord (r : Reg) (i w : Nat) : Word :=
  BitVec.ofNat 64 (match r with
  | .MBX_CFG => mbxCfgReset i
  | .ARB_PORT => holdLimitReset i
  | .CTR_BANK => if w = 0 then ctrBankReset i else 0
  | .FLT_SEV_LO => sevReset (collAt i) 0
  | .FLT_SEV_HI => sevReset (collAt i) 32
  | .FLT_FIXED => fixedReset (collAt i)
  | .FLT_SRC =>
    match (collAt (i / 64)).source (i % 64) with
    | some d => if w = 0 then d.thr * 2 ^ 32 else if w = 1 then d.leak else 0
    | none => 0
  | .ALM_TAG_CFG => if i = 0 then 29 else 0
  | .DIE_ID => if i = 0 then 0x201 else 2 + (i - 1) * 4096
  | .DIE_CAP => if i = 0 then 0x7FFF else 0
  | r => r.tableReset w)

/-- The words that differ from their reset words, sorted. -/
abbrev RegFile := FMap RKey Word

/-- The word of a register. -/
def RegFile.word (f : RegFile) (r : Reg) (i w : Nat) : Word :=
  (lookupKey ⟨r, i, w⟩ f).getD (resetWord r i w)

/-- Sets the word of a register; its reset word is not listed. -/
def RegFile.withWord (f : RegFile) (r : Reg) (i w : Nat) (v : Word) : RegFile :=
  if v = resetWord r i w then dropKey ⟨r, i, w⟩ f else putBy rkeyLt ⟨r, i, w⟩ v f

/-- A field of a register. -/
def RegFile.fld (f : RegFile) (F : Fld) (i : Nat) : Nat := wbits (RegFile.word f F.reg i F.word) F.lo F.w

/-- Sets a field of a register, leaving the rest of its word. -/
def RegFile.withFld (f : RegFile) (F : Fld) (i v : Nat) : RegFile :=
  RegFile.withWord f F.reg i F.word (wset (RegFile.word f F.reg i F.word) F.lo F.w v)

/-- R9 and R32: a field that hardware has set: the stamp at which it last did, its value from before that stamp, and what hardware has
added to it since. -/
structure Hit where
  fld : Fld
  idx : Nat
  stamp : Stamp
  before : Nat
  added : Nat
deriving DecidableEq, Repr

/-- Whether hardware that gives a field the value `v`, which adds `add` to what it had, sets it in the sense of R9 and R32: a bit of type
W1C that it sets, a field of type RC that it adds to, and a field that software may write. -/
def Fld.hitBy (F : Fld) (v add : Nat) : Bool :=
  match F.acc with
  | .w1c => v % 2 == 1
  | .rc => add != 0
  | .rw => true
  | .rwl => true
  | .srw => true
  | _ => false

/-- The hits of a stamp after hardware has given a field the value `v`, where it had `old`, and so added `add` to it. -/
def noteHit (hits : List Hit) (now : Stamp) (F : Fld) (i old v add : Nat) : List Hit :=
  if F.hitBy v add then
    let live := hits.filter (fun h => h.stamp == now)
    if live.any (fun h => h.fld == F && h.idx == i) then
      live.map (fun h => if h.fld = F ∧ h.idx = i then { h with added := h.added + add } else h)
    else live ++ [⟨F, i, now, old, add⟩]
  else hits

end Sys2Proof.Machine
end

