-- ==== Sys2Proof/Machine/State.lean ====
section
/-! DEFINITION. The state of the package as plain data, the reasons a step can stop, and the state after reset. -/

namespace Sys2Proof.Machine

/-- The pins of the package (R437, R438): true is high. The PERST masks hold one bit per port. -/
structure Pins where
  pwrok : Bool := true
  rstN : Bool := false
  sagN : Bool := true
  faultN : Bool := true
  thermtripN : Bool := true
  nfActiveN : Bool := true
  pkgReady : Bool := false
  smbalertN : Bool := true
  epPerst : Nat := 0
  rpPerst : Nat := 0
deriving DecidableEq, Repr

/-- The keeper (R38 to R56): its mailboxes, a restart in progress with its cause and its stamp, the stamp of the last divergence, the
sideband pointer of R46, the events held during a restart, the place of the next command in the order of taking, and the image
and its version where an activation waits for the commands in progress (R79). -/
structure Keeper where
  boxes : NMap Mailbox := []
  restarting : Option Nat := none
  restartAt : Stamp := 0
  lastDiv : Option Stamp := none
  ptrBox : Nat := 0
  ptrOff : Nat := 0
  held : List HeldEvt := []
  nextId : Nat := 0
  activate : Option (Nat × Nat) := none
deriving DecidableEq, Repr

/-- What fault collection holds beside its registers (R357 to R366): the severity each latched bit was latched with and
the start of each bucket's leak, by 64 × collector + bit; the element buckets; the buckets' settings per lane; the records
to write; the records kept, oldest first; the next SEQ; the verdicts whose action is to be started; the pin level each
brick last reported and, by 8 × brick + level, the stamp of the event that last brought its pin to a level (R358); whether the safe-state reaction is to be run (R369); and the latest event of each latched source that has had
one since its last record (R364). -/
structure Faults where
  latched : NMap Nat := []
  starts : NMap Stamp := []
  elems : List ElemBucket := []
  lanes : NMap (Nat × Nat) := []
  pend : List PendRec := []
  recs : List FaultRec := []
  nextSeq : Nat := 1
  verdicts : List Verdict := []
  brickPins : NMap Nat := []
  pinStamps : NMap Stamp := []
  reaction : Bool := false
  more : NMap PendRec := []
deriving DecidableEq, Repr

/-- The maintenance sequencer (R371 to R378): the activities kept, oldest first, and the next MAINT_ID. -/
structure Maint where
  acts : List Activity := []
  nextId : Nat := 1
deriving DecidableEq, Repr

/-- The Almanac beside its registers (R107 to R135): bookings in ascending BOOKING_ID, shares, honoured parts of shares,
triggers waiting for the recompute, the unit and trigger stamp of the last recompute, and the units demoted per meter in the
current frame. -/
structure Almanac where
  books : List Booking := []
  shares : List Share := []
  olds : List OldShare := []
  trigs : List Trigger := []
  last : Nat × Stamp := (0, 0)
  demoted : NMap Nat := []
deriving DecidableEq, Repr

/-- The service path beside its registers (R137 to R168): classes, groups, channels, locked pairs and those to be locked
at a meridian (R104), descriptors held by
the engines, the op table, its two free lists, answers decided and not yet issued, what the dispatcher keeps per core, and
the engines' turns (R137) and the turns of the groups' best-effort queues (R153), the BST's GENERATION, the stamp of
its build and the table it built per endpoint port, and the ports whose rebuild is due (R345, R347), and the managers of tenants (R330). -/
structure Service where
  classes : NMap SvcClass := []
  groups : NMap SvcGroup := []
  channels : NMap Channel := []
  locked : List (Nat × Nat) := []
  locking : List (Nat × Nat × Stamp) := []
  descs : List Desc := []
  ops : NMap Op := []
  freed : List Nat := []
  fresh : Nat := 0
  answers : List Answer := []
  runs : NMap CoreRun := []
  turns : NMap Nat := []
  bstGen : NMap Nat := []
  bstAt : NMap Stamp := []
  managers : NMap Nat := []
  tables : NMap BstTable := []
  due : List Nat := []
deriving DecidableEq, Repr

/-- The journal store beside its registers (R162 to R168): its records in order of arrival, the journals that are
mirrored with partner and acknowledgement timeout, the partners of those whose mirroring has ended and that still hold mirrored records
(R305), and the drain channels. -/
structure Journal where
  recs : List JRec := []
  mirrors : NMap (Nat × Nat) := []
  parting : NMap Nat := []
  drains : NMap DrainState := []
deriving DecidableEq, Repr

/-- Which units are out of service, beside the registers that say so: cores retired (R198), cores whose pair diverged
and whose self-test has not released them (R128, R194), core blocks (6 × brick + block), stacks, ports and links retired
(R71), home slices stopped (R367), bricks whose retirement has begun, with its stamp (R279), lanes in retrain by
activity (R277), the stamps of each pair's divergences (R196), the pairs of cores whose harts have changed places, and the architectural
state that the keeper has saved of diverged pairs, by hart (R194, R195). -/
structure Units where
  coreDown : List Nat := []
  testing : List Nat := []
  blockDown : List Nat := []
  stackDown : List Nat := []
  portDown : List Nat := []
  linkDown : List Nat := []
  sliceDown : List Nat := []
  retiring : NMap Stamp := []
  retrain : NMap Nat := []
  diverged : FMap (Nat × Nat) (List Stamp) := []
  swapped : List (Nat × Nat) := []
  kept : NMap (List Byte) := []
deriving DecidableEq, Repr

/-- Memory (R25, R221 to R230, R312, R214): the bytes of local memory and its poisoned lines; the interleave set of each
node; mirrored pairs, first channel to second; the second channels whose granules are unpopulated (R223); the runs of
secure tiles, first and end; the pools; the controllers' scrub buffers (R227) and the lines rewritten; the rows spared by
controller since the start, and those to which hard repair has been applied (R228); the lines delivered corrected and not rewritten
(R227); by controller, the lines whose copy there is uncorrectable while the mirror's is good (R225); the lines poisoned because their memory could not correct them
(R203); the entries taken in the controllers' queues (R125); the queue level that the metering points know of each
controller (R126); and by first channel, the meridian at which a mirrored pair is locked (R104). A line rewritten is held with the stamp
of the read that has followed. -/
structure Memory where
  cells : List Host.Cell := []
  poison : List Nat := []
  members : NMap (List Nat) := []
  mirrors : NMap Nat := []
  unmapped : List Nat := []
  secure : List (Nat × Nat) := []
  pools : NMap Pool := []
  scrub : NMap (List Nat) := []
  rewritten : List (Nat × Option Stamp) := []
  spared : List (Nat × Nat) := []
  hard : List (Nat × Nat) := []
  weak : List Nat := []
  torn : List (Nat × Nat) := []
  broken : List Nat := []
  queue : List QEntry := []
  heard : NMap Nat := []
  locks : NMap Stamp := []
deriving DecidableEq, Repr

/-- Rings, caches and homes (R232 to R267): packets in flight; the block caches' lines by block and line, their pseudo-LRU
bits and disabled ways by block and set; the snoop filters by slice and set; open transactions; requests waiting at a
slice; combining entries; the blocks' snoop queues (R241); the harts' accesses in flight; the next TXN_ID per block; the translation
caches and paging-structure caches; the walks in flight; the lines of the L1s as way and line, by L1 and set (R179); the cores that had a
request at their block cache in this frame (R190); ring claims by ring × 2 + direction, with those whose drop is still on its way (R239); pin queues and the packets that hold a reserved
entry, by ring × 16 + stop and class; the ring cycle in which a stop last ejected from a direction, how many packets then, and the lane
after the last one's, by ring and 2 × stop + direction (R242); the arbitration tenures, by 8 × port + instance; the round-robin pointers of
the other arbiters (R21); the intake engines' caches. -/
structure Fabric where
  net : List Flight := []
  lines : FMap (Nat × Nat) CLine := []
  plru : FMap (Nat × Nat) Nat := []
  disabled : FMap (Nat × Nat) Nat := []
  filter : FMap (Nat × Nat) SfSet := []
  txns : List Txn := []
  waits : List (Nat × Pkt) := []
  combines : List Combine := []
  snoops : List (Nat × Pkt) := []
  misses : NMap Miss := []
  nextTxn : NMap Nat := []
  tlb : List TlbEntry := []
  ptrs : List Ptr := []
  walks : List Walk := []
  l1 : FMap (Nat × Nat) (List (Nat × Nat)) := []
  asked : List Nat := []
  claims : NMap (List Claim) := []
  pins : FMap (Nat × Nat) (List (Nat × Nat)) := []
  ejects : FMap (Nat × Nat) (Nat × Nat × Nat) := []
  tenures : NMap Tenure := []
  turns : NMap Nat := []
  engs : NMap EngCache := []
deriving DecidableEq, Repr

/-- PCI Express (R334 to R356): functions and root links by 512 × port + function (links stand at 384 up); outstanding
requests; quarantined tags; successive timeouts and the next try of a channel's descriptor read; resets in progress; and
the ports in fundamental reset or held by the safe-state reaction (R352). -/
structure Pcie where
  fns : NMap PcieFn := []
  reads : List PcieRead := []
  holds : List TagHold := []
  misses : NMap Nat := []
  retry : NMap Stamp := []
  resets : List FnReset := []
  safe : List Nat := []
deriving DecidableEq, Repr

/-- The state of the package. -/
structure State where
  stb : Stamp
  up : Bool
  locked : Bool
  regs : RegFile
  hits : List Hit
  pins : Pins
  keeper : Keeper
  units : Units
  faults : Faults
  maint : Maint
  alm : Almanac
  svc : Service
  jnl : Journal
  pcie : Pcie
  mem : Memory
  fab : Fabric
  clock : Clock
  crs : Fabrics
  cst : Constel
  pow : Power
  nf : Night
  dbg : Debug
  fw : Firmware
  ctr : Counting
  board : Option Board
  imsic : List (Nat × Nat × Nat × Nat)
  csrs : FMap (Nat × Nat) Word
  xregs : FMap (Nat × Nat) Word
  fregs : FMap (Nat × Nat) Word
  vregs : FMap (Nat × Nat) (BitVec 256)
  harts : NMap Hart
  out : List Output
  freshCount : Nat
  pending : List Instr
deriving DecidableEq, Repr

/-- The reasons a step can stop as a fault. None is raised: every command has an effect, or none, in every state. -/
inductive Fault where
  /-- Raised by no command. Safe. -/
  | none
deriving DecidableEq, Repr

/-- The reasons a command is refused. -/
inductive Refusal where
  /-- The command has no meaning in the model yet. Safe: nothing is claimed of it. -/
  | notModelled (mnemonic : String)
deriving DecidableEq, Repr

/-- What a command answers. -/
abbrev Res := Host.Outcome State Fault Refusal

namespace State

/-- The state right after reset (R429, R438): nothing has started. -/
def reset : State where
  stb := 0
  up := false
  locked := false
  regs := []
  hits := []
  pins := {}
  keeper := {}
  units := {}
  faults := {}
  maint := {}
  alm := {}
  svc := {}
  jnl := {}
  pcie := {}
  mem := {}
  fab := {}
  clock := {}
  crs := {}
  cst := {}
  pow := {}
  nf := {}
  dbg := {}
  fw := {}
  ctr := {}
  board := none
  imsic := []
  csrs := []
  xregs := []
  fregs := []
  vregs := []
  harts := []
  out := []
  freshCount := 0
  pending := []

end State

end Sys2Proof.Machine
end

