-- ==== Sys2Proof/Machine/Ops.lean ====
section
/-! DEFINITION. The operations that every family shares: time, registers, outputs, interrupts, mailbox completions and
events. -/

namespace Sys2Proof.Machine

/-! ### Time -/

/-- R85: the STB at stamp `t`; it never decreases. -/
def State.advance (s : State) (t : Stamp) : State := { s with stb := max s.stb t }

/-- What a command may leave (R85): the queue is the step's and not the command's, and the STB never decreases. -/
def State.bounded (start s : State) : State := { s with stb := max start.stb s.stb, pending := start.pending }

/-- The effect `f` of a command at stamp `t` on a package that runs; none on one that does not (log 3). -/
def live (t : Stamp) (s : State) (f : State → State) : Res :=
  .next (if s.up then (s.advance t).bounded (f (s.advance t)) else s)

/-- The number of the frame that holds a stamp: a frame is 32,768 ticks (R90). -/
def frameOf (t : Stamp) : Nat := t / 32768

/-- The stamp at which a frame opens. -/
def meridianOf (frame : Nat) : Stamp := frame * 32768

/-- The first meridian after a stamp. -/
def nextMeridian (t : Stamp) : Stamp := meridianOf (frameOf t + 1)

/-- R104: the first meridian at least 2 frames after a stamp, at which the keeper locks units (log 45). -/
def lockMeridian (t : Stamp) : Stamp := ceilDiv (t + 65536) 32768 * 32768

/-- The keeper tick of a stamp (R39). -/
def keeperTick (t : Stamp) : Nat := t / 1024

/-- Ticks of 0.25 ns in a number of µs. -/
def usTicks (n : Nat) : Nat := n * 4000

/-- Ticks in a number of ms. -/
def msTicks (n : Nat) : Nat := n * 4000000

/-- A replica at its load. -/
def Replica.init : Replica := ⟨0, none, 0, false, 0, 0, none, none, 0⟩

/-- The replica of a region. -/
def State.replica (s : State) (r : Nat) : Replica := nget s.clock.replicas r Replica.init

/-- Sets the replica of a region. -/
def State.setReplica (s : State) (r : Nat) (x : Replica) : State :=
  { s with clock := { s.clock with replicas := nputd s.clock.replicas r x Replica.init } }

/-- The STB as a region's replica has it: held, ahead or behind, and never less than it was (R88, R96). -/
def State.regionStb (s : State) (r : Nat) : Stamp :=
  let x := s.replica r
  max x.floor (match x.hold with
    | some v => max v s.stb
    | none => ((s.stb : Int) + x.off).toNat)

/-- R89 and R96: the stamp of an event of a region now: what the region's replica reads, and the held value while it holds. -/
def State.stampIn (s : State) (r : Nat) : Stamp := s.regionStb r

/-! ### Registers and outputs -/

/-- A word of a register. -/
def State.word (s : State) (r : Reg) (i w : Nat) : Word := s.regs.word r i w

/-- A field of a register. -/
def State.fld (s : State) (F : Fld) (i : Nat) : Nat := s.regs.fld F i

/-- Whether a flag of a register is 1. -/
def State.is (s : State) (F : Fld) (i : Nat) : Bool := s.fld F i == 1

/-- Sets a word of a register. -/
def State.setWord (s : State) (r : Reg) (i w : Nat) (v : Word) : State := { s with regs := s.regs.withWord r i w v }

/-- Hardware sets a field of a register; R9 and R32 keep that it did so at this stamp. -/
def State.set (s : State) (F : Fld) (i v : Nat) : State :=
  { s with regs := s.regs.withFld F i v, hits := noteHit s.hits s.stb F i (s.fld F i) v (v % 2 ^ F.w - s.fld F i) }

/-- What hardware has made of a field at the present stamp, where it set it (R9, R32). -/
def State.hitNow (s : State) (F : Fld) (i : Nat) : Option Hit :=
  s.hits.find? (fun h => h.fld == F && h.idx == i && h.stamp == s.stb)

/-- A software write of a field. What hardware gives it at the same stamp is applied in the next cycle, and so stands (R32; DEDUCED, log 1:
a cycle is a stamp). -/
def State.put (s : State) (F : Fld) (i v : Nat) : State :=
  if (s.hitNow F i).isSome then s else { s with regs := s.regs.withFld F i v }

/-- A software write of 1 clears a W1C bit, unless hardware set it at the same stamp (R9). -/
def State.clearBit (s : State) (F : Fld) (i : Nat) : State := s.put F i 0

/-- A read of a field of type RC: its value, and the field cleared. What hardware adds at the stamp of the read is not in the value
read and stays (R9); of the two fields that hold a peak, the peak. -/
def State.readClear (s : State) (F : Fld) (i : Nat) : Nat × State :=
  match s.hitNow F i with
  | none => (s.fld F i, { s with regs := s.regs.withFld F i 0 })
  | some b =>
    let keep := if F = RING_STOP_CNT.PIN_PEAK ∨ F = CTR_BW.PEAK then s.fld F i else min b.added (2 ^ F.w - 1)
    (b.before, { s with regs := s.regs.withFld F i keep,
                        hits := s.hits.map (fun h => if h.fld = F ∧ h.idx = i then { h with before := 0 } else h) })

/-- Adds to a counting field, which wraps. -/
def State.bump (s : State) (F : Fld) (i : Nat) : State := s.set F i (s.fld F i + 1)

/-- Adds to a counting field, which saturates. -/
def State.bumpSat (s : State) (F : Fld) (i n : Nat) : State :=
  let v := min (s.fld F i + n) (2 ^ F.w - 1)
  { s with regs := s.regs.withFld F i v, hits := noteHit s.hits s.stb F i (s.fld F i) v n }

/-- Sends something out of the package. -/
def State.emit (s : State) (k : OutKind) (args : List Nat) (data : List Byte := []) : State :=
  { s with out := s.out ++ [⟨k, args, data⟩] }

/-- Something sent to another package: its number, what it is, numbers and bytes. The spec gives the content, not the form (log 9).
0 a doorbell message, 1 a journal record, 2 its marks, 3 a record's acknowledgement, 4 a flit's NAK, 5 a packet (its link and virtual channel first), 6 the beginning or end
of mirroring, 7 a forwarded packet, 8 a membership update, 9 a fence flit, 10 DRAINED_SEQ at a meridian, 11 a time mark, 12 a write of
a page-table or interrupt word. -/
def State.toPackage (s : State) (pkg what : Nat) (args : List Nat) (data : List Byte := []) : State :=
  s.emit .linkFlit (pkg :: what :: args) data

/-! ### Sideband messages (R281) -/

/-- One bit of CRC-8 with the polynomial 0x07. -/
def crc8Bit (c : Nat) : Nat := if 128 ≤ c then (2 * c) % 256 ^^^ 0x07 else 2 * c

/-- One byte of CRC-8. -/
def crc8Byte (c : Nat) (b : Byte) : Nat := crc8Bit (crc8Bit (crc8Bit (crc8Bit (crc8Bit (crc8Bit (crc8Bit (crc8Bit (c ^^^ b.toNat))))))))

/-- The 10 bytes of a message: MTYPE, the payload and the CRC-8 of both; bit 7 of MTYPE is the parity of its other bits while workaround 1 of
R285 is applied. DESIGN CHOICE (log 35): the CRC takes the message byte by byte, lowest first and each from its top bit, and starts at 0. -/
def State.sideMessage (s : State) (mtype payload : Nat) : List Byte :=
  let par := if (s.fld CHIP_WORKAROUND.ERRATA 0).testBit 1 then (onesBelow mtype 7).length % 2 else 0
  let body := BitVec.ofNat 8 (mtype % 128 + 128 * par) :: leBytes 8 payload
  body ++ leBytes 1 (body.foldl crc8Byte 0)

/-- A message leaves on the sideband of a brick. -/
def State.sendSide (s : State) (b mtype payload : Nat) : State := s.emit .sideband [b, mtype, payload] (s.sideMessage mtype payload)

/-- A free value and the state with the next one ready (log 8). -/
def State.free (s : State) : Nat × State := (Config.freeValue s.freshCount, { s with freshCount := s.freshCount + 1 })

/-! ### Harts -/

/-- The order of pairs. -/
def pairLt (a b : Nat × Nat) : Bool := decide (a.1 < b.1) || (decide (a.1 = b.1) && decide (a.2 < b.2))

/-- A CSR of a hart that is not among the registers of the Xbcn tables; 0 after reset (log 6). -/
def State.csr (s : State) (h n : Nat) : Word := (lookupKey (h, n) s.csrs).getD 0

/-- Sets a CSR of a hart. -/
def State.setCsr (s : State) (h n : Nat) (v : Word) : State :=
  { s with csrs := if v = 0 then dropKey (h, n) s.csrs else putBy pairLt (h, n) v s.csrs }

/-- An integer register of a hart; x0 reads 0. -/
def State.xreg (s : State) (h r : Nat) : Word := if r = 0 then 0 else (lookupKey (h, r) s.xregs).getD 0

/-- Sets an integer register of a hart; a write of x0 is discarded. -/
def State.setX (s : State) (h r : Nat) (v : Word) : State :=
  if r = 0 then s
  else { s with xregs := if v = 0 then dropKey (h, r) s.xregs else putBy pairLt (h, r) v s.xregs }

/-- Sets or clears a local interrupt's pending bit in mip (CSR 0x344). -/
def State.setMip (s : State) (h bit : Nat) (on : Bool) : State :=
  s.setCsr h 0x344 (wset (s.csr h 0x344) bit 1 (flag on))

/-! ### Functions and links of PCI Express ports -/

/-- The place of a function of a port. -/
def fnIdx (port fn : Nat) : Nat := port * 512 + fn

/-- The place of link `j` of a root port. -/
def linkFn (j : Nat) : Nat := 384 + j

/-- A function's or link's record. -/
def State.pfn (s : State) (i : Nat) : PcieFn := nget s.pcie.fns i ⟨[], []⟩

/-- Sets a function's or link's record. -/
def State.setPfn (s : State) (i : Nat) (f : PcieFn) : State :=
  { s with pcie := { s.pcie with fns := nputd s.pcie.fns i f ⟨[], []⟩ } }

/-- What a byte of a configuration space holds at reset: 0, but for the AER severities (R350: Fatal are Data Link Protocol
Error, Surprise Down, Flow Control Protocol Error, Receiver Overflow, Malformed TLP and Uncorrectable Internal Error). -/
def cfgReset (off : Nat) : Byte := BitVec.ofNat 8 (if 0x10C ≤ off ∧ off < 0x110 then 0x462030 / 256 ^ (off - 0x10C) else 0)

/-- `n` bytes that a function's configuration space holds, as a number. -/
def State.cfgNat (s : State) (i off n : Nat) : Nat :=
  leNat ((List.range n).map (fun j => nget (s.pfn i).cfg (off + j) (cfgReset (off + j))))

/-- Sets `n` bytes of what a function's configuration space holds. -/
def State.setCfg (s : State) (i off n v : Nat) : State :=
  let f := s.pfn i
  s.setPfn i { f with cfg := (List.range n).foldl (fun m j =>
    nputd m (off + j) (BitVec.ofNat 8 (v / 256 ^ j)) (cfgReset (off + j))) f.cfg }

/-- Bus Master Enable of a function. -/
def State.bme (s : State) (port fn : Nat) : Bool := (s.cfgNat (fnIdx port fn) 0x04 2).testBit 2

/-- R343: the number of MSI-X vectors of a function. -/
def msixSize (fn : Nat) : Nat := if fn = 0 then 1024 else 64

/-- The byte of an MSI-X table and pending-bit array at reset: every vector is masked (log 7). -/
def msixReset (off : Nat) : Byte := if off < 0x4000 ∧ off % 16 = 12 then 1 else 0

/-- An MSI-X interrupt of an endpoint function: sent when MSI-X is enabled and the vector is not masked, else pending
(R341); a vector beyond the table signals nothing (R343). -/
def State.msix (s : State) (p fn v : Nat) : State :=
  let i := fnIdx p fn
  if s.bme p fn = false ∨ msixSize fn ≤ v then s
  else
    let f := s.pfn i
    let ctl := s.cfgNat i 0x92 2
    let entry := leNat ((List.range 16).map (fun j => nget f.msix (16 * v + j) (msixReset (16 * v + j))))
    if ctl.testBit 15 ∧ ctl.testBit 14 = false ∧ (bitsOf entry 96 1 = 0) then
      s.emit .msix [p, fn, v, bitsOf entry 0 64, bitsOf entry 64 32]
    else s.setPfn i { f with msix := nputd f.msix (0x4000 + v / 8) (nget f.msix (0x4000 + v / 8) 0 ||| BitVec.ofNat 8 (2 ^ (v % 8))) 0 }

/-! ### Mailboxes -/

/-- A mailbox after its reset: empty (R52). -/
def Mailbox.empty : Mailbox := ⟨[], [], [], [], [], 0, false⟩

/-- A mailbox beside its registers. -/
def State.box (s : State) (m : Nat) : Mailbox := nget s.keeper.boxes m Mailbox.empty

/-- Sets a mailbox beside its registers. -/
def State.setBox (s : State) (m : Nat) (b : Mailbox) : State :=
  { s with keeper := { s.keeper with boxes := nputd s.keeper.boxes m b Mailbox.empty } }

/-- The entries a completion ring holds: (tail − head) mod 32. -/
def State.cmpUsed (s : State) (m : Nat) : Nat :=
  (s.fld MBX_STATUS.CMP_TAIL m + 32 - s.fld MBX_CMP_HEAD.CMP_HEAD m) % 32

/-- The entries an event ring holds: (tail − head) mod 64. -/
def State.evtUsed (s : State) (m : Nat) : Nat :=
  (s.fld MBX_STATUS.EVT_TAIL m + 64 - s.fld MBX_EVT_HEAD.EVT_HEAD m) % 64

/-- An MSI to an interrupt file of a hart: it becomes pending there. An MSI to a retired core is discarded (R198); one to a hart whose block's domain is OFF is lost
and counted (R384). -/
def State.msi (s : State) (hart file guest eiid : Nat) : State :=
  let b := hart / 24 * 8 + hart % 24 / 4
  if s.units.coreDown.contains hart then s
  else if s.is PWR_DOMAIN.ON b then
    { s with imsic := if (hart, file, guest, eiid) ∈ s.imsic then s.imsic else s.imsic ++ [(hart, file, guest, eiid)] }.emit
      .msi [hart, file, guest, eiid]
  else s.bump PWR_DOMAIN.MSI_LOST b

/-- The signal of a mailbox's path (MBX_IRQ): an MSI on the core path, an MSI-X vector of the physical function on the
endpoint path, SMBALERT_N on the sideband path. -/
def State.signal (s : State) (m : Nat) : State :=
  match s.fld MBX_CFG.PATH m with
  | 0 => s.msi (s.fld MBX_IRQ.HART m) (s.fld MBX_IRQ.FILE m) (s.fld MBX_IRQ.GUEST m) (s.fld MBX_IRQ.EIID m)
  | 1 => s.msix (s.fld MBX_CFG.PORT m) 0 (s.fld MBX_IRQ.EIID m)
  | 2 => { s with pins := { s.pins with smbalertN := false } }
  | _ => s

/-- SMBALERT_N stays asserted while any completion or event of a sideband mailbox is unread. -/
def State.alertRelease (s : State) : State :=
  if (List.range 64).all (fun m => s.fld MBX_CFG.PATH m != 2 || (s.cmpUsed m == 0 && s.evtUsed m == 0)) then
    { s with pins := { s.pins with smbalertN := true } }
  else s

/-- Writes a completion entry at CMP_TAIL and signals it (R55, MBX_IRQ.CMP_EN). -/
def State.writeCmp (s : State) (m : Nat) (c : Cmp) : State :=
  let tail := s.fld MBX_STATUS.CMP_TAIL m
  let b := s.box m
  let s := (s.setBox m { b with cmps := nput b.cmps (tail % 16) c }).set MBX_STATUS.CMP_TAIL m (tail + 1)
  if s.is MBX_IRQ.CMP_EN m then s.signal m else s

/-- R55: the completion entry of a command's end; LENGTH is 0 unless the status is ST_OK, ST_BUSY_DEFERRED or ST_PENDING,
and DETAIL is 0 unless it is ST_BAD_PARAM or ST_BAD_LENGTH. -/
def Taken.cmp (k : Taken) (f : Final) : Cmp :=
  { opcode := k.opcode, seq := k.seq, status := f.status, last := true,
    detail := if f.status = 4 ∨ f.status = 3 then f.detail else 0, token := k.token,
    result := if f.status = 0 ∨ f.status = 7 then f.result else [] }

/-- Writes the final completions that are due, oldest first, while the ring has a free entry (R49); those of a mailbox
reset are discarded (R52). -/
def flushDue (m : Nat) : List Taken → State → List Taken × State
  | [], s => ([], s)
  | k :: r, s =>
    match k.final with
    | some f =>
      if k.due then
        if k.discard then flushDue m r s
        else if s.cmpUsed m < 16 then flushDue m r (s.writeCmp m (k.cmp f))
        else
          let q := flushDue m r s
          (k :: q.1, q.2)
      else
        let q := flushDue m r s
        (k :: q.1, q.2)
    | none =>
      let q := flushDue m r s
      (k :: q.1, q.2)

/-- Writes what is due in a mailbox. -/
def State.flushBox (s : State) (m : Nat) : State :=
  let q := flushDue m (s.box m).taken s
  q.2.setBox m { q.2.box m with taken := q.1 }

/-- Replaces the taken commands of a mailbox that satisfy `p`. -/
def State.mapTaken (s : State) (m : Nat) (p : Taken → Bool) (f : Taken → Taken) : State :=
  let b := s.box m
  s.setBox m { b with taken := b.taken.map (fun k => if p k then f k else k) }

/-- The end of the command that mailbox `m` took as number `id`. A command without ST_PENDING gets its final
completion at once; one with ST_PENDING gets it at FINAL_COMPLETION (R51). -/
def State.finish (s : State) (m id : Nat) (f : Final) : State :=
  (s.mapTaken m (fun k => k.id == id && k.final.isNone)
    (fun k => { k with final := some f, due := k.due || !k.pended })).flushBox m

/-! ### Events -/

/-- R53 and R80: whether a mailbox is told of an event: its mask admits the code, it is the owner or secure where the
event has an owner, it is secure where the unit is, and an endpoint mailbox is told of a unit only of its own port. -/
def State.admits (s : State) (m code : Nat) (sc : EvScope) : Bool :=
  (s.word .MBX_EVT_MASK m 0).toNat.testBit code &&
  (match sc.owner with
    | some o => m == o || (decide (m < 4) && !sc.only)
    | none => true) &&
  (!sc.secure || decide (m < 4)) &&
  (s.fld MBX_CFG.PATH m != 1 || !sc.unit || sc.port == some (s.fld MBX_CFG.PORT m) || sc.owner == some m) &&
  s.fld MBX_CFG.PATH m != 3

/-- Writes an event entry in a mailbox, or drops it and counts it in EVT_LOST (R53, R56). Nothing is written in a mailbox
that is being reset. -/
def State.pushEvt (s : State) (m code : Nat) (stamp : Stamp) (payload : List Byte) : State :=
  let b := s.box m
  if b.resetting then s
  else if s.evtUsed m < 32 then
    let tail := s.fld MBX_STATUS.EVT_TAIL m
    let s := (s.setBox m { b with evts := nput b.evts (tail % 32) ⟨code, b.evtSeq, stamp, payload⟩,
                                  evtSeq := (b.evtSeq + 1) % 2 ^ 32 }).set MBX_STATUS.EVT_TAIL m (tail + 1)
    if s.is MBX_IRQ.EVT_EN m then s.signal m else s
  else s.bumpSat MBX_STATUS.EVT_LOST m 1

/-- Writes an event to every mailbox that admits it. -/
def State.deliver (s : State) (code : Nat) (stamp : Stamp) (payload : List Byte) (sc : EvScope) : State :=
  (List.range 64).foldl (fun s m => if s.admits m code sc then s.pushEvt m code stamp payload else s) s

/-- R53: an event to every mailbox that admits it; during a keeper restart it is held until the keeper runs again. -/
def State.event (s : State) (code : Nat) (stamp : Stamp) (payload : List Byte) (sc : EvScope := {}) : State :=
  if s.keeper.restarting.isSome then
    { s with keeper := { s.keeper with held := s.keeper.held ++ [⟨code, stamp, payload, sc⟩] } }
  else s.deliver code stamp payload sc

/-- R53: EV_EVENTS_LOST, once an entry is free again, with the count, which it clears. -/
def State.lostEvent (s : State) (m : Nat) : State :=
  let n := s.fld MBX_STATUS.EVT_LOST m
  if n ≠ 0 ∧ s.evtUsed m < 32 then
    (s.set MBX_STATUS.EVT_LOST m 0).pushEvt m 0x0B s.stb (leBytes 1 n)
  else s

/-- Whether a core block is assigned to the secure world (R315). -/
def State.blockSecure (s : State) (l b : Nat) : Bool := s.is WLD_BLK_STATE.WORLD (l * 8 + b)

/-- Whether a unit of R58 lies in a secure-assigned block, or is one. -/
def State.unitSecure (s : State) (u : Nat) : Bool :=
  let l := bitsOf u 0 8
  let b := bitsOf u 8 8
  bitsOf u 24 8 == 0 && decide (l < 12) && decide (b < 6) && s.blockSecure l b

/-- The endpoint port of a unit, if it is a PCI Express port: cell k of block 5 of region 12 + q is port 2q + k. -/
def unitPort (u : Nat) : Option Nat :=
  let l := bitsOf u 0 8
  if bitsOf u 24 8 = 0 ∧ 12 ≤ l ∧ l < 16 ∧ bitsOf u 8 8 = 5 ∧ bitsOf u 16 8 < 2 then
    some (2 * (l - 12) + bitsOf u 16 8)
  else none

/-- The scope of an event whose source is a unit. DESIGN CHOICE (log 43): a unit of the chip belongs to no port, and every endpoint
mailbox is told of it. -/
def State.unitScope (s : State) (u : Nat) : EvScope :=
  { port := unitPort u, unit := bitsOf u 0 8 != 255, secure := s.unitSecure u }

/-! ### Commands -/

/-- R59. -/
def stOk : Nat := 0
def stPending : Nat := 1
def stBadOpcode : Nat := 2
def stBadLength : Nat := 3
def stBadParam : Nat := 4
def stDeniedWorld : Nat := 5
def stInsufficient : Nat := 6
def stBusyDeferred : Nat := 7
def stConflict : Nat := 8
def stNotFound : Nat := 9
def stRevoked : Nat := 10
def stHeldSecure : Nat := 11
def stDegraded : Nat := 12
def stTimeout : Nat := 13
def stUnsupported : Nat := 14
def stAuthFail : Nat := 15
def stInternal : Nat := 16

/-- Who issues a command: the mailbox and the command's place in the order of taking; a site record has none, comes from mailbox 0
and has an index and an opcode (R84). `caps` and `took` are those of `Taken`. -/
structure Caller where
  box : Nat
  cmd : Option Nat
  stamp : Stamp
  site : Option (Nat × Nat) := none
  caps : List (Nat × Nat) := []
  took : Option Stamp := none
deriving DecidableEq, Repr

/-- A taken command's caller. -/
def Taken.caller (k : Taken) (m : Nat) : Caller := { box := m, cmd := some k.id, stamp := k.stamp, caps := k.caps, took := k.took }

/-- Whether a mailbox is of the secure world (R42). -/
def Caller.secure (c : Caller) : Bool := decide (c.box < 4)

/-- The endpoint port of the mailbox's path, if it has one (R43). -/
def State.boxPort (s : State) (m : Nat) : Option Nat :=
  if s.fld MBX_CFG.PATH m = 1 then some (s.fld MBX_CFG.PORT m) else none

/-- What a command's effect answers: its end (none while its timed sequence runs on) and the state. -/
structure Reply where
  final : Option Final
  state : State

/-- The end ST_OK with a result. -/
def Reply.ok (s : State) (r : List Byte := []) : Reply := ⟨some ⟨stOk, 0, r⟩, s⟩
/-- An end with no effect. -/
def Reply.no (s : State) (st : Nat) : Reply := ⟨some ⟨st, 0, []⟩, s⟩
/-- ST_BAD_PARAM at a payload offset. -/
def Reply.bad (s : State) (off : Nat) : Reply := ⟨some ⟨stBadParam, off, []⟩, s⟩
/-- The command's timed sequence has begun; its end comes later. -/
def Reply.later (s : State) : Reply := ⟨none, s⟩

/-- A reserved field of `n` bytes at an offset, which must be 0. -/
def rsv (p : List Byte) (o n : Nat) : Nat × Bool := (o, leAt p o n != 0)

/-- Runs the command core `f` unless a field fails its check: ST_BAD_PARAM with DETAIL at the first that does (R59). -/
def paramChecks (s : State) (cs : List (Nat × Bool)) (f : Unit → Reply) : Reply :=
  match cs.find? Prod.snd with
  | some q => .bad s q.1
  | none => f ()

/-- The booking commands (R107). -/
def bookingOp (op : Nat) : Bool := decide (0x0100 ≤ op) && decide (op ≤ 0x0104)

/-- R107: the Almanac takes booking commands in the order of R48: one has its turn when no booking command taken before it waits. -/
def State.bookingTurn (s : State) (k : Taken) : Bool :=
  !bookingOp k.opcode || s.keeper.boxes.all (fun q => q.2.taken.all (fun j =>
    !(bookingOp j.opcode && !j.ran && j.final.isNone) || decide (k.id ≤ j.id)))

/-- Runs the oldest command with an opcode that mailbox `m` has taken and not yet run (log 12); `pick` tells apart the
subcommands of an opcode. No effect where there is none, nor while the keeper restarts (R39), nor before its turn (R107). -/
def runCommand (m opcode : Nat) (pick : List Byte → Bool) (f : Caller → List Byte → State → Reply) (s : State) : State :=
  if s.keeper.restarting.isSome then s
  else
  match (s.box m).taken.find? (fun k => k.opcode == opcode && !k.ran && k.final.isNone && pick k.payload) with
  | none => s
  | some k =>
    if s.bookingTurn k = false then s
    else
    let s := s.mapTaken m (fun j => j.id == k.id) (fun j => { j with ran := true })
    let r := f (k.caller m) k.payload s
    match r.final with
    | some e => r.state.finish m k.id e
    | none => r.state

/-- The first of a list by its rank, and the earlier one of equal ranks. -/
def firstBy {α : Type} (rank : α → Nat) : List α → Option α
  | [] => none
  | x :: r => some (r.foldl (fun b y => if rank y < rank b then y else b) x)

end Sys2Proof.Machine
end

