-- ==== Sys2Proof/Machine/CountOps.lean ====
section
/-! DEFINITION. The counter banks (R416 to R421): their places, counting an event under the filters of R418, sampling a counter
(R420), and the frame captures (R425). -/

namespace Sys2Proof.Machine

/-! ### Banks -/

/-- The place of a cell's bank. -/
def cellBank (l b k : Nat) : Nat := (l * 8 + b) * 64 + k
/-- The place of a block's bank. -/
def blockBank (l b : Nat) : Nat := 8704 + l * 8 + b
/-- The place of a region's bank. -/
def regionBank (l : Nat) : Nat := 8840 + l
/-- The place of the chip's bank. -/
def chipBank : Nat := 8856
/-- A core's bank. -/
def coreBank (c : Nat) : Nat := cellBank (c / 24) (c % 24 / 4) (c % 4)
/-- An intake engine's bank. -/
def engineBank (e : Nat) : Nat := cellBank (12 + e / 4) 7 (e % 4)
/-- A memory controller's bank. -/
def mcBank (c : Nat) : Nat :=
  if c < 16 then cellBank (12 + c / 4) (c % 4 / 2) (c % 2) else cellBank (12 + (c - 16) / 16) 2 ((c - 16) % 16)
/-- A home slice's bank. -/
def sliceBank (h : Nat) : Nat := cellBank (12 + h / 16) (3 + h % 16 / 8) (h % 8)
/-- A port's bank. -/
def portBank (p : Nat) : Nat := cellBank (12 + p / 2) 5 (p % 2)
/-- A package link's bank. -/
def linkBank (l : Nat) : Nat := cellBank (12 + l / 2) 6 (l % 2)

/-- R416: the counters of a bank. -/
def bankSize (bank : Nat) : Nat := if bank = chipBank then 16 else 8

/-- The UNIT of a bank's unit (R58). -/
def bankUnit (bank : Nat) : Nat :=
  if bank < 8704 then (Coll.cell (bank / 64 / 8) (bank / 64 % 8) (bank % 64)).unit
  else if bank < 8840 then (Coll.block ((bank - 8704) / 8) ((bank - 8704) % 8)).unit
  else if bank < chipBank then (Coll.region (bank - 8840)).unit
  else Coll.chip.unit

/-- The bank of a unit of the hierarchy (R58). -/
def unitBank (u : Nat) : Nat :=
  let l := if bitsOf u 0 8 = 255 then 16 else bitsOf u 0 8
  if bitsOf u 8 8 = 255 then (if l = 16 then chipBank else regionBank l)
  else if bitsOf u 16 8 = 255 then blockBank l (bitsOf u 8 8)
  else cellBank l (bitsOf u 8 8) (bitsOf u 16 8)

/-- The core whose bank it is. -/
def bankCore (bank : Nat) : Option Nat :=
  let l := bank / 64 / 8
  let b := bank / 64 % 8
  if bank < 8704 ∧ l < 12 ∧ b < 6 ∧ bank % 64 < 4 then some (24 * l + 4 * b + bank % 64) else none

/-- The power domain of a bank's unit (PWR_DOMAIN). -/
def bankDomain (bank : Nat) : Nat :=
  if bank < 8704 then bank / 64 else if bank < 8840 then bank - 8704 else if bank < chipBank then 136 + (bank - 8840) else 152

/-- Whether one hierarchy unit contains another, or is it. -/
def unitWithin (outer inner : Nat) : Bool :=
  bitsOf outer 24 8 == 0 && bitsOf inner 24 8 == 0 &&
    (outer == 0x00FFFFFF || (bitsOf outer 0 8 == bitsOf inner 0 8 &&
      (bitsOf outer 8 8 == 255 || (bitsOf outer 8 8 == bitsOf inner 8 8 &&
        (bitsOf outer 16 8 == 255 || bitsOf outer 16 8 == bitsOf inner 16 8)))))

/-! ### Counting -/

/-- One countable event (R417): its code, and the fields that its filters act on, where it carries them. -/
structure CountEvt where
  code : Nat
  world : Option Bool := none
  tag : Option Nat := none
  master : Option Nat := none
  addr : Option Nat := none
deriving DecidableEq, Repr

/-- R329: whether events of a world at a unit are counted. -/
def State.observed (s : State) (w : Bool) (unit : Nat) : Bool :=
  s.is WLD_DEBUG.NONINVASIVE (if w then 1 else 0) && unitWithin (s.fld WLD_DEBUG.SCOPE (if w then 1 else 0)) unit

/-- R418: whether the privilege inhibit of the hart's mode is off. -/
def State.modeCounted (s : State) (bank i : Nat) : Bool :=
  match bankCore bank with
  | none => true
  | some c =>
    let inh := s.fld CTR_CFG.INH (bank * 16 + i)
    match lookupKey c s.harts with
    | none => !(inh.testBit 4)
    | some x => !(inh.testBit (if x.priv = 3 then 4 else if x.virt then (if x.priv = 0 then 0 else 1) else if x.priv = 0 then 2 else 3))

/-- R418: whether a counter counts an event. -/
def State.countsEvt (s : State) (bank i : Nat) (e : CountEvt) : Bool :=
  let n := bank * 16 + i
  let wf := s.fld CTR_CFG.WORLD_F n
  let rs := s.fld CTR_CFG.RANGE_SEL n
  let ms := s.fld CTR_CFG.MASTER_SCOPE n
  let m := s.fld CTR_CFG.MASTER n
  s.fld CTR_CFG.EVENT n == e.code && s.modeCounted bank i &&
  (match e.world with
    | some w => s.observed w (bankUnit bank) && (wf == 0 || wf == (if w then 2 else 1))
    | none => wf == 0) &&
  (!(s.is CTR_CFG.TAG_EN n) || e.tag == some (s.fld CTR_CFG.TAG n)) &&
  (rs == 0 || match e.addr with
    | some a =>
      let mask := s.fld CTR_RANGE.MASK (bank * 2 + (rs - 1))
      (a / 64) &&& mask == s.fld CTR_RANGE.BASE (bank * 2 + (rs - 1)) &&& mask
    | none => false) &&
  (ms == 0 || match e.master with
    | some x => x / 2 ^ (if ms = 1 then 7 else if ms = 2 then 3 else 0) == m / 2 ^ (if ms = 1 then 7 else if ms = 2 then 3 else 0)
    | none => false)

/-- R422: a wrap of a core's counter sets OF, and raises the local counter-overflow interrupt (mip bit 13) where it was 0. -/
def State.counterWrap (s : State) (bank i : Nat) : State :=
  match bankCore bank with
  | none => s
  | some c =>
    let n := bank * 16 + i
    if s.is CTR_CFG.OF n then s else (s.set CTR_CFG.OF n 1).setMip c 13 true

/-- Adds to a counter, which wraps at 2^48, and keeps what its lag may leave out of a read (R420). -/
def State.addCount (s : State) (bank i n : Nat) : State :=
  let k := bank * 16 + i
  let v := s.fld CTR_VALUE.COUNT k + n
  let s' : State := { s with ctr := { s.ctr with
    recent := nput s.ctr.recent k (((nget s.ctr.recent k []).filter (fun q => decide (s.stb < q.1 + 256))) ++ [(s.stb, n)]) } }
  let s' := s'.set CTR_VALUE.COUNT k v
  if 2 ^ 48 ≤ v then s'.counterWrap bank i else s'

/-- Counts `n` events of a kind in a bank. -/
def State.count (s : State) (bank : Nat) (e : CountEvt) (n : Nat := 1) : State :=
  if n = 0 ∨ s.fld PWR_DOMAIN.ON (bankDomain bank) = 0 then s
  else (List.range (bankSize bank)).foldl (fun (s : State) i => if s.countsEvt bank i e then s.addCount bank i n else s) s

/-- The events of a core's pipeline, and the cycles of a unit, that the model does not take step by step; their counts are
free (log 8). -/
def hiddenEvent (code : Nat) : Bool := [1, 2, 8, 9, 0x303].contains code

/-- Whether a counter's count is free: of a hidden event, or of a core's ticks under a privilege inhibit (R418), whose hart's modes are
not kept tick by tick (log 8). -/
def State.hiddenCount (s : State) (bank i : Nat) : Bool :=
  let code := s.fld CTR_CFG.EVENT (bank * 16 + i)
  hiddenEvent code || ((code == 0x0C || code == 0x0F) && (bankCore bank).isSome && s.fld CTR_CFG.INH (bank * 16 + i) != 0)

/-- Takes the ticks since a stamp for which a core has held its op, into the counters of event 0x000C. -/
def State.countHeld (s : State) (c tag : Nat) (since : Stamp) : State :=
  (List.range 8).foldl (fun (s : State) i =>
    let from_ := max since (nget s.ctr.since (coreBank c * 16 + i) 0)
    if from_ < s.stb ∧ s.countsEvt (coreBank c) i { code := 0x0C, world := some (s.is MWORLD.WORLD c), tag := some tag } then
      s.addCount (coreBank c) i (s.stb - from_)
    else s) s

/-! ### Sampling (R420) -/

/-- What a counter has counted below the present stamp, with what the bank's lag may leave out of it. -/
def State.countParts (s : State) (bank i : Nat) : (Nat × Nat) × State :=
  let k := bank * 16 + i
  let code := s.fld CTR_CFG.EVENT k
  let lag := s.fld CTR_BANK.LAG bank
  let seen := nget s.ctr.recent k []
  let now := ((seen.filter (fun q => decide (s.stb ≤ q.1))).map Prod.snd).sum
  let late := ((seen.filter (fun q => decide (q.1 < s.stb) && decide (s.stb ≤ q.1 + lag))).map Prod.snd).sum
  let ticks := (seen.map (fun q => min q.2 (q.1 + lag - s.stb))).sum
  let v := s.fld CTR_VALUE.COUNT k
  let since := nget s.ctr.since k 0
  if s.hiddenCount bank i then ((s.free.1, 0), s.free.2)
  else if code = 0x0F then
    let n := if s.fld CTR_CFG.WORLD_F k = 0 ∧ s.fld CTR_CFG.TAG_EN k = 0 ∧ s.fld CTR_CFG.RANGE_SEL k = 0 ∧
        s.fld CTR_CFG.MASTER_SCOPE k = 0 ∧ s.modeCounted bank i then s.stb - since else 0
    ((v + n, min lag (ticks + n)), s)
  else if code = 0x0C then
    match bankCore bank with
    | some c =>
      let r := lookupKey c s.svc.runs
      let e : CountEvt := { code := 0x0C, world := some (s.is MWORLD.WORLD c),
                            tag := ((lookupKey (s.fld DSP_CORE.OP_ID c) s.svc.ops).map Op.tag) }
      match r with
      | some r =>
        let n := if s.is DSP_CORE.HOLDING c ∧ s.countsEvt bank i e then s.stb - max r.dispatched since else 0
        ((v + n, min lag (ticks + n)), s)
      | none => ((v, min lag ticks), s)
    | none => ((v, 0), s)
  else ((v - now, late), s)

/-- R420: a sample of a counter; what happened within the lag may or may not be in it (log 8). A bank whose domain is OFF reads 0. -/
def State.sample (s : State) (bank i : Nat) : Nat × State :=
  if s.fld PWR_DOMAIN.ON (bankDomain bank) = 0 then (0, s)
  else
    let q := s.countParts bank i
    if q.1.2 = 0 then (q.1.1 % 2 ^ 48, q.2)
    else ((q.1.1 - q.2.free.1 % (q.1.2 + 1)) % 2 ^ 48, q.2.free.2)

/-- R419: takes what a counter has counted under its old setting into its value. -/
def State.settleCount (s : State) (bank i : Nat) : State :=
  let k := bank * 16 + i
  let q := s.countParts bank i
  let code := s.fld CTR_CFG.EVENT k
  let s := if code = 0x0F ∨ code = 0x0C ∨ s.hiddenCount bank i then q.2.set CTR_VALUE.COUNT k q.1.1 else s
  let n := if code = 0x0F ∨ code = 0x0C then q.1.2 else 0
  let recent := if n = 0 then s.ctr.recent else nput s.ctr.recent k ((nget s.ctr.recent k []) ++ [(s.stb, n)])
  { s with ctr := { s.ctr with since := nput s.ctr.since k s.stb, recent := recent } }

/-- Takes the ticks for which a core has held its op into its counters, before what they are counted by changes (R418). -/
def State.settleHeld (s : State) (c : Nat) : State :=
  if s.fld DSP_CORE.HOLDING c = 0 then s
  else (List.range 8).foldl (fun (s : State) i =>
    if s.fld CTR_CFG.EVENT (coreBank c * 16 + i) = 0x0C then s.settleCount (coreBank c) i else s) s

/-- A hart's world changes: its ticks before count in the world it was in (R418). -/
def State.toWorld (s : State) (h w : Nat) : State := (s.settleHeld h).set MWORLD.WORLD h w

/-- R416: the counters of a domain's banks begin again at 0 when it returns ON. -/
def State.restartBanks (s : State) (banks : List Nat) : State :=
  banks.foldl (fun (s : State) b =>
    (List.range (bankSize b)).foldl (fun (s : State) i =>
      let s := s.set CTR_VALUE.COUNT (b * 16 + i) 0
      { s with ctr := { s.ctr with since := nput s.ctr.since (b * 16 + i) s.stb, recent := dropKey (b * 16 + i) s.ctr.recent } })
      (s.bump CTR_BANK.RESTARTS b)) s

/-! ### Frame captures (R425) -/

/-- `n` data units carried by capture `d` of a unit in the present frame, booked or not. -/
def State.carry (s : State) (bank d : Nat) (booked : Bool) (n : Nat := 1) : State :=
  let k := 8 * bank + d
  let v := nget s.ctr.frame k (0, 0)
  { s with ctr := { s.ctr with frame := nput s.ctr.frame k (v.1 + n, if booked then v.2 + n else v.2) } }

/-- The captures of the package: memory controllers, brick regions, ports and links. -/
def captures : List (Nat × Nat) :=
  ((List.range 80).map (fun c => [(mcBank c, 0), (mcBank c, 1)])).flatten ++
    ((List.range 12).map (fun b => (List.range 8).map (fun d => (regionBank b, d)))).flatten ++
    ((List.range 8).map (fun p => [(portBank p, 0), (portBank p, 1)])).flatten ++
    ((List.range 8).map (fun l => [(linkBank l, 0), (linkBank l, 1)])).flatten

/-- R425: at a meridian every capture takes the frame that has ended. -/
def State.capture (s : State) (frame : Nat) : State :=
  let s := captures.foldl (fun (s : State) q =>
    let i := q.1 * 8 + q.2
    let v := nget s.ctr.frame i (0, 0)
    let total := min v.1 (2 ^ 32 - 1)
    let s := ((s.set CTR_BW.TOTAL i total).set CTR_BW.BOOKED i (min v.2 (2 ^ 32 - 1))).set CTR_BW.FRAME i frame
    let s := s.set CTR_BW.FRAME1 i frame
    if s.fld CTR_BW.PEAK i < total then (s.set CTR_BW.PEAK i total).set CTR_BW.PEAK_FRAME i frame else s) s
  { s with ctr := { s.ctr with frame := [] } }

end Sys2Proof.Machine
end

