-- ==== Sys2Proof/Machine/FaultOps.lean ====
section
/-! DEFINITION. Fault collection: latching an event, its bucket and verdict, and the error pins upward (R357 to R366). -/

namespace Sys2Proof.Machine

/-- Adds a record to those the keeper has to write. -/
def State.addPend (s : State) (r : PendRec) : State := { s with faults := { s.faults with pend := s.faults.pend ++ [r] } }

/-- The place of a source's bucket in FLT_SRC. -/
def srcIdx (c : Coll) (b : Nat) : Nat := 64 * c.idx + b

/-- The severity field of a source (R360). -/
def State.sevOf (s : State) (c : Coll) (b : Nat) : Nat :=
  if b < 32 then s.fld (FLT_SEV_LO.SEV.nth 2 b) c.idx else s.fld (FLT_SEV_HI.SEV.nth 2 (b - 32)) c.idx

/-- Sets the severity field of a source. -/
def State.setSev (s : State) (c : Coll) (b v : Nat) : State :=
  if b < 32 then s.set (FLT_SEV_LO.SEV.nth 2 b) c.idx v else s.set (FLT_SEV_HI.SEV.nth 2 (b - 32)) c.idx v

/-- Whether a bit of a collector is latched. -/
def State.latched (s : State) (c : Coll) (b : Nat) : Bool := (s.word .FLT_STATUS c.idx 0).toNat.testBit b

/-- R360: a latched bit counts at the higher of the severity it was latched with and its current severity. -/
def State.latchSev (s : State) (c : Coll) (b : Nat) : Nat := max (nget s.faults.latched (srcIdx c b) 0) (s.sevOf c b)

/-- The place in PWR_DOMAIN of the domain of a block or region. -/
def Coll.domain : Coll → Option Nat
  | .block l b => some (8 * l + b)
  | .region r => some (136 + r)
  | _ => none

/-- R385: the error pin of an OFF domain is clamped, and its parent masks its bit. -/
def State.clamped (s : State) (c : Coll) : Bool :=
  match c.domain with
  | some i => s.fld PWR_DOMAIN.ON i == 0
  | none => false

/-- The pin level a bit stands for: a lower collector's pin, or the source's severity plus 1 (R358). -/
def State.bitLevel (s : State) (c : Coll) (b : Nat) : Nat :=
  if c.lowerBit b then
    if s.clamped (c.lower b) then 0
    else if c = .chip ∧ b < 12 then nget s.faults.brickPins b 0 else s.fld FLT_FIRST.PIN (c.lower b).idx
  else s.latchSev c b + 1

/-- R358: the pin of a collector carries the highest severity among the bits latched in it. -/
def State.pinLevel (s : State) (c : Coll) : Nat :=
  ((onesBelow (s.word .FLT_STATUS c.idx 0).toNat 64).map (s.bitLevel c)).foldl max 0

/-- Sets or clears a bit of a status word; the first bit since the word was 0 is noted with its stamp (FLT_FIRST). -/
def State.setBit (s : State) (c : Coll) (b : Nat) (on : Bool) (stamp : Stamp) : State :=
  let w := (s.word .FLT_STATUS c.idx 0).toNat
  if on then
    if w.testBit b then s
    else
      let s := if w = 0 then
          ((s.set FLT_FIRST.BIT c.idx b).set FLT_FIRST.VALID c.idx 1).set FLT_FIRST.STAMP c.idx stamp
        else s
      s.setWord .FLT_STATUS c.idx 0 (BitVec.ofNat 64 (withBit w b))
  else
    let v := withoutBit w b
    let s := s.setWord .FLT_STATUS c.idx 0 (BitVec.ofNat 64 v)
    if v = 0 then s.set FLT_FIRST.VALID c.idx 0 else s

/-- R357 and R358: drives the pin of a collector and the bits that stand for it upward. A brick region reaches the chip
by sideband message 0x30, whose handling is ERROR_PIN. -/
def State.drive (s : State) : Nat → Coll → Stamp → State
  | 0, _, _ => s
  | n + 1, c, stamp =>
    let lv := s.pinLevel c
    let old := s.fld FLT_FIRST.PIN c.idx
    let s := s.set FLT_FIRST.PIN c.idx lv
    match c.parent with
    | none => s
    | some (p, b) =>
      if p = .chip ∧ b < 12 then
        if lv = old ∨ s.clamped c then s
        else
          let s : State := { s with faults := { s.faults with pinStamps := nput s.faults.pinStamps (8 * b + lv) stamp } }
          s.sendSide b 0x30 lv
      else (s.setBit p b (lv != 0 && !(s.clamped c)) stamp).drive n p stamp

/-- Where the FATAL that brought the chip's pin to 4 was latched: the region and the bit of its word, or 16 and the bit of
the chip's word (CHIP_SAFE). -/
def State.fatalCause (s : State) : Nat × Nat :=
  match (onesBelow (s.word .FLT_STATUS 0 0).toNat 64).find? (fun b => s.bitLevel .chip b == 4) with
  | none => (16, 0)
  | some b =>
    if b < 16 then
      (b, ((onesBelow (s.word .FLT_STATUS (1 + b) 0).toNat 64).find? (fun j => s.bitLevel (.region b) j == 4)).getD 0)
    else (16, b)

/-- FAULT_N is asserted while any holder of CHIP_SAFE.FAULT_N_BY holds it. -/
def State.driveFaultN (s : State) : State :=
  { s with pins := { s.pins with faultN := s.fld CHIP_SAFE.FAULT_N_BY 0 == 0 } }

/-- Adds or takes away a holder of FAULT_N: 0 the safe state, 1 Nightfall, 2 R37. -/
def State.holdFaultN (s : State) (i : Nat) (on : Bool) : State :=
  let v := s.fld CHIP_SAFE.FAULT_N_BY 0
  (s.set CHIP_SAFE.FAULT_N_BY 0 (if on then withBit v i else withoutBit v i)).driveFaultN

/-- R369, steps 1 to 3 and 5: a FATAL at the chip collector starts the safe state once; links and ports are acted on by
`settle`. The record of the event carries action 10. -/
def State.checkSafe (s : State) (stamp : Stamp) : State :=
  if s.fld FLT_FIRST.PIN 0 = 4 ∧ s.fld CHIP_SAFE.SAFE 0 = 0 then
    let c := s.fatalCause
    let s := (((s.set CHIP_SAFE.SAFE 0 1).set CHIP_SAFE.CAUSE_LEVEL 0 c.1).set CHIP_SAFE.CAUSE_BIT 0 c.2).set
      CHIP_SAFE.STAMP 0 stamp
    let s := s.holdFaultN 0 true
    let pend := match s.faults.pend.reverse with
      | [] => []
      | r => match r.findIdx? (fun q => q.sev == 3) with
        | some i => (r.modify i (fun q => { q with action := 10 })).reverse
        | none => s.faults.pend
    { s with faults := { s.faults with pend := pend, reaction := true } }
  else s

/-- R358: the stamp, made at its source, of the event that gave a brick's pin its level. -/
def State.pinStamp (s : State) (b level : Nat) : Stamp := (lookupKey (8 * b + level) s.faults.pinStamps).getD s.stb

/-- The pins upward from a collector, and the safe state. -/
def State.driveAll (s : State) (c : Coll) (stamp : Stamp) : State := (s.drive 4 c stamp).checkSafe stamp

/-- R385: the pin of a domain that has gone OFF or come ON is driven anew. What its collector had latched stands again when it comes ON. -/
def State.repin (s : State) (c : Coll) : State :=
  match c.parent with
  | none => s
  | some (p, b) =>
    let lv := if p = .chip ∧ b < 12 then nget s.faults.brickPins b 0 else s.fld FLT_FIRST.PIN c.idx
    (s.setBit p b (lv != 0 && !(s.clamped c)) s.stb).driveAll p s.stb

/-- The settings of an element's bucket: a lane's own where SET_SEVERITY gave it some, else the source's (R366). -/
def State.elemCfg (s : State) (c : Coll) (b e : Nat) : Nat × Nat :=
  let d := (s.fld FLT_SRC.THRESHOLD (srcIdx c b), s.fld FLT_SRC.LEAK_MS (srcIdx c b))
  match (c.source b).map Source.elem with
  | some .lane =>
    match lookupKey (srcIdx c b * 256 + e) s.faults.lanes with
    | some q => q
    | none => d
  | _ => d

/-- FLT_SRC.LEVEL and PERMANENT of a source with element buckets (R366). -/
def State.elemReport (s : State) (c : Coll) (b : Nat) : State :=
  let es := s.faults.elems.filter (fun e => e.coll == c && e.bit == b)
  (s.set FLT_SRC.LEVEL (srcIdx c b) ((es.map ElemBucket.level).foldl max 0)).set FLT_SRC.PERMANENT (srcIdx c b)
    (flag (es.any ElemBucket.permanent))

/-- The unit a record names: a lane's own unit for a lane bucket, the unit concerned for a NOTE of R447, else the
collector's (R363). -/
def recUnit (e : FaultEvt) : Nat :=
  match e.unit with
  | some u => u
  | none =>
    match (e.coll.source e.bit).map Source.elem, e.elem, e.coll with
    | some .lane, some x, .region r => r + 256 * (e.bit - 11) + 65536 * x + 0x2000000
    | _, _, _ => e.coll.unit

/-- R363: ELEMENT of a record: the element charged; of a lane it is the physical lane, whose direction UNIT names. -/
def FaultEvt.element (e : FaultEvt) : Nat :=
  match (e.coll.source e.bit).map Source.elem, e.elem with
  | some .lane, some x => x % 128
  | _, some x => x
  | _, none => 0

/-- RFLAGS of a record (R363): secure unit or secure collector, element bucket. -/
def State.recFlags (s : State) (e : FaultEvt) : Nat :=
  flag ((e.coll == .chip && e.bit == 40) || s.unitSecure (recUnit e)) + 2 * flag e.elem.isSome

/-- The capacity of the element buckets of a source (R366): 32 set-ways, 64 row-table entries; lanes, wavelengths and
devices have a bucket each. -/
def elemRoom : ElemKind → Option Nat
  | .setWay => some 32
  | .row => some 64
  | _ => none

/-- Of two buckets the one to displace: one whose verdict has been reached first, then the lower level, then the older
last event (R366). -/
def displaceBefore (a b : ElemBucket) : Bool :=
  (a.permanent && !b.permanent) ||
  (a.permanent == b.permanent && (decide (a.level < b.level) || (a.level == b.level && decide (a.last < b.last))))

/-- R366: makes room for a new element's bucket. A bucket that has leaked to 0 is reused; else one is displaced, and a NOTE
record names its element with its level. -/
def State.elemRoomFor (s : State) (c : Coll) (b : Nat) (k : ElemKind) : State :=
  match elemRoom k with
  | none => s
  | some n =>
    let mine := s.faults.elems.filter (fun e => e.coll == c && e.bit == b)
    if mine.length < n then s
    else
      match mine.find? (fun e => e.level == 0 && !e.permanent) with
      | some d => { s with faults := { s.faults with elems := s.faults.elems.erase d } }
      | none =>
        match mine with
        | [] => s
        | x :: r =>
          let d := r.foldl (fun m e => if displaceBefore e m then e else m) x
          let e : FaultEvt := { coll := c, bit := b, elem := some d.elem }
          let t : State := { s with faults := { s.faults with elems := s.faults.elems.erase d } }
          if d.level = 0 then t else t.addPend ⟨e, s.stb, 0, 0, 0, d.level, (s.elemCfg c b d.elem).1, 1, s.recFlags e, true⟩

/-- R365: the level and the L0 of a bucket once the leaks of its schedule up to a stamp are applied. L0 moves by whole periods, which leaves
the schedule as it is; at level 0 the leak stops. -/
def leakTo (upto : Stamp) (ms : Nat) (lv : Nat) (l0 : Stamp) : Nat × Stamp :=
  if ms = 0 then (lv, l0) else (lv - (upto - l0) / msTicks ms, l0 + (upto - l0) / msTicks ms * msTicks ms)

/-- R365: the leaks of a source's own bucket up to a stamp, by a period. -/
def State.leakSource (s : State) (c : Coll) (b : Nat) (upto : Stamp) (ms : Nat) : State :=
  let i := srcIdx c b
  let q := leakTo upto ms (s.fld FLT_SRC.LEVEL i) (nget s.faults.starts i 0)
  if s.fld FLT_SRC.LEVEL i = 0 then s
  else { s with faults := { s.faults with starts := nput s.faults.starts i q.2 } }.set FLT_SRC.LEVEL i q.1

/-- R365 and R366: the leaks of an element's bucket up to a stamp, by a period. -/
def ElemBucket.leak (q : ElemBucket) (upto : Stamp) (ms : Nat) : ElemBucket :=
  { q with level := (leakTo upto ms q.level q.start).1, start := (leakTo upto ms q.level q.start).2 }

/-- R365: adds an event, stamped `now`, to its bucket, after the leaks that fall before it. Answers the state, the level and the threshold after it, and whether it brought a
permanent verdict. -/
def State.fill (s : State) (e : FaultEvt) (d : Source) (now : Stamp) : State × Nat × Nat × Bool :=
  let i := srcIdx e.coll e.bit
  if d.thr = 0 then (s, 0, 0, false)
  else
    match d.elem, e.elem with
    | .none, _ =>
      let s := s.leakSource e.coll e.bit (now - 1) (s.fld FLT_SRC.LEAK_MS i)
      let lv := s.fld FLT_SRC.LEVEL i
      let lv' := min (lv + 1) 65535
      let thr := s.fld FLT_SRC.THRESHOLD i
      let v := decide (lv' ≥ thr) && thr != 65535 && !(s.is FLT_SRC.PERMANENT i)
      let s := s.set FLT_SRC.LEVEL i lv'
      let s := if lv = 0 then { s with faults := { s.faults with starts := nput s.faults.starts i now } } else s
      (if v then s.set FLT_SRC.PERMANENT i 1 else s, lv', thr, v)
    | _, none => (s, 0, 0, false)
    | k, some x =>
      let thr := (s.elemCfg e.coll e.bit x).1
      let old := s.faults.elems.find? (fun q => q.coll == e.coll && q.bit == e.bit && q.elem == x)
      let s := if old.isSome then s else s.elemRoomFor e.coll e.bit k
      let q := (old.getD ⟨e.coll, e.bit, x, 0, now, now, false⟩).leak (now - 1) (s.elemCfg e.coll e.bit x).2
      let lv' := min (q.level + 1) 65535
      let v := decide (lv' ≥ thr) && thr != 65535 && !q.permanent
      let q' := { q with level := lv', start := if q.level = 0 then now else q.start, last := now,
                         permanent := q.permanent || v }
      let rest := s.faults.elems.filter (fun y => !(y.coll == e.coll && y.bit == e.bit && y.elem == x))
      (({ s with faults := { s.faults with elems := rest ++ [q'] } }).elemReport e.coll e.bit, lv', thr, v)

/-- R445: the action a verdict's record carries, as far as the source alone says it; the handling of a lane or a
wavelength verdict sets it when the remap, the width change or the retirement is chosen. -/
def verdictAction (k : UnitKind) (b : Nat) (d : Source) : Nat :=
  match d.elem with
  | .setWay => 4
  | .row => 7
  | .device => 4
  | .wavelength => 6
  | .lane => 5
  | .none => match k with
    | .ddr => if b = 0 ∨ b = 1 ∨ b = 6 then 8 else 0
    | .hbm => if b = 0 ∨ b = 1 then 8 else 0
    | _ => 0

/-- R365 and R229: "Record at DEGRADE": the severity of a verdict's record. -/
def verdictSev (k : UnitKind) (b cur : Nat) : Nat :=
  match k, b with
  | .slice, 0 => max cur 2
  | .pcie, 0 => max cur 2
  | .pcie, 1 => max cur 2
  | .brick, 8 => max cur 2
  | .quadrant, 8 => max cur 2
  | .chip, 30 => max cur 2
  | .ddr, 3 => max cur 2
  | _, _ => cur

/-- Whether a record waits that an event of a source goes into (R364). -/
def PendRec.takes (p : PendRec) (c : Coll) (b : Nat) : Bool := p.evt.coll == c && p.evt.bit == b && !p.alone

/-- Adds a record, or merges an event into the record not yet written of the same source (R364). -/
def mergePend (r : PendRec) : List PendRec → List PendRec
  | [] => [r]
  | p :: q =>
    if p.takes r.evt.coll r.evt.bit then { p with count := min (p.count + r.count) 255, level := r.level, thr := r.thr } :: q
    else p :: mergePend r q

/-- The region of a collector; 16 the chip. -/
def Coll.home : Coll → Nat
  | .chip => 16
  | .region r => r
  | .block l _ => l
  | .cell l _ _ => l

/-- R357: an event of a source at the current stamp, as its region has it (R96); every consumer uses that one stamp (R89). It counts, latches its bit with its severity, adds to its bucket, and
drives the pins upward; a permanent verdict gets a record of its own, and its action is started by `settle`. An event at a
bit that R367 does not assign is none. -/
def State.raise (s : State) (e : FaultEvt) : State :=
  match e.coll.source e.bit with
  | none => s
  | some d =>
    let i := srcIdx e.coll e.bit
    let now := s.stampIn e.coll.home
    let s := (s.bumpSat FLT_SRC.EVENTS i 1).set FLT_SRC.LAST_STAMP i now
    let q := s.fill e d now
    let s := q.1
    let was := s.latched e.coll e.bit
    let sev := s.sevOf e.coll e.bit
    let s := if was then s else { s with faults := { s.faults with latched := nput s.faults.latched i sev } }
    let s := s.setBit e.coll e.bit true now
    let waiting := s.faults.pend.any (fun p => p.evt.coll == e.coll && p.evt.bit == e.bit && (!p.alone || p.verdict == 1))
    let r : PendRec := ⟨e, now, sev, if d.thr = 0 then 2 else 0, e.action, q.2.1, q.2.2.1, 1, s.recFlags e, false⟩
    let s := if q.2.2.2 then
        let v := verdictAction e.coll.kind e.bit d
        let s := s.addPend { r with verdict := 1, action := v, sev := verdictSev e.coll.kind e.bit sev, alone := true }
        { s with faults := { s.faults with verdicts := s.faults.verdicts ++ [⟨e.coll, e.bit, e.elem, e.addr, now⟩] } }
      else if !was || waiting then { s with faults := { s.faults with pend := mergePend r s.faults.pend } }
      else { s with faults := { s.faults with more := nput s.faults.more i r } }
    s.driveAll e.coll now

/-- A NOTE to the secure collector (R361): its bit and stamp, and chip bit 40. -/
def State.noteSecure (s : State) (F : Fld) (unit : Nat := 0x00FFFFFF) (addr : Nat := 0) : State :=
  ((s.set F 0 1).set FLT_SECURE.STAMP 0 s.stb).raise { coll := .chip, bit := 40, addr := addr, unit := some unit }

/-- R447: a NOTE without a source of its own, at chip bit 41, naming the unit and the address concerned. -/
def State.note41 (s : State) (unit : Nat) (addr : Nat := 0) : State :=
  s.raise { coll := .chip, bit := 41, addr := addr, unit := some unit }

/-- The unit of the mailbox unit, cell 2 of C.0. -/
def mailboxUnit : Nat := 0x000200FF

/-- R84: a command record that ends in another status than ST_OK raises a NOTE and EV_SITE_RECORD_FAILED to mailbox 0. -/
def State.siteFailed (s : State) (index op status : Nat) : State :=
  (s.note41 mailboxUnit).event 0x0F s.stb (leBytes 4 index ++ leBytes 2 op ++ leBytes 1 status) { owner := some 0, only := true }

/-- The unit whose registers an address of the register space names: a block, or a level (R13, R29, R30). -/
def regPlaceUnit (a : Nat) : Nat :=
  let o := a - 0xFFF0000000000
  let x := o % 2 ^ 32
  let slot := if x < 0x80000000 then x / 0x4000000 else (x - 0x80000000) / 0x10000
  let c : Coll := if o < 2 ^ 32 then (if slot < 8 then .block 16 slot else .chip)
    else if slot < 8 then .block (o / 2 ^ 32 - 1) slot else .region (o / 2 ^ 32 - 1)
  c.unit

/-- R370: the safe state ends when no FATAL bit is latched at any level. -/
def State.checkSafeEnd (s : State) : State :=
  if s.fld CHIP_SAFE.SAFE 0 = 1 ∧ s.fld FLT_FIRST.PIN 0 ≠ 4 ∧
      (List.range 12).all (fun b => s.fld FLT_FIRST.PIN (1 + b) != 4) then
    (s.set CHIP_SAFE.SAFE 0 0).holdFaultN 0 false
  else s

/-- Clears a latched bit and drives the pins anew. -/
def State.unlatch (s : State) (c : Coll) (b : Nat) : State :=
  let s := { s with faults := { s.faults with latched := dropKey (srcIdx c b) s.faults.latched } }
  ((s.setBit c b false s.stb).drive 4 c s.stb).checkSafeEnd

/-- Empties a source's bucket, or every element bucket of the source, and ends its verdict (R359). -/
def State.emptyBucket (s : State) (c : Coll) (b : Nat) : State :=
  let i := srcIdx c b
  let s := { s with faults := { s.faults with
    elems := s.faults.elems.filter (fun e => !(e.coll == c && e.bit == b)), starts := dropKey i s.faults.starts } }
  (s.set FLT_SRC.LEVEL i 0).set FLT_SRC.PERMANENT i 0

/-- The cell of a core in the hierarchy (R11, R20). -/
def coreColl (g : Nat) : Coll := .cell (g / 24) (g % 24 / 4) (g % 4)
/-- The block of a core. -/
def coreBlockColl (g : Nat) : Coll := .block (g / 24) (g % 24 / 4)
/-- The cell of an intake engine (R22). -/
def engineColl (e : Nat) : Coll := .cell (12 + e / 4) 7 (e % 4)
/-- The cell of a memory controller: 0 to 15 the DDR5 channels, 16 + 16 × stack + pair the HBM3E pairs (R22). -/
def mcColl (c : Nat) : Coll :=
  if c < 16 then .cell (12 + c / 4) (c % 4 / 2) (c % 2) else .cell (12 + (c - 16) / 16) 2 ((c - 16) % 16)
/-- The cell of a home slice (R22). -/
def sliceColl (h : Nat) : Coll := .cell (12 + h / 16) (3 + h % 16 / 8) (h % 8)
/-- The cell of a PCI Express port (R22). -/
def portColl (p : Nat) : Coll := .cell (12 + p / 2) 5 (p % 2)
/-- The cell of a package link (R22). -/
def linkColl (l : Nat) : Coll := .cell (12 + l / 2) 6 (l % 2)

end Sys2Proof.Machine
end

