-- ==== Sys2Proof/Machine/AlmanacOps.lean ====
section
/-! DEFINITION. The Almanac's arithmetic: capacities (R113, R114), demands (R117), the fit test (R119), shares (R118),
masks and meters (R121 to R123), and the recompute (R128 to R135). -/

namespace Sys2Proof.Machine

/-! ### Resources -/

/-- The ALM_CAP entry of a resource kind and index (R112); none for a reserved kind or an index outside the kind's range. -/
def resEntry (kind idx : Nat) : Option Nat :=
  match kind with
  | 0 => if idx < 8 then some idx else none
  | 1 => if idx < 12 then some (8 + idx) else none
  | 2 => if idx < 48 then some (20 + 2 * idx) else if 64 ≤ idx ∧ idx < 112 then some (21 + 2 * (idx - 64)) else none
  | 3 => if idx < 64 then some (116 + idx) else none
  | 4 => if idx = 0 then some 180 else none
  | 5 => if idx = 0 then some 181 else none
  | _ => none

/-- The resource kind and index of an ALM_CAP entry. -/
def entryRes (n : Nat) : Nat × Nat :=
  if n < 8 then (0, n)
  else if n < 20 then (1, n - 8)
  else if n < 116 then (2, (n - 20) / 2 + 64 * ((n - 20) % 2))
  else if n < 180 then (3, n - 116)
  else if n = 180 then (4, 0) else (5, 0)

/-- Whether a brick is up: brought up and not retired since (DIE_ID.UP of R33). -/
def State.brickUp (s : State) (b : Nat) : Bool := s.is DIE_ID.UP (1 + b)

/-- Whether a core is in service (R198). -/
def State.coreUp (s : State) (g : Nat) : Bool := s.brickUp (g / 24) && !(s.units.coreDown.contains g)

/-- Whether a core counts for its group: in service, not awaiting self-test (R128) and not withdrawn (R158). -/
def State.coreCounts (s : State) (g : Nat) : Bool :=
  s.coreUp g && !(s.units.testing.contains g) && !(s.is DSP_CORE.OUT g)

/-- The cores of a group that count for it, in ascending order. -/
def State.groupCores (s : State) (g : Nat) : List Nat :=
  match lookupKey g s.svc.groups with
  | none => []
  | some q => q.cores.filter s.coreCounts

/-- R113: core time of one core: 30,720 core-ticks at or above 2,600 MHz (104 steps of 25 MHz), less in proportion. -/
def State.coreDerated (s : State) (c : Nat) : Nat :=
  let f := s.fld PPM_CEIL.COMMITTED (c / 24 * 6 + c % 24 / 4)
  if f ≥ 104 then 30720 else 30720 * f / 104

/-- R118: what may be booked of one core. -/
def State.coreBookable (s : State) (c : Nat) : Nat := s.coreDerated c * 9 / 10

/-- The DDR5 rate of a node in MT/s (MEM_NODE.RATE). -/
def ddrRate (code : Nat) : Nat :=
  match code with
  | 0 => 4800 | 1 => 5600 | 2 => 6400 | 3 => 7200 | 4 => 8000 | _ => 8800

/-- The memory controllers of a node: the pairs of stack n, or the channels of DDR node n. -/
def nodeMembers (n : Nat) : List Nat :=
  if n < 4 then (List.range 16).map (fun i => 16 + 16 * n + i) else (List.range 4).map (fun i => 4 * (n - 4) + i)

/-- The node of a memory controller. -/
def mcNode (c : Nat) : Nat := if c < 16 then 4 + c / 4 else (c - 16) / 16

/-- Whether a controller counts for its node's capacity: in service, the first of a mirrored pair, or the survivor of one
(R113, R225); of a pair whose copy runs, the lower channel counts for both. -/
def State.mcCounts (s : State) (c : Nat) : Bool :=
  match s.fld MC_STATUS.STATE c with
  | 1 => true
  | 2 => true
  | 4 => true
  | 7 => decide (c < s.fld MC_STATUS.PARTNER c)
  | _ => false

/-- The members of a node that count. -/
def State.nodeCount (s : State) (n : Nat) : Nat := ((nodeMembers n).filter s.mcCounts).length

/-- R113: NOMINAL of a resource, from the units in service. -/
def State.nominal (s : State) (n : Nat) : Nat :=
  if n < 4 then s.nodeCount n * 98304 / 10
  else if n < 8 then s.nodeCount n * ddrRate (s.fld MEM_NODE.RATE n) * 1024 / 1000
  else if n < 20 then (if s.brickUp (n - 8) then 64 else 0)
  else if n < 116 then
    match s.fld CRS_STATUS.WIDTH ((n - 20) / 2) with
    | 0 => if s.brickUp ((n - 20) / 8) then 32768 else 0
    | 1 => if s.brickUp ((n - 20) / 8) then 16384 else 0
    | _ => 0
  else if n < 180 then (s.groupCores (n - 116)).length * 32768
  else if n = 180 then 131072 else 1048576

/-- The width that a course has been decided to have: half where its change to half width only waits for its stall (R275, R276). -/
def State.widthSoon (s : State) (i : Nat) : Nat :=
  if s.fld CRS_STATUS.WIDTH i = 0 ∧ s.crs.stalls.any (fun x => x.course == i && x.change == .width true) then 1
  else s.fld CRS_STATUS.WIDTH i

/-- R113: DERATED of a resource, from the units in service; of a course at the width decided for it (R128). -/
def State.derate (s : State) (n : Nat) : Nat :=
  if n < 4 then s.nodeCount n * 6000
  else if n < 8 then s.nodeCount n * (6000 * ddrRate (s.fld MEM_NODE.RATE n) / 8800)
  else if n < 20 then (if s.brickUp (n - 8) then 60 else 0)
  else if n < 116 then
    match s.widthSoon ((n - 20) / 2) with
    | 0 => if s.brickUp ((n - 20) / 8) then 24000 else 0
    | 1 => if s.brickUp ((n - 20) / 8) then 12000 else 0
    | _ => 0
  else if n < 180 then ((s.groupCores (n - 116)).map s.coreDerated).sum
  else if n = 180 then 122880 else 983040

/-- R114: BOOKABLE of a resource, given its DERATED. A node whose policy has BOOKABLE 0 has none. -/
def State.bookableOf (s : State) (n derated : Nat) : Nat :=
  if n < 8 ∧ s.fld MEM_NODE.BOOKABLE n = 0 then 0
  else if 116 ≤ n ∧ n < 180 then ((s.groupCores (n - 116)).map s.coreBookable).sum
  else derated * 9 / 10

/-! ### Demands -/

/-- R119: a booking counts in BOOKED at a stamp unless it is revoked, or unbooked and past its effective meridian. -/
def Booking.countsAt (b : Booking) (t : Stamp) : Bool := b.revoked == 0 && (b.unbookFrame == 0 || decide (frameOf t < b.unbookFrame))

/-- R119: whether a booking counts in BOOKED now. -/
def State.counts (s : State) (b : Booking) : Bool := b.countsAt s.stb

/-- R132: a booking counts in HONOURED while it is honoured and not withdrawn. -/
def Booking.counted (b : Booking) : Bool := b.honoured && !b.withdrawn

/-- R121: a booking is in force from the meridian that opens its EFFECTIVE_FRAME. -/
def State.inForce (s : State) (b : Booking) : Bool := s.counts b && decide (b.effFrame ≤ frameOf s.stb)

/-- The units of a path booking. -/
def Booking.units (b : Booking) : Nat := b.readU + b.writeU

/-- R117: a list of bookings' demand on a resource. On a ring it is the sum over tags of ceil(units / 640). -/
def demandOn (bs : List Booking) (n : Nat) : Nat :=
  if n < 8 then ((bs.filter (fun b => b.kind == 0 && b.node == n)).map Booking.units).sum
  else if n < 20 then
    let mine := bs.filter (fun b => b.kind == 0 && b.source == n - 8)
    (((List.range 64).map (fun t =>
      ceilDiv ((mine.filter (fun b => b.tag == t)).map Booking.units).sum 640))).sum
  else if n < 116 then
    let c := (n - 20) / 2
    let mine := bs.filter (fun b => b.kind == 0 && b.source == c / 4 && b.node % 4 == c % 4)
    if (n - 20) % 2 = 0 then (mine.map Booking.readU).sum else (mine.map Booking.writeU).sum
  else if n < 180 then ((bs.filter (fun b => b.kind == 1 && b.group == n - 116)).map Booking.amount).sum
  else if n = 180 then ((bs.filter (fun b => b.kind == 2)).map Booking.amount).sum
  else ((bs.filter (fun b => b.kind == 3)).map Booking.amount).sum

/-- The bookings that count in BOOKED. -/
def State.counted (s : State) : List Booking := s.alm.books.filter s.counts

/-- R119: BOOKED of a resource. -/
def State.bookedOn (s : State) (n : Nat) : Nat := demandOn s.counted n

/-- R117 and R132: HONOURED of a resource: what the honoured bookings add. -/
def State.honouredOn (s : State) (n : Nat) : Nat :=
  demandOn (s.alm.books.filter (fun b => s.counts b || b.counted)) n - demandOn s.counted n

/-- R119: the resources a booking touches. -/
def Booking.touches (b : Booking) : List Nat :=
  match b.kind with
  | 0 =>
    let c := b.source * 4 + b.node % 4
    [b.node] ++
      (if b.source < 12 then
        (if b.readU ≠ 0 then [20 + 2 * c] else []) ++ (if b.writeU ≠ 0 then [21 + 2 * c] else []) ++ [8 + b.source]
      else [])
  | 1 => [116 + b.group]
  | 2 => [180]
  | _ => [181]

/-- BOOKABLE and DERATED of a resource as a booking command sees them: those of the keeper tick in which it was taken (R107); a site
record's are those in force. -/
def State.capsFor (s : State) (c : Caller) (n : Nat) : Nat × Nat :=
  c.caps[n]?.getD (s.fld ALM_CAP.BOOKABLE n, s.fld ALM_CAP.DERATED n)

/-- R120: whether a booking counts in BOOKED for a command: what an UNBOOK frees is for commands taken after its meridian. -/
def State.countsFor (s : State) (c : Caller) (b : Booking) : Bool := b.countsAt (c.took.getD s.stb)

/-- The bookings that count in BOOKED for a command. -/
def State.countedFor (s : State) (c : Caller) : List Booking := s.alm.books.filter (s.countsFor c)

/-- R119: the fit test of one resource against the capacities that the command sees: a demand of 0 is not tested. -/
def State.fitsOn (s : State) (c : Caller) (b : Booking) (n : Nat) : Bool :=
  let now := demandOn (s.countedFor c) n
  let demand := demandOn (s.countedFor c ++ [b]) n - now
  let honoured := demandOn (s.alm.books.filter (fun x => s.countsFor c x || x.counted)) n - now
  demand == 0 || (decide (now + demand ≤ (s.capsFor c n).1) && decide (now + honoured + demand ≤ (s.capsFor c n).2))

/-- R119: the fit test. -/
def State.fits (s : State) (c : Caller) (b : Booking) : Bool := b.touches.all (s.fitsOn c b)

/-! ### ALM_CAP -/

/-- Writes an ALM_CAP entry as a whole; GENERATION advances if it changes. -/
def State.putCap (s : State) (n derated bookable : Nat) : State :=
  let w0 := s.word .ALM_CAP n 0
  let w1 := s.word .ALM_CAP n 1
  let s' := (((s.set ALM_CAP.DERATED n derated).set ALM_CAP.BOOKABLE n bookable).set ALM_CAP.BOOKED n
    (s.bookedOn n)).set ALM_CAP.HONOURED n (s.honouredOn n)
  if s'.word .ALM_CAP n 0 = w0 ∧ s'.word .ALM_CAP n 1 = w1 then s' else s'.bump ALM_STATUS.GENERATION 0

/-- Writes BOOKED and HONOURED of an entry anew, with the capacities in force. -/
def State.refreshCap (s : State) (n : Nat) : State :=
  s.putCap n (s.fld ALM_CAP.DERATED n) (s.fld ALM_CAP.BOOKABLE n)

/-- Writes an entry anew from the units in service (R113, R114). -/
def State.recapCap (s : State) (n : Nat) : State :=
  let d := s.derate n
  s.putCap n d (s.bookableOf n d)

/-! ### Shares -/

/-- Whether the booking of a share counts in BOOKED. -/
def State.shareCounts (s : State) (x : Share) : Bool := s.alm.books.any (fun b => b.id == x.booking && s.counts b)

/-- The core-ticks of a core taken by bookings that count. -/
def State.coreBooked (s : State) (c : Nat) : Nat :=
  ((s.alm.shares.filter (fun x => x.core == c && s.shareCounts x)).map Share.amount).sum

/-- The core-ticks of a core still honoured (R118). -/
def State.coreHonoured (s : State) (c : Nat) : Nat :=
  ((s.alm.shares.filter (fun x => x.core == c &&
      s.alm.books.any (fun b => b.id == x.booking && b.counted))).map Share.amount).sum +
    ((s.alm.olds.filter (fun x => x.core == c)).map OldShare.amount).sum

/-- R118: A(t, c), tag t's shares on core c from bookings in force. -/
def State.share (s : State) (t c : Nat) : Nat :=
  ((s.alm.shares.filter (fun x => x.core == c && x.tag == t &&
    s.alm.books.any (fun b => b.id == x.booking && s.inForce b))).map Share.amount).sum

/-- R118: the honoured share of a tag on a core. -/
def State.honouredShare (s : State) (t c : Nat) : Nat :=
  ((s.alm.shares.filter (fun x => x.core == c && x.tag == t &&
    s.alm.books.any (fun b => b.id == x.booking && b.honoured))).map Share.amount).sum +
    ((s.alm.olds.filter (fun x => x.core == c && x.tag == t)).map OldShare.amount).sum

/-- Adds to a booking's share on a core. -/
def addShare (xs : List Share) (id tag c n : Nat) : List Share :=
  if n = 0 then xs
  else if xs.any (fun x => x.booking == id && x.core == c) then
    xs.map (fun x => if x.booking = id ∧ x.core = c then { x with amount := x.amount + n } else x)
  else xs ++ [⟨id, tag, c, n⟩]

/-- First fit over cores in ascending order: each takes as much as `room` leaves (R118). Answers what is left. -/
def placeOn (id tag : Nat) (room : State → Nat → Nat) : List Nat → Nat → State → Nat × State
  | [], n, s => (n, s)
  | c :: r, n, s =>
    let k := min n (room s c)
    placeOn id tag room r (n - k) { s with alm := { s.alm with shares := addShare s.alm.shares id tag c k } }

/-- R118: places core-ticks of a booking over the cores of its group: first within the room that honoured shares leave,
then by BOOKABLE alone. -/
def State.place (s : State) (b : Booking) (n : Nat) : State :=
  let cs := s.groupCores b.group
  let q := placeOn b.id b.tag (fun s c => min (s.coreBookable c - s.coreBooked c)
    (s.coreDerated c - s.coreBooked c - s.coreHonoured c)) cs n s
  (placeOn b.id b.tag (fun s c => s.coreBookable c - s.coreBooked c) cs q.1 q.2).2

/-- Whether an op is admitted and not answered (R152). -/
def Op.live (o : Op) : Bool := o.state == .queued || o.state == .running || o.state == .comparing

/-- Whether the answer of an op is still to be decided. -/
def Op.due (o : Op) : Bool := o.live && !o.decided

/-- The ops admitted and not answered. -/
def State.liveOps (s : State) : List Op := (s.svc.ops.map Prod.snd).filter Op.live

/-- The ops whose answer is still to be decided. -/
def State.dueOps (s : State) : List Op := (s.svc.ops.map Prod.snd).filter Op.due

/-- The latest deadline of a list of ops; 0 if there are none. -/
def latestDeadline (os : List Op) : Stamp := (os.map Op.deadline).foldl max 0

/-- R118: keeps the part of a share that moves off a core counted there until the meridian after the latest deadline of the
tag's ops placed on the core; it leaves at once if there is none. -/
def State.keepOld (s : State) (tag c n : Nat) : State :=
  let d := latestDeadline (s.liveOps.filter (fun o => o.tag == tag && o.core == some c))
  if n = 0 ∨ d = 0 then s
  else { s with alm := { s.alm with olds := s.alm.olds ++ [⟨tag, c, n, nextMeridian d⟩] } }

/-- The share that has to leave a core first: that of the youngest booking (R118). -/
def youngest (xs : List Share) : Option Share :=
  xs.foldl (fun m x => match m with
    | none => some x
    | some y => if y.booking < x.booking then some x else m) none

/-- R118: takes `n` core-ticks off a core, the youngest bookings' first, a share wholly or only in the part that does not
fit. Answers what left, by booking. -/
def State.shed (s : State) (c : Nat) : Nat → Nat → List (Nat × Nat) × State
  | 0, _ => ([], s)
  | k + 1, n =>
    if n = 0 then ([], s)
    else
      match youngest (s.alm.shares.filter (fun x => x.core == c && s.shareCounts x)) with
      | none => ([], s)
      | some x =>
        let m := min n x.amount
        let shares := if m = x.amount then s.alm.shares.erase x
          else s.alm.shares.map (fun y => if y = x then { x with amount := x.amount - m } else y)
        let s := ({ s with alm := { s.alm with shares := shares } }).keepOld x.tag c m
        let q := s.shed c k (n - m)
        ((x.booking, m) :: q.1, q.2)

/-- What must leave a core: everything where it no longer counts for its group, else what exceeds its BOOKABLE. -/
def State.excess (s : State) (g c : Nat) : Nat :=
  if (s.groupCores g).contains c then s.coreBooked c - s.coreBookable c else s.coreBooked c

/-- R118: a core that has left its group keeps no share: neither an honoured one nor a part that had moved off it. -/
def State.dropShares (s : State) (c : Nat) : State :=
  if s.is DSP_CORE.IN_GROUP c then s
  else { s with alm := { s.alm with shares := s.alm.shares.filter (fun x => x.core != c), olds := s.alm.olds.filter (fun x => x.core != c) } }

/-- R118: moves the shares of a group's cores that no longer fit, placing them on other cores, oldest booking first. -/
def State.moveShares (s : State) (g : Nat) : State :=
  let cores := ((s.alm.shares.filter (fun x => s.alm.books.any (fun b => b.id == x.booking && b.group == g && b.kind == 1))).map
    Share.core).eraseDups
  let q := cores.foldl (fun (acc : List (Nat × Nat) × State) c =>
    let r := acc.2.shed c acc.2.alm.shares.length (acc.2.excess g c)
    (acc.1 ++ r.1, r.2.dropShares c)) ([], s)
  let out := q.1
  (q.2.alm.books).foldl (fun s b =>
    let n := ((out.filter (fun x => x.1 == b.id)).map Prod.snd).sum
    if n = 0 then s else s.place b n) q.2

/-- Places again what of the group's bookings has no share, for capacity that has returned, oldest booking first. -/
def State.fillShares (s : State) (g : Nat) : State :=
  s.alm.books.foldl (fun s b =>
    if b.kind = 1 ∧ b.group = g ∧ s.counts b then
      s.place b (b.amount - ((s.alm.shares.filter (fun x => x.booking == b.id)).map Share.amount).sum)
    else s) s

/-- The shares of a group after its cores have changed: what no longer fits moves, and its ALM_CAP entry is written. -/
def State.regroup (s : State) (g : Nat) : State := ((s.moveShares g).fillShares g).recapCap (116 + g)

/-! ### Masks and meters -/

/-- The 6-bit reversal of a position. -/
def bitrev6 (n : Nat) : Nat :=
  ((List.range 6).map (fun i => if n.testBit i then 2 ^ (5 - i) else 0)).sum

/-- R122: the spreading order, without the four fixed positions on rings. -/
def spreading (ring : Bool) : List Nat :=
  ((List.range 64).map bitrev6).filter (fun p => !ring || p % 16 != 0)

/-- R122: the mask of the first `n` positions of the spreading order. -/
def slotMask (ring : Bool) (n : Nat) : Nat := (((spreading ring).take n).map (fun p => 2 ^ p)).sum

/-- The bookings that hold meters and positions in this frame: in force, or honoured, withdrawn ones until their meridian
(R121, R133). -/
def State.metered (s : State) : List Booking := s.alm.books.filter (fun b => s.inForce b || b.honoured)

/-- The place of a meter in its region: for a brick, course × 256 + side × 128 + direction × 64 + tag; for a quadrant,
node × 128 + direction × 64 + tag (ALM_METER). Regions stand 1,024 apart. -/
def meterIdx (source node dir tag : Nat) : Nat :=
  source * 1024 +
    (if source < 12 then node % 4 * 256 + node / 4 * 128 + dir * 64 + tag else node * 128 + dir * 64 + tag)

/-- R123: loads every meter for the frame, and DEMOTED with the previous frame's count. -/
def State.loadMeters (s : State) : State :=
  let cleared := { s with regs := s.regs.filter (fun q => q.1.reg != Reg.ALM_METER) }
  let loaded := s.metered.foldl (fun t b =>
    if b.kind = 0 then
      let r := meterIdx b.source b.node 0 b.tag
      let w := meterIdx b.source b.node 1 b.tag
      let t := t.set ALM_METER.REMAINING r (t.fld ALM_METER.REMAINING r + b.readU)
      t.set ALM_METER.REMAINING w (t.fld ALM_METER.REMAINING w + b.writeU)
    else t) cleared
  let d := s.alm.demoted.foldl (fun t q => t.set ALM_METER.DEMOTED q.1 (min q.2 (2 ^ 32 - 1))) loaded
  { d with alm := { d.alm with demoted := [] } }

/-- R122: builds the masks of every brick ring and of every course direction. -/
def State.loadMasks (s : State) : State :=
  let bs := s.metered
  let s := (List.range 12).foldl (fun s b =>
    s.set ALM_RING_MASK.POSITIONS b (slotMask true (demandOn bs (8 + b)))) s
  (List.range 96).foldl (fun s i =>
    let n := 20 + i
    let d := s.fld ALM_CAP.DERATED n
    let k := if d = 0 then 0 else min 64 (ceilDiv (64 * demandOn bs n) d)
    s.set ALM_COURSE_MASK.POSITIONS i (slotMask false k)) s

/-- A trigger of R128 at the current stamp: the recompute begins (R129, R135). -/
def State.triggerAt (s : State) (at_ : Stamp) (res : List Nat) (up : Bool) (unit : Nat) : State :=
  let t : State := { s with alm := { s.alm with trigs := s.alm.trigs ++ [Trigger.mk at_ res up unit] } }
  (t.set ALM_TRIGGER.STAMP 0 at_).set ALM_STATUS.RECOMPUTING 0 1

/-- A trigger whose event is decided now. -/
def State.trigger (s : State) (res : List Nat) (up : Bool) (unit : Nat := 0x00FFFFFF) : State := s.triggerAt s.stb res up unit

/-- The ALM_CAP entries of a course's two directions. -/
def courseRes (b c : Nat) : List Nat := [20 + 2 * (4 * b + c), 21 + 2 * (4 * b + c)]

/-- The ALM_CAP entries of the groups that hold a core. -/
def State.coreRes (s : State) (g : Nat) : List Nat :=
  (s.svc.groups.filter (fun q => q.2.cores.contains g)).map (fun q => 116 + q.1)

end Sys2Proof.Machine
end

