-- ==== Sys2Proof/Machine/ServiceOps.lean ====
section
/-! DEFINITION. Service ops: the admission tests (R147 to R150), the op table (R151), answers and what they do to cores
(R142, R158), placement and re-dispatch (R159), twin comparison (R160), and the journal's accounting (R162 to R168). -/

namespace Sys2Proof.Machine

/-! ### Channels and engines -/

/-- R137: the engine that serves a channel. -/
def engineOf (ch srcKind port : Nat) : Nat := if srcKind = 0 then ch % 16 else 4 * (port / 2) + ch % 4

/-- The engine of a bound channel. -/
def Channel.engine (c : Channel) (ch : Nat) : Nat := engineOf ch c.srcKind c.port

/-- A bound channel. -/
def State.chan (s : State) (ch : Nat) : Option Channel := lookupKey ch s.svc.channels

/-- The place of a channel's state among the engines' registers. -/
def chIdx (e ch : Nat) : Nat := e * 4096 + ch

/-- Sets a bound channel. -/
def State.setChan (s : State) (ch : Nat) (c : Channel) : State :=
  { s with svc := { s.svc with channels := nput s.svc.channels ch c } }

/-- The channels bound to a function of an endpoint port, in ascending number (R138). -/
def State.fnChans (s : State) (port fn : Nat) : List Nat :=
  ((s.svc.channels.filter (fun q => q.2.srcKind == 1 && q.2.port == port && q.2.fn == fn)).map Prod.fst)

/-- The place of a virtual function's registers. -/
def vfIdx (port vf : Nat) : Nat := port * 512 + vf

/-- R147: B(g), the largest class BUDGET among the classes of the channels bound to a group. -/
def State.blocking (s : State) (g : Nat) : Nat :=
  ((s.svc.channels.filter (fun q => q.2.grp == g)).map (fun q =>
    ((lookupKey q.2.cls s.svc.classes).map SvcClass.budget).getD 0)).foldl max 0

/-! ### Counts -/

/-- The answer guard G (DSP_TIMES.GUARD). -/
def guardTicks : Nat := 8192

/-- The number of admission entries (R151). -/
def entryCount : Nat := 122880

/-- R148: entries held by ops of a tag. -/
def State.tagEntries (s : State) (t : Nat) : Nat :=
  (s.svc.ops.filter (fun q => decide (q.1 < entryCount) && q.2.tag == t)).length

/-- Admission entries held. -/
def State.heldEntries (s : State) : Nat := (s.svc.ops.filter (fun q => decide (q.1 < entryCount))).length

/-- Kept entries in use. -/
def State.keptEntries (s : State) : Nat := (s.svc.ops.filter (fun q => decide (entryCount ≤ q.1))).length

/-- R148: the AMOUNT of a tag's bookings of a kind that are in force. -/
def State.allowed (s : State) (kind t : Nat) : Nat :=
  ((s.alm.books.filter (fun b => b.kind == kind && b.tag == t && s.inForce b)).map Booking.amount).sum

/-- R162: the units a record occupies: 32 bytes of header and the body, in units of 64 bytes. -/
def JRec.units (r : JRec) : Nat := if r.raw.isEmpty then ceilDiv (32 + r.body.length) 64 else r.raw.length / 64

/-- Journal units reserved or occupied by a tag. -/
def State.tagUnits (s : State) (t : Nat) : Nat :=
  ((s.svc.ops.filter (fun q => q.2.tag == t)).map (fun q => q.2.units)).sum +
    ((s.jnl.recs.filter (fun r => r.closed && r.tag == t && !r.restored)).map JRec.units).sum

/-- Journal units in use. -/
def State.usedUnits (s : State) : Nat :=
  ((s.svc.ops.map (fun q => q.2.units)).sum) + ((s.jnl.recs.filter JRec.closed).map JRec.units).sum

/-- Journal units free for ops: the store less the 65,536 kept units (R113). -/
def State.freeUnits (s : State) : Nat := 983040 - s.usedUnits

/-! ### The admission test -/

/-- R147: the remaining budget of an op: its budget less the ticks it has run since its dispatch. -/
def Op.remaining (o : Op) (now : Stamp) : Nat := if o.state = .running then o.budget - (now - o.dispatched) else o.budget

/-- R147: the earliest-deadline demand test of an op of tag `t` on core `c`. -/
def State.coreFits (s : State) (t g c budget : Nat) (dl t0 : Stamp) (skip : List Nat) : Bool :=
  let os := s.liveOps.filter (fun o => o.tag == t && o.core == some c && !(skip.contains o.id))
  let js := (dl, budget) :: os.map (fun o => (o.deadline, o.remaining t0))
  let a := s.share t c
  let b := s.blocking g
  (js.filter (fun k => decide (dl ≤ k.1))).all (fun k =>
    decide (((js.filter (fun j => decide (j.1 ≤ k.1))).map Prod.snd).sum
      ≤ a * (k.1 - guardTicks - b - t0) / 32768))

/-- R147: the core an op of a booked tag is placed on, or the reason of the refusal. -/
def State.coreTime (s : State) (t g budget : Nat) (dl t0 : Stamp) (skip : List Nat) (avoid : Option Nat) : Nat ⊕ Nat :=
  if t0 + guardTicks + s.blocking g + budget > dl then .inr 5
  else
    match (s.groupCores g).find? (fun c => avoid != some c && s.share t c != 0 && s.coreFits t g c budget dl t0 skip) with
    | some c => .inl c
    | none => .inr 1

/-- R148: the op-table test of a booked tag for `e` entries. -/
def State.entriesOk (s : State) (t e : Nat) : Bool :=
  decide (s.tagEntries t + e ≤ s.allowed 2 t) && decide (e ≤ entryCount - s.heldEntries)

/-- R148: the journal test of a booked tag for `u` units. -/
def State.unitsOk (s : State) (t u : Nat) : Bool :=
  decide (s.tagUnits t + u ≤ s.allowed 3 t) && decide (u ≤ s.freeUnits)

/-- R149: what booked tags have booked beyond what they hold. -/
def State.shortfall (s : State) (kind : Nat) (held : State → Nat → Nat) : Nat :=
  ((List.range 64).map (fun t => if t = 0 then 0 else s.allowed kind t - held s t)).sum

/-- R149: the op-table test of a best-effort op. -/
def State.freeEntriesOk (s : State) : Bool :=
  decide (s.shortfall 2 State.tagEntries + 1 ≤ entryCount - s.heldEntries)

/-- R149: the journal test of a best-effort op. -/
def State.freeUnitsOk (s : State) (u : Nat) : Bool :=
  decide (s.shortfall 3 State.tagUnits + u ≤ s.freeUnits)

/-- R151: takes the next admission entry of the free list: in ascending order after reset, then in the order freed. -/
def State.takeEntry (s : State) : Nat × State :=
  if s.svc.fresh < entryCount then (s.svc.fresh, { s with svc := { s.svc with fresh := s.svc.fresh + 1 } })
  else
    match s.svc.freed with
    | [] => (s.svc.fresh, s)
    | i :: r => (i, { s with svc := { s.svc with freed := r } })

/-- The lowest kept entry that is free (R151). -/
def State.keptEntry (s : State) : Option Nat :=
  (List.range (s.keptEntries + 1)).find? (fun i => decide (i < 8192) && (lookupKey (entryCount + i) s.svc.ops).isNone)
    |>.map (entryCount + ·)

/-- Sets an entry of the op table. -/
def State.setOp (s : State) (o : Op) : State := { s with svc := { s.svc with ops := nput s.svc.ops o.id o } }

/-- An entry of the op table. -/
def State.op (s : State) (i : Nat) : Option Op := lookupKey i s.svc.ops

/-- Frees an entry; an admission entry goes to the end of the free list (R151). -/
def State.freeEntry (s : State) (i : Nat) : State :=
  { s with svc := { s.svc with ops := dropKey i s.svc.ops,
                               freed := if i < entryCount then s.svc.freed ++ [i] else s.svc.freed } }

/-- The entries of an op: the first half's, the second half's and the retry's. -/
def State.parts (s : State) (i : Nat) : List Op :=
  (s.svc.ops.map Prod.snd).filter (fun o => o.id == i || o.mate == some i)

/-! ### Cores -/

/-- What the dispatcher keeps for a core that holds nothing. -/
def CoreRun.idle : CoreRun := ⟨0, 0, none, none, none, 0, none⟩

/-- What the dispatcher keeps for a core. -/
def State.run (s : State) (c : Nat) : CoreRun := nget s.svc.runs c CoreRun.idle

/-- Sets what the dispatcher keeps for a core. -/
def State.setRun (s : State) (c : Nat) (r : CoreRun) : State :=
  { s with svc := { s.svc with runs := nputd s.svc.runs c r CoreRun.idle } }

/-- R158: a core's op is answered without it: interrupt 20 is raised, DSP_CORE.ANSWERED is set, and TOPID's op is held no longer
unanswered. -/
def State.coreAnswered (s : State) (c status : Nat) : State :=
  let r := s.run c
  (((s.setRun c { r with answer := some (status, s.stampIn (c / 24)), issued := 0 }).set DSP_CORE.ANSWERED c 1).set TOPID.VALID c 0).setMip c 20 true

/-- The core that holds an op, if one does. -/
def State.holder (s : State) (o : Op) : Option Nat :=
  match o.core with
  | some c => if o.state = .running ∧ s.is DSP_CORE.HOLDING c ∧ s.fld DSP_CORE.OP_ID c = o.id then some c else none
  | none => none

/-! ### Answers -/

/-- R142 and R152: decides an op's answer, once: cores that still hold a part are told, and the engine has the record to issue. Its
entries are answered when that record is issued. `keep` is the entry whose records become confirmed. After a Nightfall trigger no op is
answered (R401). -/
def State.decideOp (s : State) (i status result cflags : Nat) (keep : Option Nat) : State :=
  match s.op i with
  | none => s
  | some o =>
    if s.nf.triggered ∨ o.due = false then s
    else
    let ps := s.parts i
    let s := ps.foldl (fun s p => match s.holder p with
      | some c => if s.is DSP_CORE.ANSWERED c then s else s.coreAnswered c status
      | none => s) s
    let s := ps.foldl (fun s p => s.setOp { p with decided := true }) s
    let fl := (cflags ||| (if ps.any (fun p => p.part == 2) then 12 else 0)) ||| (if ps.any Op.redisp then 16 else 0)
    { s with svc := { s.svc with answers := s.svc.answers ++
        [⟨o.engine, o.ch, leAt o.bytes 0 8, status, fl, o.sqHead, i, 0, result, o.t0, s.stb, ps.map Op.id, keep, o.urgency⟩] } }

/-- The first half's entry of a part. -/
def Op.main (o : Op) : Nat := o.mate.getD o.id

/-- Answers an op OP_WITHDRAWN with a reason (R161). -/
def State.withdraw (s : State) (o : Op) (reason : Nat) : State :=
  if s.nf.triggered ∨ ((s.op o.main).any Op.due) = false then s else (s.decideOp o.main 5 reason 0 none).set ALM_EVT.WITHDRAWN 0 1

/-- R156: the overrun of the op a core holds, at or after the end of its budget. -/
def State.fireOverrun (s : State) (c : Nat) : State :=
  if s.fld DSP_CORE.HOLDING c = 0 ∨ s.is DSP_CORE.ANSWERED c then s
  else
    match s.op (s.fld DSP_CORE.OP_ID c) with
    | some o =>
      if o.due ∧ (s.run c).dispatched + o.budget ≤ s.stb then (s.decideOp o.main 2 1 0 none).set DSP_EVT.OVERRUN 0 1 else s
    | none => s

/-- R157: the guard of an op's deadline, at or after its stamp. -/
def State.fireGuard (s : State) (id : Nat) : State :=
  match s.op id with
  | some o =>
    if o.mate.isNone ∧ o.due ∧ o.deadline ≤ s.stb + guardTicks then
      (if (s.parts id).any (fun p => p.state == .running) then s.decideOp id 2 2 0 none else s.withdraw o 2).set
        DSP_EVT.GUARD_FIRED 0 1
    else s
  | none => s

/-- R134 and R157: every guard whose stamp has come has answered its op, so that no such op is dispatched. -/
def State.fireGuards (s : State) : State := s.dueOps.foldl (fun s o => s.fireGuard o.id) s

/-- R134, R156 and R157: what the limits of the op a core holds have answered by now, the earlier one first. DESIGN CHOICE (log 48): of
a budget and a guard that end at one stamp, the budget answers. -/
def State.fireLimits (s : State) (c : Nat) : State :=
  match s.op (s.fld DSP_CORE.OP_ID c) with
  | some o =>
    if (s.run c).dispatched + o.budget + guardTicks ≤ o.deadline then (s.fireOverrun c).fireGuard o.main
    else (s.fireGuard o.main).fireOverrun c
  | none => s

/-- R165: voids the records of an entry that are not settled. -/
def State.voidRecs (s : State) (i : Nat) : State :=
  let hit := s.jnl.recs.any (fun r => r.op == i && !r.closed && !r.void)
  let s := { s with jnl := { s.jnl with recs := s.jnl.recs.map (fun r =>
    if r.op = i ∧ r.closed = false ∧ r.confirmed = false then { r with void := true } else r) } }
  if hit then s.set JNL_EVT.VOIDED 0 1 else s

/-- R153: the queue of a core. -/
def State.coreQueue (s : State) (c : Nat) : List Op :=
  s.dueOps.filter (fun o => o.state == .queued && o.core == some c)

/-- R159: places a re-dispatched part again: on another core of its group that accepts it, or in the best-effort queue; a
booked op that no core accepts is answered OP_WITHDRAWN with RESULT 4. -/
def State.replace (s : State) (o : Op) : State :=
  if o.tag = 0 then s.setOp { o with core := none }
  else
    match s.coreTime o.tag o.grp o.budget o.deadline o.t0 [o.id] o.left with
    | .inl c => s.setOp { o with core := some c, left := none }
    | .inr _ => s.withdraw o 4

/-- R159: a part is to be dispatched again: it waits with its full budget, attempt 3, in no core queue until it is placed; `left` is
the core it leaves. -/
def Op.again (o : Op) : Op :=
  { o with state := .queued, core := none, left := o.core, attempt := 3, redisp := true, dispatched := 0 }

/-- R159: an attempt is abandoned: its records are voided and the part is dispatched again. -/
def State.abandon (s : State) (o : Op) : State := ((s.voidRecs o.id).setOp o.again).set DSP_EVT.REDISPATCH 0 1

/-- R159: every op that waits in the queue of a core that leaves its group is dispatched again. The recompute that the leaving
triggers places it. -/
def State.strand (s : State) (c : Nat) : State :=
  (s.coreQueue c).foldl (fun s o => (s.setOp o.again).set DSP_EVT.REDISPATCH 0 1) s

/-- The ops of booked tags that await re-dispatch. -/
def State.strandedOps (s : State) : List Op := s.dueOps.filter (fun o => o.state == .queued && o.tag != 0 && o.core.isNone)

/-- R159: places every op of a booked tag that awaits re-dispatch. -/
def State.replaceStranded (s : State) : State :=
  s.strandedOps.foldl (fun s o => match s.op o.id with
    | some p => if p.due then s.replace p else s
    | none => s) s

/-- R159: what happens to the op a core holds when its unit fails. `diverged` is a pair divergence, which re-dispatches
any op; else a twin half is re-dispatched and another op is answered OP_WITHDRAWN with RESULT 4. The core is freed. An op whose
core is in no group is placed again here; else the recompute of R128 does it. -/
def State.dropHeld (s : State) (c : Nat) (diverged : Bool) : State :=
  if s.is DSP_CORE.HOLDING c then
    let i := s.fld DSP_CORE.OP_ID c
    let answered := s.is DSP_CORE.ANSWERED c
    let s := (((s.set DSP_CORE.HOLDING c 0).set DSP_CORE.ANSWERED c 0).setRun c CoreRun.idle).setMip c 20 false
    if answered then s
    else
      match s.op i with
      | none => s
      | some o =>
        if diverged || (o.mate.isSome || (s.parts i).length != 1) then
          let s := s.abandon o
          if s.is DSP_CORE.IN_GROUP c then s else s.replaceStranded
        else s.withdraw o 4
  else s

/-- A core leaves its group (R118, R128, R159): DSP_CORE says so; the recompute moves its shares and places its waiting ops
again. -/
def State.leaveGroup (s : State) (c : Nat) : State :=
  if s.is DSP_CORE.IN_GROUP c then
    let g := s.fld DSP_CORE.GROUP c
    let s := (s.strand c).set DSP_CORE.IN_GROUP c 0
    let s := { s with svc := { s.svc with groups := s.svc.groups.map (fun (q : Nat × SvcGroup) =>
      (q.1, { q.2 with cores := q.2.cores.filter (fun x => x != c) })) } }
    s.trigger [116 + g] false ((coreColl c).unit)
  else s

/-! ### Dispatch -/

/-- R153: which of two queued ops runs first: earlier deadline, then earlier intake, then lower ID. -/
def runsBefore (a b : Op) : Bool :=
  decide (a.deadline < b.deadline) ||
    (a.deadline == b.deadline && (decide (a.t0 < b.t0) || (a.t0 == b.t0 && decide (a.id < b.id))))

/-- The head of a queue. -/
def headOf (os : List Op) : Option Op :=
  os.foldl (fun m o => match m with
    | none => some o
    | some x => if runsBefore o x then some o else m) none

/-- R153: the best-effort queue of a group. -/
def State.groupQueue (s : State) (g : Nat) : List Op :=
  s.dueOps.filter (fun o => o.state == .queued && o.tag == 0 && o.core.isNone && o.grp == g)

/-- R154: whether a core may be granted an op: it holds none, it is in a group, and Nightfall has not stopped the grants (R400). -/
def State.mayHold (s : State) (c : Nat) : Bool := !(s.is DSP_CORE.HOLDING c) && s.is DSP_CORE.IN_GROUP c && !s.nf.triggered

/-- Whether an op's descriptor is being written into the buffer of a core's TNEXT (R154): no other core is offered it meanwhile. -/
def State.offered (s : State) (id : Nat) : Bool :=
  s.svc.runs.any (fun q => q.2.offer == some id && (lookupKey q.1 s.fab.misses).isSome)

/-- R153: the op that a TNEXT of a core takes. -/
def State.nextOp (s : State) (c : Nat) : Option Op :=
  let free := fun (os : List Op) => headOf (os.filter (fun o => !(s.offered o.id)))
  match free (s.coreQueue c) with
  | some o => some o
  | none => if s.is DSP_CORE.IN_GROUP c then free (s.groupQueue (s.fld DSP_CORE.GROUP c)) else none

/-- R154: the op word. -/
def opWord (o : Op) : Word :=
  BitVec.ofNat 64 (o.id + o.cls * 2 ^ 17 + o.attempt * 2 ^ 23 + 2 ^ 63)

/-- R154: grants an op to a core at the current stamp, its dispatch stamp: DSP_CORE holds it, TOPID reads its word, and the
budget timer is loaded (R156). -/
def State.grantOp (s : State) (c : Nat) (o : Op) : State :=
  let s := s.setOp { o with state := .running, core := some c, dispatched := s.stampIn (c / 24) }
  let s := ((s.set DSP_CORE.HOLDING c 1).set DSP_CORE.OP_ID c o.id).set DSP_CORE.ANSWERED c 0
  (s.setWord .TOPID c 0 (opWord o)).setRun c
    { s.run c with dispatched := s.stampIn (c / 24), budget := o.budget, answer := none, tnext := none }

/-- R155: the core holds no op any more. -/
def State.releaseCore (s : State) (c : Nat) : State :=
  let s := s.countHeld c (((lookupKey (s.fld DSP_CORE.OP_ID c) s.svc.ops).map Op.tag).getD 0) (s.run c).dispatched
  let s := ((((s.set DSP_CORE.HOLDING c 0).set DSP_CORE.OP_ID c 0).set DSP_CORE.ANSWERED c 0).setWord .TOPID c 0 0).setMip
    c 20 false
  let r := s.run c
  s.setRun c { r with dispatched := 0, budget := 0, answer := none }

/-! ### Twins -/

/-- The bodies of an entry's records of the present attempt, in commit order. -/
def State.bodies (s : State) (i : Nat) : List (List Byte) :=
  (s.jnl.recs.filter (fun r => r.op == i && !r.closed && !r.void)).map JRec.body

/-- R160: whether two entries agree: result words and record bodies. -/
def State.agree (s : State) (a b : Op) : Bool := a.result == b.result && s.bodies a.id == s.bodies b.id

/-- R160: the third core of a retry: of a brick that holds neither half, free, in either group; else of the first group,
other than the first half's core. -/
def State.thirdCore (s : State) (a b : Op) : Option Nat :=
  let free := fun c => !(s.is DSP_CORE.HOLDING c) && (s.coreQueue c).isEmpty
  let both := (s.groupCores a.grp ++ s.groupCores b.grp).filter free
  let brick := fun (o : Op) => (o.core.getD 0) / 24
  match both.find? (fun c => c / 24 != brick a && c / 24 != brick b) with
  | some c => some c
  | none => ((s.groupCores a.grp).filter free).find? (fun c => some c != a.core)

/-- R160: OP_MISMATCH: a DEGRADE fault of the dispatcher naming both cores, and the answer with every record voided. -/
def State.mismatch (s : State) (a b : Op) (result : Nat) : State :=
  let d := leBytes 2 (a.core.getD 0) ++ leBytes 2 (b.core.getD 0)
  ((s.raise { coll := .cell 16 2 0, bit := 0, detail := d }).set DSP_EVT.MISMATCH 0 1).decideOp a.id 4 result 4 none

/-- R160: what follows once both halves, or the retry, have done TDONE. -/
def State.compareTwins (s : State) (i : Nat) : State :=
  match (s.parts i).find? (fun o => o.part == 0), (s.parts i).find? (fun o => o.part == 1) with
  | some a, some b =>
    match (s.parts i).find? (fun o => o.part == 2) with
    | some r =>
      if r.state ≠ .comparing then s
      else if s.agree r a then s.decideOp i 0 a.result 12 (some a.id)
      else if s.agree r b then s.decideOp i 0 b.result 12 (some b.id)
      else s.mismatch a b 0
    | none =>
      if a.state ≠ .comparing ∨ b.state ≠ .comparing then s
      else if s.agree a b then s.decideOp i 0 a.result 4 (some a.id)
      else
        match s.keptEntry, s.thirdCore a b with
        | some k, some c =>
          if s.stb + guardTicks + a.budget ≤ a.deadline then
            let g := if (s.groupCores a.grp).contains c then a.grp else b.grp
            (s.setOp { a with id := k, part := 2, grp := g, mate := some i, attempt := 2, state := .queued, core := some c,
                              units := a.units, used := 0, dispatched := 0, result := 0 }).set DSP_EVT.RETRY 0 1
          else s.mismatch a b 1
        | _, _ => s.mismatch a b 1
  | _, _ => s

/-! ### The journal -/

/-- The drain channel of a journal, if it has one (JNL_DRAIN_MAP); 64 up, that of an orphaned mirror slot (R306). -/
def State.drainOf (s : State) (j : Nat) : Option Nat :=
  let d := if j < 64 then s.fld (JNL_DRAIN_MAP.CHAN.nth 4 (j % 16)) (j / 16)
    else if s.is CST_MIRROR_SLOT.VALID (j - 64) && s.is CST_MIRROR_SLOT.ORPHAN (j - 64) then s.fld CST_MIRROR_SLOT.DRAIN (j - 64)
    else 15
  if d < 8 then some d else none

/-- R165: settles the records of an answered op: those of `keep` become confirmed, the others void; a journal mapped to no
drain channel frees its records' units (R167). Answers the highest confirmed sequence number. -/
def State.settleRecs (s : State) (ops : List Nat) (keep : Option Nat) : Nat × State :=
  let mine := fun (r : JRec) => ops.contains r.op && !r.closed
  let good := fun (r : JRec) => mine r && keep == some r.op && !r.void
  let top := ((s.jnl.recs.filter good).map JRec.seq).foldl max 0
  let voided := s.jnl.recs.any (fun r => mine r && !good r)
  let recs := s.jnl.recs.filterMap (fun r =>
    if !mine r then some r
    else if (s.drainOf r.journal).isNone then none
    else if good r then some { r with confirmed := true, closed := true }
    else some { r with void := true, closed := true })
  let s := { s with jnl := { s.jnl with recs := recs } }
  (top, if voided then s.set JNL_EVT.VOIDED 0 1 else s)

end Sys2Proof.Machine
end

