-- ==== Sys2Proof/Machine/AlmanacCmds.lean ====
section
/-! DEFINITION. The booking commands (R64 to R66, R115 to R120, R446) and the recompute (R128 to R135). -/

namespace Sys2Proof.Machine

/-! ### Tags -/

/-- R330: the tenants with a virtual function whose TAG_MASK holds a tag. -/
def State.tenantsOf (s : State) (tag : Nat) : List Nat :=
  ((s.regs.filter (fun q => q.1.reg == Reg.TNT_VF && q.1.word == 2 && q.2.toNat.testBit tag)).map
    (fun q => s.fld TNT_VF.TENANT q.1.idx)).eraseDups

/-- R330: the tenant a tag is limited to. -/
def State.tagTenant (s : State) (tag : Nat) : Option Nat :=
  match s.tenantsOf tag with
  | [x] => some x
  | _ => none

/-- Whether a booking is held: it counts in BOOKED or in HONOURED. -/
def State.heldBooking (s : State) (b : Booking) : Bool := s.counts b || b.honoured

/-- Writes ALM_TAG_CFG of a tag as classes, bookings and tenants stand (ALM_TAG_CFG, R116). -/
def State.refreshTag (s : State) (tag : Nat) : State :=
  if tag = 0 then s
  else
    let named := (s.svc.classes.filter (fun q => q.2.tag == tag)).map Prod.snd
    let booked := s.alm.books.any (fun b => b.tag == tag && s.heldBooking b)
    let on := !named.isEmpty || booked
    let s := ((s.set ALM_TAG_CFG.ENABLED tag (flag on)).set ALM_TAG_CFG.CORE_OK tag
      (flag (on && (s.tagTenant tag).isNone))).set ALM_TAG_CFG.MAX_URGENCY tag ((named.map SvcClass.urgency).foldl max 0)
    if booked then s else s.set ALM_TAG_CFG.SECURE tag 0

/-- Replaces a booking. -/
def State.setBooking (s : State) (b : Booking) : State :=
  { s with alm := { s.alm with books := s.alm.books.map (fun x => if x.id = b.id then b else x) } }

/-! ### Revocation (R130 to R132) -/

/-- R131: which of two bookings goes first: lower precedence, then the younger. -/
def goesBefore (a b : Booking) : Bool :=
  decide (a.prec < b.prec) || (a.prec == b.prec && decide (b.id < a.id))

/-- The first of a list of bookings in the order of R131. -/
def firstToGo (bs : List Booking) : Option Booking :=
  bs.foldl (fun m b => match m with
    | none => some b
    | some x => if goesBefore b x then some b else m) none

/-- R130: the resources on which BOOKED exceeds BOOKABLE. -/
def State.shortRes (s : State) : List Nat :=
  (List.range 182).filter (fun n => decide (s.fld ALM_CAP.BOOKABLE n < s.fld ALM_CAP.BOOKED n))

/-- R133: the resources on which BOOKED + HONOURED exceeds DERATED. -/
def State.overRes (s : State) : List Nat :=
  (List.range 182).filter (fun n =>
    decide (s.fld ALM_CAP.DERATED n < s.fld ALM_CAP.BOOKED n + s.fld ALM_CAP.HONOURED n))

/-- The unanswered ops of a tag that were admitted before a stamp (R132). -/
def State.opsBefore (s : State) (tag : Nat) (t : Stamp) : List Op :=
  s.liveOps.filter (fun o => o.tag == tag && decide (o.admitted < t))

/-- R131 and R132: a booking is revoked at the current stamp, T: it becomes honoured until the meridian after the latest
deadline of its tag's earlier ops, or leaves at once. -/
def State.revoke (s : State) (unit : Nat) (trig : Stamp) (b : Booking) : State :=
  let end_ := s.fld ALM_RECOMPUTE.STAMP 0
  let os := s.opsBefore b.tag end_
  let b' := { b with revoked := end_, honoured := !os.isEmpty, leave := end_,
                     honourEnd := if os.isEmpty then 0 else nextMeridian (latestDeadline os) }
  let s := b.touches.foldl State.refreshCap ((s.setBooking b').set ALM_EVT.REVOKED 0 1)
  (s.refreshTag b.tag).event 0x01 trig (leBytes 4 b.id ++ leBytes 1 stRevoked ++ leBytes 3 0 ++ leBytes 4 unit)
    { owner := some b.owner }

/-- R130 and R131: revokes until no resource is short. -/
def revokeAll (unit : Nat) (trig : Stamp) : Nat → State → State
  | 0, s => s
  | k + 1, s =>
    let short := s.shortRes
    match firstToGo (s.counted.filter (fun b => b.touches.any short.contains)) with
    | none => s
    | some b => revokeAll unit trig k (s.revoke unit trig b)

/-! ### BOOK -/

/-- R116, step 1: the checks of a booking record in ascending offset. -/
def bookChecks (p : List Byte) : List (Nat × Bool) :=
  let kind := leAt p 4 1
  [rsv p 0 4, (4, decide (3 < kind)), (5, leAt p 5 1 == 0 || decide (63 < leAt p 5 1)), (6, decide (7 < leAt p 6 1)),
   rsv p 7 1,
   (8, if kind = 0 then decide (7 < leAt p 8 1) else leAt p 8 1 != 0),
   (9, if kind = 0 then decide (15 < leAt p 9 1) else leAt p 9 1 != 0),
   (10, if kind = 1 then decide (63 < leAt p 10 1) else leAt p 10 1 != 0),
   rsv p 11 1,
   (12, if kind = 0 then leAt p 12 4 == 0 && leAt p 16 4 == 0 else leAt p 12 4 != 0),
   (16, kind != 0 && leAt p 16 4 != 0),
   (20, if kind = 0 then leAt p 20 4 != 0 else leAt p 20 4 == 0),
   rsv p 24 8, rsv p 32 8, rsv p 40 8, rsv p 48 16]

/-- The booking a record asks for, made by a mailbox at the present stamp; its frame is the one after the completion's
(R65). -/
def State.bookingOf (s : State) (c : Caller) (p : List Byte) : Booking where
  id := s.fld ALM_NEXT_ID.NEXT_ID 0
  kind := leAt p 4 1
  tag := leAt p 5 1
  prec := leAt p 6 1
  node := leAt p 8 1
  source := leAt p 9 1
  group := leAt p 10 1
  owner := c.box
  readU := leAt p 12 4
  writeU := leAt p 16 4
  amount := leAt p 20 4
  effFrame := frameOf s.stb + 1
  revoked := 0
  honourEnd := 0
  honoured := false
  unbookFrame := 0
  leave := 0
  withdrawn := false
  told := false

/-- R116, steps 2 and 3, and R61: why a well-formed booking is turned away. -/
def State.bookDenied (s : State) (c : Caller) (b : Booking) : Option Nat :=
  if b.prec = 7 ∧ c.secure = false then some stDeniedWorld
  else if b.kind = 1 ∧ (s.boxPort c.box).isSome ∧ (lookupKey b.group s.svc.groups).map SvcGroup.owner ≠ some c.box then
    some stDeniedWorld
  else if !c.secure && (match s.tagTenant b.tag with
      | some x => lookupKey x s.svc.managers != some c.box
      | none => false) then some stDeniedWorld
  else if c.secure = false ∧ s.is ALM_TAG_CFG.SECURE b.tag then some stDeniedWorld
  else if b.kind = 1 ∧ (lookupKey b.group s.svc.groups).isNone then some stNotFound
  else none

/-- Takes a booking in: its ID is used, its shares are placed, the capacities and its tag's settings are written. -/
def State.addBooking (s : State) (c : Caller) (b : Booking) : State :=
  let first := !(s.alm.books.any (fun x => x.tag == b.tag && s.heldBooking x))
  let s := ({ s with alm := { s.alm with books := s.alm.books ++ [b] } }).set ALM_NEXT_ID.NEXT_ID 0 (b.id + 1)
  let s := if b.kind = 1 then s.place b b.amount else s
  let s := b.touches.foldl State.refreshCap s
  let s := if first && c.secure then s.set ALM_TAG_CFG.SECURE b.tag 1 else s
  s.refreshTag b.tag

/-! ### UNBOOK, SET_PRECEDENCE and the queries -/

/-- R65 and R66: whether a booking's ID is known: its owner has not been told of a revocation, and no UNBOOK has taken effect. -/
def State.known (s : State) (b : Booking) : Bool :=
  !b.told && (b.unbookFrame == 0 || decide (frameOf s.stb < b.unbookFrame))

/-- R64 and R66: the booking that a mailbox names, if the mailbox may name it and the ID is still known. -/
def State.named (s : State) (c : Caller) (id : Nat) : Option Booking :=
  s.alm.books.find? (fun b => b.id == id && (b.owner == c.box || c.secure) && s.known b)

/-- Drops the bookings that are gone: neither held, nor revoked with the owner still to be told (R66). -/
def State.dropGone (s : State) : State :=
  let books := s.alm.books.filter (fun b => s.heldBooking b || (b.revoked != 0 && s.known b))
  let shares := s.alm.shares.filter (fun x => books.any (fun b => b.id == x.booking && s.heldBooking b))
  { s with alm := { s.alm with books := books, shares := shares } }

/-- R66: the owner has been told of a revocation. -/
def State.tell (s : State) (c : Caller) (b : Booking) : State :=
  if b.owner = c.box then (s.setBooking { b with told := true }).dropGone else s

/-- UNBOOK (R65, R66, R120). -/
def cmdUnbook (c : Caller) (p : List Byte) (s : State) : Reply :=
  paramChecks s [rsv p 4 4] fun _ =>
    match s.named c (leAt p 0 4) with
    | none => .no s stNotFound
    | some b =>
      if b.revoked ≠ 0 then .no (s.tell c b) stRevoked
      else .ok (s.setBooking { b with unbookFrame := frameOf s.stb + 1, leave := s.stb })

/-- SET_PRECEDENCE (R64, R120). -/
def cmdSetPrecedence (c : Caller) (p : List Byte) (s : State) : Reply :=
  paramChecks s [(4, decide (7 < leAt p 4 1)), rsv p 5 3] fun _ =>
    match s.named c (leAt p 0 4) with
    | none => .no s stNotFound
    | some b =>
      if b.revoked ≠ 0 then .no (s.tell c b) stRevoked
      else if leAt p 4 1 = 7 ∧ c.secure = false then .no s stDeniedWorld
      else .ok (s.setBooking { b with prec := leAt p 4 1 })

/-- R115: the 64 bytes of a booking record. -/
def State.bookRecord (s : State) (b : Booking) : List Byte :=
  leBytes 4 b.id ++ leBytes 1 b.kind ++ leBytes 1 b.tag ++ leBytes 1 b.prec ++
    leBytes 1 (flag (s.inForce b) + 2 * flag (b.revoked != 0) + 4 * flag b.honoured) ++ leBytes 1 b.node ++
    leBytes 1 b.source ++ leBytes 1 b.group ++ leBytes 1 b.owner ++ leBytes 4 b.readU ++ leBytes 4 b.writeU ++
    leBytes 4 b.amount ++ leBytes 8 b.effFrame ++ leBytes 8 b.revoked ++
    leBytes 8 (if b.honoured then b.honourEnd else 0) ++ leBytes 16 0

/-- QUERY_BOOKINGS (R66): the caller's bookings in the order of their IDs. DESIGN CHOICE (log 43): FIRST_INDEX counts in the bookings
that TAG leaves. -/
def cmdQueryBookings (c : Caller) (p : List Byte) (s : State) : Reply :=
  paramChecks s [(4, decide (63 < leAt p 4 1)), rsv p 5 3] fun _ =>
    let tag := leAt p 4 1
    let mine := s.alm.books.filter (fun b =>
      b.owner == c.box && s.known b && (tag == 0 || b.tag == tag))
    let some3 := (mine.drop (leAt p 0 4)).take 3
    let recs := (some3.map s.bookRecord).flatten
    .ok (some3.foldl (fun s b => if b.revoked = 0 then s else s.tell c b) s)
      (leBytes 4 mine.length ++ leBytes 4 some3.length ++ recs ++ leBytes (192 - 64 * some3.length) 0)

/-- QUERY_CAPACITY (R446) with the capacities of its keeper tick (R107). A group is an object of no port (R61); the other resources
are no objects (log 43). -/
def cmdQueryCapacity (c : Caller) (p : List Byte) (s : State) : Reply :=
  paramChecks s [(0, decide (5 < leAt p 0 1)), (1, (resEntry (leAt p 0 1) (leAt p 1 1)).isNone), rsv p 2 6] fun _ =>
    match resEntry (leAt p 0 1) (leAt p 1 1) with
    | none => .bad s 1
    | some n =>
      if leAt p 0 1 = 3 ∧ (s.boxPort c.box).isSome then .no s stDeniedWorld
      else if leAt p 0 1 = 3 ∧ (lookupKey (leAt p 1 1) s.svc.groups).isNone then .no s stNotFound
      else
        let k := s.capsFor c n
        .ok s (leBytes 4 (s.nominal n) ++ leBytes 4 k.2 ++ leBytes 4 (k.2 - k.1) ++ leBytes 4 k.1 ++ leBytes 4 (s.fld ALM_CAP.BOOKED n))

/-! ### The recompute -/

/-- Adds to the count of withdrawn ops of a group and an owner. -/
def addCount (k : Nat × Nat) : List ((Nat × Nat) × Nat) → List ((Nat × Nat) × Nat)
  | [] => [(k, 1)]
  | (k', n) :: r => if k = k' then (k, n + 1) :: r else (k', n) :: addCount k r

/-- R133: withdraws an honoured booking: its tag's earlier ops are answered OP_WITHDRAWN, and its meters and positions
leave at the next meridian. Answers the groups of the ops withdrawn. -/
def State.withdrawBooking (s : State) (b : Booking) : List Nat × State :=
  let os := (s.opsBefore b.tag s.stb).filter (fun o => o.part == 0 && o.due)
  let s := os.foldl (fun s o => s.withdraw o 1) s
  let s := s.setBooking { b with withdrawn := true, honourEnd := nextMeridian s.stb }
  let s := if os.isEmpty then s else s.set ALM_STATUS.WITHDRAWING 0 1
  (os.map Op.grp, (b.touches.foldl State.refreshCap s).set ALM_EVT.OVERLOAD 0 1)

/-- R133: withdraws until BOOKED + HONOURED fits on every resource. -/
def withdrawAll : Nat → List ((Nat × Nat) × Nat) → State → List ((Nat × Nat) × Nat) × State
  | 0, ws, s => (ws, s)
  | k + 1, ws, s =>
    let ovr := s.overRes
    match firstToGo (s.alm.books.filter (fun b => b.counted && !s.counts b && b.touches.any ovr.contains)) with
    | none => (ws, s)
    | some b =>
      let q := s.withdrawBooking b
      withdrawAll k (q.1.foldl (fun ws g => addCount (g, b.owner) ws) ws) q.2

/-- Writes an affected entry of ALM_CAP anew and announces a change of what can be booked of it (R135). -/
def State.recapEvent (trig : Stamp) (s : State) (n : Nat) : State :=
  let d := s.fld ALM_CAP.DERATED n
  let k := s.fld ALM_CAP.BOOKABLE n
  let s := if 116 ≤ n ∧ n < 180 then s.regroup (n - 116) else s.recapCap n
  let s := if d < s.fld ALM_CAP.DERATED n ∨ k < s.fld ALM_CAP.BOOKABLE n then s.set ALM_EVT.UPWARD 0 1 else s
  if k = s.fld ALM_CAP.BOOKABLE n ∧ d = s.fld ALM_CAP.DERATED n then s
  else s.event 0x02 trig (leBytes 1 (entryRes n).1 ++ leBytes 1 (entryRes n).2 ++ leBytes 2 0 ++
    leBytes 4 (s.fld ALM_CAP.BOOKABLE n))

/-- R131 to R134: what a loss takes: limits that have passed act first (R134), then bookings are revoked until no resource is short, and
withdrawn until every resource fits; the groups concerned are told. -/
def State.takeLoss (s : State) (unit : Nat) (trig : Stamp) (res : List Nat) : State :=
  let s := revokeAll unit trig (s.alm.books.length + 1) s.fireGuards
  let s := (res.filter (fun n => decide (116 ≤ n) && decide (n < 180))).foldl (fun (s : State) n => s.fillShares (n - 116)) s
  let q := withdrawAll (s.alm.books.length + 1) [] s
  q.1.foldl (fun s w => s.event 0x03 trig (leBytes 1 w.1.1 ++ leBytes 3 0 ++ leBytes 4 w.2) { owner := some w.1.2 }) q.2

/-- R129 to R135: the recompute ends at the current stamp T. -/
def State.recompute (s : State) : State :=
  match s.alm.trigs.reverse with
  | [] => s
  | last :: _ =>
    let res := ((s.alm.trigs.map Trigger.res).flatten).eraseDups
    let s : State := { s with alm := { s.alm with trigs := [], last := (last.unit, last.stamp) } }
    let s := s.count chipBank { code := 0x405 }
    let s := ((s.set ALM_RECOMPUTE.STAMP 0 s.stb).set ALM_EVT.RECOMPUTED 0 1).set ALM_STATUS.RECOMPUTING 0 0
    let s := res.foldl (State.recapEvent last.stamp) s
    (s.takeLoss last.unit last.stamp res).replaceStranded.dropGone

/-- A booking that the capacities of its keeper tick granted goes through a recompute that has ended since then (R107, R130). -/
def State.catchUp (s : State) (c : Caller) : State :=
  if c.caps.isEmpty then s else s.takeLoss s.alm.last.1 s.alm.last.2 []

/-- BOOK (R116). -/
def cmdBook (c : Caller) (p : List Byte) (s : State) : Reply :=
  paramChecks s (bookChecks p) fun _ =>
    let b := s.bookingOf c p
    match s.bookDenied c b with
    | some st => .no s st
    | none =>
      if 16384 ≤ (s.alm.books.filter s.heldBooking).length ∨ b.id = 0 ∨ s.fits c b = false then .no s stInsufficient
      else
        let s := s.addBooking c b
        let n := b.touches.headD 0
        .ok (s.catchUp c) (leBytes 4 b.id ++ leBytes 8 b.effFrame ++
          leBytes 4 ((s.capsFor c n).1 - s.fld ALM_CAP.BOOKED n))

/-- R71 and R77: whether a change of the units in service would have the recompute revoke a booking: the state `after` the
change is compared with what is booked. -/
def State.wouldRevoke (after : State) (res : List Nat) : Bool :=
  res.any (fun n => decide (after.bookableOf n (after.derate n) < after.bookedOn n))

end Sys2Proof.Machine
end

