-- ==== Sys2Proof/Machine/CoreOps.lean ====
section
/-! DEFINITION. Harts: their records, their worlds, and taking a trap (R170, R318, R323; the entry itself is that of the
RISC-V Privileged Architecture, which R170 names, log 14). -/

namespace Sys2Proof.Machine

/-- A hart before its release (R433). -/
def Hart.init : Hart := ⟨0, 3, false, none, [], false, false, false, false, false, 0, none⟩

/-- A hart's record. -/
def State.hart (s : State) (h : Nat) : Hart := nget s.harts h Hart.init

/-- Sets a hart's record. -/
def State.setHart (s : State) (h : Nat) (x : Hart) : State := { s with harts := nputd s.harts h x Hart.init }

/-- Sets the program counter of a hart. -/
def State.setPc (s : State) (h : Nat) (v : Word) : State := s.setHart h { s.hart h with pc := v }

/-- R329: the instruction of a hart that is single-stepped has executed, or has trapped. -/
def State.stepped (s : State) (h : Nat) : State := if (s.hart h).step = 1 then s.setHart h { s.hart h with step := 2 } else s

/-! ### Debug triggers (R170): their formats are those of RISC-V External Debug Support (PRESUMED, log 14) -/

/-- The place of a register of trigger `i` of a hart. -/
def trigCsr (i n : Nat) : Nat := 0x4000000 + 0x1000 * i + n

/-- A register of a trigger. -/
def State.trig (s : State) (h i n : Nat) : Nat := (s.csr h (trigCsr i n)).toNat

/-- The bit of a trigger that selects a hart's mode, of those for M, S or HS, U, VS and VU. -/
def Hart.modeBit (x : Hart) (m sv u vs vu : Nat) : Nat :=
  if x.priv = 3 then m else if x.virt then (if x.priv = 1 then vs else vu) else if x.priv = 1 then sv else u

/-- The triggers of a hart of a type whose bit for a mode is set. -/
def State.trigsOf (s : State) (h type bit : Nat) : List Nat :=
  (List.range 8).filter (fun i => bitsOf (s.trig h i 0x7A1) 60 4 == type && (s.trig h i 0x7A1).testBit bit)

/-- An instruction count trigger counts an instruction that its hart has completed. -/
def State.countIns (s : State) (h : Nat) : State :=
  (s.trigsOf h 3 ((s.hart h).modeBit 9 7 6 26 25)).foldl (fun (s : State) i =>
    let t := s.trig h i 0x7A1
    let n := bitsOf t 10 14
    if n = 0 then s
    else
      let t := t - n * 1024 + (n - 1) * 1024
      s.setCsr h (trigCsr i 0x7A1) (BitVec.ofNat 64 (if n = 1 then withBit t 8 else t))) s

/-- Moves a hart past an instruction of `n` bytes. -/
def State.nextPc (s : State) (h n : Nat) : State :=
  if (s.hart h).halted then s else ((s.setPc h ((s.hart h).pc + BitVec.ofNat 64 n)).countIns h).stepped h

/-- The world a hart's requests carry (MWORLD.WORLD). -/
def State.hartSecure (s : State) (h : Nat) : Bool := s.is MWORLD.WORLD h

/-! ### Clocks of blocks (R326, R327) -/

/-- Whether a secure vote is set on a block or its region. -/
def State.secureVote (s : State) (i : Nat) : Bool :=
  s.is WLD_BLK_SEC.SVOTE i || (decide (i < 136) && s.is WLD_BLK_SEC.SVOTE (136 + i / 8))

/-- R327: whether a block, at 8 × level + block, is held. -/
def State.blkHeld (s : State) (i : Nat) : Bool :=
  (decide (i / 8 < 12) && s.blockSecure (i / 8) (i % 8)) || s.secureVote i

/-- WLD_BLK_STATE.GATED: whether a block's clock is gated. -/
def State.blkGated (s : State) (i : Nat) : Bool := s.is WLD_BLK_SEC.SGATE i || (!(s.blkHeld i) && s.is BLK_CLK_CTRL.GATE i)

/-- Whether a hart executes: its core is in service, released, neither halted nor stopped, its block's clock is not gated, and
Nightfall has not halted it (R195, R198, R327, R329, R400). -/
def State.hartRuns (s : State) (h : Nat) : Bool :=
  decide (h < 288) && !s.nf.triggered && s.coreUp h && (s.hart h).released && !(s.hart h).halted && !(s.units.testing.contains h) &&
    s.fld CORE_PAIR.STATE h != 3 && !(s.blkGated (8 * (h / 24) + h % 24 / 4))

/-- CSR numbers of the Privileged Architecture. -/
def csrMstatus : Nat := 0x300
def csrMedeleg : Nat := 0x302
def csrMideleg : Nat := 0x303
def csrMie : Nat := 0x304
def csrMtvec : Nat := 0x305
def csrMepc : Nat := 0x341
def csrMcause : Nat := 0x342
def csrMtval : Nat := 0x343
def csrMip : Nat := 0x344
def csrMtval2 : Nat := 0x34B
def csrStvec : Nat := 0x105
def csrSepc : Nat := 0x141
def csrScause : Nat := 0x142
def csrStval : Nat := 0x143
def csrHstatus : Nat := 0x600
def csrHedeleg : Nat := 0x602
def csrHtval : Nat := 0x643
def csrMtinst : Nat := 0x34A
def csrHtinst : Nat := 0x64A
def csrVsstatus : Nat := 0x200
def csrVstvec : Nat := 0x205
def csrVsepc : Nat := 0x241
def csrVscause : Nat := 0x242
def csrVstval : Nat := 0x243

/-- Sets bits of a CSR. -/
def State.csrBits (s : State) (h n lo w v : Nat) : State := s.setCsr h n (wset (s.csr h n) lo w v)

/-- A floating-point or vector control register makes its unit's state dirty. -/
def State.dirtyUnit (s : State) (h n : Nat) : State :=
  let lo := if n ≤ 3 then 13 else 9
  let s := s.csrBits h csrMstatus lo 2 3
  if (s.hart h).virt then s.csrBits h csrVsstatus lo 2 3 else s

/-- The target of a trap vector: its base, and in vectored mode the entry of an interrupt's cause. -/
def vectorOf (tvec : Word) (cause : Nat) (intr : Bool) : Word :=
  (tvec &&& ~~~ (3 : Word)) + (if intr ∧ wbits tvec 0 2 = 1 then BitVec.ofNat 64 (4 * cause) else 0)

/-- The word of a cause register. -/
def causeWord (cause : Nat) (intr : Bool) : Word := BitVec.ofNat 64 (cause + (if intr then 2 ^ 63 else 0))

/-- Whether a trap's xtval is a guest virtual address, as the GVA bits of mstatus and hstatus have it: an address of a fetch or data
access that a guest's translation serves. -/
def State.guestVa (s : State) (h cause : Nat) (intr : Bool) : Bool :=
  let x := s.hart h
  let st := s.csr h csrMstatus
  let mprv := x.priv == 3 && wbits st 17 1 == 1 && wbits st 39 1 == 1 && wbits st 11 2 != 3
  !intr && ([0, 1, 12, 20].contains cause && x.virt || [4, 5, 6, 7, 13, 15, 21, 23, 24, 25, 26].contains cause && (x.virt || mprv))

/-- mstatus as a trap into M mode leaves MPP, MPV, MPIE and MIE. -/
def State.mStack (s : State) (h : Nat) : Word :=
  let st := s.csr h csrMstatus
  wset (wset (wset (wset st 11 2 (s.hart h).priv) 39 1 (flag (s.hart h).virt)) 7 1 (wbits st 3 1)) 3 1 0

/-- The status of a trap into M mode: MPP, MPV, GVA, MPIE and MIE, and its registers. -/
def State.mEntry (s : State) (h : Nat) (cause : Nat) (intr : Bool) (tval tval2 tinst : Word) : State :=
  let x := s.hart h
  ((((((s.setCsr h csrMstatus (wset (s.mStack h) 38 1 (flag (s.guestVa h cause intr)))).setCsr h csrMepc x.pc).setCsr h csrMcause
    (causeWord cause intr)).setCsr h csrMtval tval).setCsr h csrMtval2 tval2).setCsr h csrMtinst tinst)

/-- A trap into M mode, at its vector or at the trap address of the open gate frame, in the secure world (R323). -/
def State.trapM (s : State) (h cause : Nat) (intr : Bool) (tval tval2 tinst : Word) : State :=
  let t := s.mEntry h cause intr tval tval2 tinst
  let pc := if s.is CORE_WFRAME.OPEN h
    then BitVec.ofNat 64 (4 * s.fld WLD_GATE.TRAP (s.fld CORE_WFRAME.GATE h))
    else vectorOf (s.csr h csrMtvec) cause intr
  let t := if s.is CORE_WFRAME.OPEN h then t.toWorld h 1 else t
  (t.setHart h { s.hart h with pc := pc, priv := 3, virt := false, resv := none, waiting := false, stalled := false }).stepped h

/-- A trap into HS mode. -/
def State.trapS (s : State) (h cause : Nat) (intr : Bool) (tval tval2 tinst : Word) : State :=
  let x := s.hart h
  let st := s.csr h csrMstatus
  let st := wset (wset (wset st 8 1 x.priv) 5 1 (wbits st 1 1)) 1 1 0
  let hs := wset (s.csr h csrHstatus) 6 1 (flag (s.guestVa h cause intr))
  let hs := if x.virt then wset (wset hs 7 1 1) 8 1 x.priv else wset hs 7 1 0
  let t := ((((((s.setCsr h csrMstatus st).setCsr h csrHstatus hs).setCsr h csrSepc x.pc).setCsr h csrScause
    (causeWord cause intr)).setCsr h csrStval tval).setCsr h csrHtval tval2).setCsr h csrHtinst tinst
  (t.setHart h { x with pc := vectorOf (s.csr h csrStvec) cause intr, priv := 1, virt := false, resv := none,
                        waiting := false, stalled := false }).stepped h

/-- A trap into VS mode. -/
def State.trapVS (s : State) (h cause : Nat) (intr : Bool) (tval : Word) : State :=
  let x := s.hart h
  let st := s.csr h csrVsstatus
  let st := wset (wset (wset st 8 1 x.priv) 5 1 (wbits st 1 1)) 1 1 0
  let t := (((s.setCsr h csrVsstatus st).setCsr h csrVsepc x.pc).setCsr h csrVscause (causeWord cause intr)).setCsr h
    csrVstval tval
  (t.setHart h { x with pc := vectorOf (s.csr h csrVstvec) cause intr, priv := 1, resv := none, waiting := false, stalled := false }).stepped h

/-- An exception of a hart at its program counter: delegated by medeleg and hedeleg, but that bits 24 to 26 of hedeleg
read 0 (R203, R318), and that an open gate frame takes every exception in M mode (R323). -/
def State.exceptPlain (s : State) (h cause : Nat) (tval tval2 tinst : Word) : State :=
  let x := s.hart h
  if x.halted then s
  else if s.is CORE_WFRAME.OPEN h ∨ x.priv = 3 ∨ (s.csr h csrMedeleg).toNat.testBit cause = false then
    s.trapM h cause false tval tval2 tinst
  else if x.virt ∧ (s.csr h csrHedeleg).toNat.testBit cause ∧ ¬ (24 ≤ cause ∧ cause ≤ 26) then
    s.trapVS h cause false tval
  else s.trapS h cause false tval tval2 tinst

/-- R329: whether the invasive enable of a hart's world applies to it. -/
def State.debugApplies (s : State) (h : Nat) : Bool :=
  let w := flag (s.hartSecure h)
  s.is WLD_DEBUG.INVASIVE w && unitWithin (s.fld WLD_DEBUG.SCOPE w) (coreColl h).unit

/-- The bits of dcsr that a debugger writes: ebreakvs, ebreakvu, ebreakm, ebreaks, ebreaku, stepie, v, mprven, step and prv. -/
def dcsrMask : Nat := 0x3B837

/-- A hart enters debug mode for a cause of dcsr: dpc, cause, v and prv say where it stood, and it executes what a debugger has it execute in
M mode. -/
def State.enterDebug (s : State) (h cause : Nat) : State :=
  let x := s.hart h
  let kept := (s.csr h 0x7B0).toNat &&& (dcsrMask - 0x23)
  let s := (s.setCsr h 0x7B1 x.pc).setCsr h 0x7B0 (BitVec.ofNat 64 (0x40000000 + kept + cause * 64 + 32 * flag x.virt + x.priv))
  s.setHart h { x with priv := 3, virt := false, waiting := false, stalled := false, halted := true, haltPend := false, step := 0 }

/-- A halted hart goes on at its dpc in the mode that dcsr names, as by a resume request; with dcsr.step it executes one instruction. -/
def State.resumeHart (s : State) (h : Nat) : State :=
  let d := (s.csr h 0x7B0).toNat
  let p := if d % 4 = 2 then 0 else d % 4
  s.setHart h { s.hart h with halted := false, pc := s.csr h 0x7B1, priv := p, virt := d.testBit 5 && p != 3, step := flag (d.testBit 2) }

/-- R329: whether a debugger can have a halted hart execute an instruction, by an abstract command or from the program buffer: while the
invasive enable of its world applies, and no access of it is in flight. -/
def State.debugRuns (s : State) (h : Nat) : Bool :=
  decide (h < 288) && (s.hart h).halted && s.debugApplies h && s.coreUp h && !s.nf.triggered && (lookupKey h s.fab.misses).isNone

/-- Whether a trigger may act on a hart: action 0 not in M mode while interrupts are off, action 1 where the invasive enable applies. -/
def State.mayFire (s : State) (h action : Nat) : Bool :=
  !(s.hart h).halted && match action with
  | 0 => (s.hart h).priv != 3 || (s.csr h csrMstatus).toNat.testBit 3
  | 1 => s.debugApplies h
  | _ => false

/-- A trigger that has matched acts: action 0 raises a breakpoint, action 1 enters debug mode. -/
def State.fireTrigger (s : State) (h i action : Nat) (tval : Word) : State :=
  let hit := fun (s : State) => s.setCsr h (trigCsr i 0x7A1) (BitVec.ofNat 64 (withBit (s.trig h i 0x7A1) 22))
  if s.mayFire h action = false then s
  else if action = 0 then (hit s).exceptPlain h 3 tval 0 0
  else (hit s).enterDebug h 2

/-- The harts with an instruction count trigger that is to fire. -/
def State.counters (s : State) : List Nat :=
  ((s.csrs.filter (fun q => decide (0x4000000 ≤ q.1.2) && bitsOf q.2.toNat 60 4 == 3 && q.2.toNat.testBit 8)).map (fun q => q.1.1)).eraseDups

/-- The first instruction count trigger of a hart that is pending fires. -/
def State.fireCount (s : State) (h : Nat) : State :=
  match (List.range 8).find? (fun i => bitsOf (s.trig h i 0x7A1) 60 4 == 3 && (s.trig h i 0x7A1).testBit 8) with
  | some i =>
    let t := s.trig h i 0x7A1
    (s.setCsr h (trigCsr i 0x7A1) (BitVec.ofNat 64 (withoutBit t 8))).fireTrigger h i (bitsOf t 0 6) 0
  | none => s

/-- The interrupt and exception triggers that a trap of a hart in mode `x` matches: the first fires before the handler's first
instruction. -/
def State.trapTriggers (s : State) (h : Nat) (x : Hart) (intr : Bool) (cause : Nat) : State :=
  match (s.trigsOf h (if intr then 4 else 5) (x.modeBit 9 7 6 12 11)).find? (fun i => (s.trig h i 0x7A2).testBit cause) with
  | some i => s.fireTrigger h i (bitsOf (s.trig h i 0x7A1) 0 6) 0
  | none => s

/-- Whether an address trigger's comparison holds for an access of `n` bytes. -/
def State.trigMatches (s : State) (h i va n : Nat) : Bool :=
  let t := s.trig h i 0x7A1
  let v := s.trig h i 0x7A2
  !(t.testBit 21) && (match bitsOf t 7 4 with
    | 0 => decide (va ≤ v) && decide (v < va + n)
    | 1 =>
      let k := ((List.range 64).find? (fun b => !(v.testBit b))).getD 63
      v / 2 ^ (k + 1) == va / 2 ^ (k + 1)
    | 2 => decide (v ≤ va)
    | 3 => decide (va < v)
    | _ => false)

/-- The address trigger that an access of a hart matches, with its chain: `bits` are the bits of the kinds of the access (2 execute, 1 store,
0 load). -/
def State.addressTrigger (s : State) (h va n : Nat) (bits : List Nat) : Option Nat :=
  let mode := (s.hart h).modeBit 6 4 3 24 23
  let on := fun (i : Nat) =>
    let t := s.trig h i 0x7A1
    bitsOf t 60 4 == 6 && t.testBit mode && bits.any t.testBit && s.mayFire h (bitsOf t 12 4) && s.trigMatches h i va n
  let chained := fun (i : Nat) => (s.trig h i 0x7A1).testBit 11
  ((List.range 8).foldl (fun (q : Option Nat × Bool) i =>
    let here := on i && q.2
    if chained i then (q.1, here) else (if here && q.1.isNone then some i else q.1, true)) (none, true)).1

/-- A TNEXT that raises an exception has had no effect: the op it was offered stays queued (R154, R174). -/
def State.dropOffer (s : State) (h : Nat) : State :=
  if (s.run h).tnext.isSome then s.setRun h { s.run h with tnext := none, offer := none } else s

/-- An exception of a hart at its pc, and the exception trigger that it matches. -/
def State.except (s : State) (h cause : Nat) (tval : Word) (tval2 : Word := 0) (tinst : Word := 0) : State :=
  ((s.dropOffer h).exceptPlain h cause tval tval2 tinst).trapTriggers h (s.hart h) false cause

end Sys2Proof.Machine
end

