-- ==== Sys2Proof/Machine/KeeperOps.lean ====
section
/-! DEFINITION. Mailbox windows (R41 to R46), the command catalogue's lengths and bounds (R57, R62), and taking a command
(R47 to R51). -/

namespace Sys2Proof.Machine

/-! ### The catalogue -/

/-- R57 and R62: the LENGTH that the catalogue defines for an opcode, given the payload; none for an undefined opcode. -/
def catalogLength (op : Nat) (p : List Byte) : Option Nat :=
  match op with
  | 0x0000 => some 0 | 0x0001 => some 0 | 0x0002 => some 8
  | 0x0100 => some 64 | 0x0101 => some 8 | 0x0102 => some 8 | 0x0103 => some 8 | 0x0104 => some 8
  | 0x0200 => some 16 | 0x0201 => some 40 | 0x0202 => some 32 | 0x0203 => some 8 | 0x0204 => some 8
  | 0x0300 => some 8 | 0x0301 => some 8
  | 0x0400 => some 16 | 0x0401 => some 8 | 0x0402 => some 24 | 0x0403 => some 8 | 0x0404 => some 8
  | 0x0500 => some 16 | 0x0501 => some 8 | 0x0502 => some 8 | 0x0503 => some 8 | 0x0504 => some 8
  | 0x0600 => some 16 | 0x0601 => some 16 | 0x0602 => some 8
  | 0x0700 => some 16 | 0x0701 => some 0
  | 0x0800 => some (48 + 12 * leAt p 0 1) | 0x0801 => some 0 | 0x0802 => some 8 | 0x0803 => some 0
  | 0x0900 => some 16 | 0x0901 => some 8 | 0x0902 => some 8 | 0x0903 => some 16
  | 0x0A00 => some 24 | 0x0A01 => some 8 | 0x0A02 => some 8
  | 0x0B00 => some 8 | 0x0B01 => some 0 | 0x0B02 => some 8
  | 0x0C00 => some (if leAt p 0 1 = 1 then 136 else 8) | 0x0C01 => some 8
  | 0x0D00 => some (if leAt p 8 1 = 0 then 24 + leAt p 4 4 else 24) | 0x0D01 => some 8
  | 0x0E00 => some 16
  | _ => none

/-- R62: the commands of world S. -/
def secureOnly (op : Nat) : Bool :=
  op == 0x0400 || op == 0x0401 || op == 0x0403 || op == 0x0404 || op == 0x0503 || op == 0x0504 || op == 0x0601 ||
  op == 0x0700 || op == 0x0800 || op == 0x0802 || op == 0x0803 || op == 0x0900 || op == 0x0901 || op == 0x0902 ||
  op == 0x0903 || op == 0x0D00 || op == 0x0D01

/-- The ticks from a doorbell stamp to the latest deadline of a list of unanswered ops; 0 when there are none (R51). -/
def deadlineTicks (os : List Op) (from_ : Stamp) : Nat := latestDeadline os - from_

/-- R51 and R62: the bound of a command in ticks after its doorbell stamp, evaluated when it is taken. -/
def State.boundOf (s : State) (op : Nat) (p : List Byte) (stamp : Stamp) : Nat :=
  match op with
  | 0x0000 => usTicks 20 | 0x0001 => usTicks 20 | 0x0002 => usTicks 50
  | 0x0100 => usTicks 20 | 0x0101 => usTicks 20 | 0x0102 => usTicks 50 | 0x0103 => usTicks 20 | 0x0104 => usTicks 20
  | 0x0200 => usTicks 50 | 0x0201 => usTicks 100 | 0x0202 => usTicks 100 | 0x0203 => usTicks 100
  | 0x0204 => usTicks 100 + deadlineTicks (s.liveOps.filter (fun o => o.grp == leAt p 0 1)) stamp
  | 0x0300 => msTicks 1 | 0x0301 => msTicks 1
  | 0x0400 => msTicks (ceilDiv (leAt p 4 4) 1024 + 1)
  | 0x0401 => msTicks 2 | 0x0402 => usTicks 100 | 0x0403 => usTicks 100 | 0x0404 => msTicks 60000
  | 0x0500 => usTicks 100 | 0x0501 => usTicks 20 | 0x0502 => msTicks 10 | 0x0503 => msTicks 100 | 0x0504 => msTicks 1000
  | 0x0600 => usTicks 50 | 0x0601 => usTicks 50 | 0x0602 => usTicks 50
  | 0x0700 => msTicks 3000 | 0x0701 => usTicks 20
  | 0x0800 => usTicks 100 | 0x0801 => usTicks 20 | 0x0802 => msTicks 100 | 0x0803 => usTicks 100
  | 0x0900 => msTicks 2000 | 0x0901 => msTicks 500 | 0x0902 => usTicks 100 | 0x0903 => msTicks 10
  | 0x0A00 => usTicks 100
  | 0x0A01 =>
    usTicks 100 + deadlineTicks (s.liveOps.filter (fun o => match s.chan o.ch with
      | some c => c.srcKind == 1 && c.port == leAt p 0 1 && c.fn == leAt p 2 2
      | none => false)) stamp + 4 * usTicks (s.fld PCIE_PORT_STATUS.CPL_TO_US (leAt p 0 1))
  | 0x0A02 => usTicks 100
  | 0x0B00 => msTicks 1 | 0x0B01 => usTicks 20 | 0x0B02 => msTicks 1
  | 0x0C00 => msTicks 10 | 0x0C01 => usTicks 100
  | 0x0D00 => msTicks 200
  | 0x0D01 => if leAt p 0 1 = 1 then msTicks 50 else usTicks 100
  | _ => usTicks 50

/-- Whether R37 holds: the keeper holds FAULT_N for it. -/
def State.r37 (s : State) : Bool := (s.fld CHIP_SAFE.FAULT_N_BY 0).testBit 2

/-- R37, R50, R54, R57 and R60: the generic checks of a command entry, in the order flags and reserved bytes, sequence,
opcode, length, world, R37 (log 20). -/
def State.genericCheck (s : State) (m : Nat) (e : List Byte) : Option Final :=
  let op := leAt e 0 2
  let p := (e.drop 16).take (min (leAt e 2 2) 240)
  if leAt e 8 4 ≠ 0 then some ⟨stBadParam, 0xFFFF, []⟩
  else if leAt e 4 4 ≠ s.fld MBX_SEQ.SEQ_EXPECT m then some ⟨stBadParam, 0xFFFF, []⟩
  else
    match catalogLength op p with
    | none => some ⟨stBadOpcode, 0, []⟩
    | some n =>
      if leAt e 2 2 ≠ n ∨ 240 < n then some ⟨stBadLength, 0xFFFF, []⟩
      else if secureOnly op ∧ 4 ≤ m then some ⟨stDeniedWorld, 0, []⟩
      else if s.r37 ∧ op ≠ 0 ∧ op ≠ 1 then some ⟨stDegraded, 0, []⟩
      else none

/-- R48 and R49: the keeper tick of a mailbox's first command, where the mailbox presents it: it is READY, its completion ring has 2 free
entries, and the tick is over, so that no mailbox of a lower number can still come before it. DESIGN CHOICE (log 44): a mailbox whose ring
lacks the entries presents nothing. -/
def State.presented (s : State) (m : Nat) : Option Nat :=
  let b := s.box m
  match b.waiting with
  | e :: _ =>
    if s.is MBX_STATUS.READY m ∧ b.resetting = false ∧ s.cmpUsed m ≤ 14 ∧ keeperTick e.stamp < keeperTick s.stb then some (keeperTick e.stamp)
    else none
  | [] => none

/-- R49: whether the previous command of a mailbox has received a final or an ST_PENDING completion. -/
def State.takeable (s : State) (m : Nat) : Bool := (s.box m).taken.all (fun k => k.pended || k.discard)

/-- R48: the mailbox whose command the keeper takes: the first by keeper tick of the doorbell stamp, then mailbox number. None while the
mailbox of that command still waits for its previous one. -/
def State.firstBox (s : State) : Option Nat :=
  match firstBy (fun m => (s.presented m).getD 0 * 64 + m) ((List.range 64).filter (fun m => (s.presented m).isSome)) with
  | some m => if s.takeable m then some m else none
  | none => none

/-! ### Mailbox windows -/

/-- R42 and R43: whether an access's path is the mailbox's own. -/
def State.pathOk (s : State) (m : Nat) (v : Via) : Bool :=
  match v with
  | .core _ sec => s.fld MBX_CFG.PATH m == 0 && (sec || decide (4 ≤ m))
  | .endpoint p => s.fld MBX_CFG.PATH m == 1 && s.fld MBX_CFG.PORT m == p
  | .sideband => s.fld MBX_CFG.PATH m == 2

/-- The address of a window (R41). -/
def windowAddr (m off : Nat) : Nat := 0xFFF0000200000 + 0x4000 * m + off

/-- R42 and R45: what an access by another path does: a normal-world core access to a secure mailbox raises cause 26; any
other sets PATH_VIOLATION and raises a NOTE, to the secure collector for mailboxes 0 to 3 and else under R447. -/
def State.pathViolation (s : State) (m off : Nat) (v : Via) : State :=
  match v with
  | .core h false =>
    if m < 4 then s.except h 26 (BitVec.ofNat 64 (windowAddr m off))
    else (s.set MBX_ERR.PATH_VIOLATION m 1).note41 mailboxUnit (windowAddr m off)
  | _ =>
    let s := s.set MBX_ERR.PATH_VIOLATION m 1
    if m < 4 then s.noteSecure FLT_SECURE.PATH_VIOLATION mailboxUnit (windowAddr m off)
    else s.note41 mailboxUnit (windowAddr m off)

/-- The 256 bytes of a completion entry (R55). -/
def Cmp.bytes (c : Cmp) : List Byte :=
  leBytes 2 c.opcode ++ leBytes 2 c.result.length ++ leBytes 4 c.seq ++ leBytes 1 c.status ++ leBytes 1 (flag c.last) ++
    leBytes 2 c.detail ++ leBytes 4 c.token ++ c.result

/-- The 128 bytes of an event entry (R56). -/
def Evt.bytes (e : Evt) : List Byte :=
  leBytes 2 e.code ++ leBytes 2 e.payload.length ++ leBytes 4 e.seq ++ leBytes 8 e.stamp ++ e.payload

/-- The 256 bytes of a command slot. -/
def Mailbox.slot (b : Mailbox) (i : Nat) : List Byte :=
  (List.range 256).map (fun j => nget b.ring (256 * i + j) 0)

/-- R41: 8 bytes of a window. -/
def State.windowRead (s : State) (m off : Nat) : Word :=
  let b := s.box m
  if off < 0x100 then
    match off with
    | 0x00 => s.word .MBX_STATUS m 0
    | 0x10 => s.word .MBX_CMP_HEAD m 0
    | 0x18 => s.word .MBX_EVT_HEAD m 0
    | 0x20 => s.word .MBX_SEQ m 0
    | 0x28 => s.word .MBX_CFG m 0
    | 0x30 => s.word .MBX_IRQ m 0
    | 0x38 => s.word .MBX_EVT_MASK m 0
    | 0x40 => s.word .MBX_ERR m 0
    | _ => 0
  else if off < 0x1000 then 0
  else if off < 0x2000 then BitVec.ofNat 64 (leNat ((List.range 8).map (fun j => nget b.ring (off - 0x1000 + j) 0)))
  else if off < 0x3000 then
    match lookupKey ((off - 0x2000) / 256) b.cmps with
    | some c => BitVec.ofNat 64 (leAt c.bytes ((off - 0x2000) % 256) 8)
    | none => 0
  else
    match lookupKey ((off - 0x3000) / 128) b.evts with
    | some e => BitVec.ofNat 64 (leAt e.bytes ((off - 0x3000) % 128) 8)
    | none => 0

/-- R386: IDLE ends. -/
def State.endIdle (s : State) : State :=
  if s.is PPM_STATUS.IDLE 0 then ({ s with pow := { s.pow with asleep := [], quiet := 0 } }).set PPM_STATUS.IDLE 0 0 else s

/-- R47 and R434: the command doorbell. Before READY is set, during a mailbox reset, or with a tail moved backwards it is
ignored with BAD_DOORBELL; beyond 16 outstanding commands with RING_OVERRUN. Else it stamps and copies the new entries. -/
def State.doorbell (s : State) (m tail : Nat) : State :=
  let b := s.box m
  let head := s.fld MBX_STATUS.CMD_HEAD m
  let n := (tail % 32 + 32 - head) % 32
  if b.resetting ∨ s.fld MBX_STATUS.READY m = 0 then s.set MBX_ERR.BAD_DOORBELL m 1
  else if 16 < n then s.set MBX_ERR.RING_OVERRUN m 1
  else if n < b.waiting.length then s.set MBX_ERR.BAD_DOORBELL m 1
  else
    let new := (List.range (n - b.waiting.length)).map (fun i =>
      (⟨b.slot ((head + b.waiting.length + i) % 16), s.stb, 0⟩ : CmdEntry))
    let s : State := { s with pow := { s.pow with active := true } }
    s.endIdle.setBox m { b with waiting := b.waiting ++ new }

/-- R52: the mailbox reset begins: commands not yet taken are discarded, those taken run on with their completions
discarded, the pointers, EVT_LOST, SEQ_EXPECT and MBX_ERR become 0, and READY is 0 until the reset ends. -/
def State.boxReset (s : State) (m : Nat) : State :=
  let b := s.box m
  let s := s.setBox m { b with waiting := [], cmps := [], evts := [], evtSeq := 0, resetting := true,
                               taken := b.taken.map (fun k => { k with discard := true }) }
  let s := (((s.setWord .MBX_STATUS m 0 (wset 0 33 1 (s.fld MBX_STATUS.KEEPER_RESTART m))).setWord .MBX_CMP_HEAD m 0
    0).setWord .MBX_EVT_HEAD m 0 0).setWord .MBX_SEQ m 0 0
  (s.setWord .MBX_ERR m 0 0).alertRelease

/-- R49: a write of the completion consumer head: ignored with BAD_POINTER beyond the tail; else it frees entries, and held
final completions are written. -/
def State.cmpHead (s : State) (m head : Nat) : State :=
  let old := s.fld MBX_CMP_HEAD.CMP_HEAD m
  if s.cmpUsed m < (head % 32 + 32 - old) % 32 then s.set MBX_ERR.BAD_POINTER m 1
  else
    let s := (s.set MBX_CMP_HEAD.CMP_HEAD m head).alertRelease
    if s.keeper.restarting.isSome then s else s.flushBox m

/-- R53: a write of the event consumer head: ignored with BAD_POINTER beyond the tail; else it frees entries, after which
EV_EVENTS_LOST is written with the count. -/
def State.evtHead (s : State) (m head : Nat) : State :=
  let old := s.fld MBX_EVT_HEAD.EVT_HEAD m
  if s.evtUsed m < (head % 64 + 64 - old) % 64 then s.set MBX_ERR.BAD_POINTER m 1
  else
    let s := (s.set MBX_EVT_HEAD.EVT_HEAD m head).alertRelease
    if s.keeper.restarting.isSome then s else s.lostEvent m

/-- A write of MBX_IRQ; a reserved encoding of HART or FILE keeps the field (R8). -/
def State.irqWrite (s : State) (m v : Nat) : State :=
  let s := ((s.set MBX_IRQ.CMP_EN m (bitsOf v 0 1)).set MBX_IRQ.EVT_EN m (bitsOf v 1 1)).set MBX_IRQ.GUEST m (bitsOf v 13 6)
  let s := s.set MBX_IRQ.EIID m (bitsOf v 19 11)
  let s := if bitsOf v 2 9 < 288 then s.set MBX_IRQ.HART m (bitsOf v 2 9) else s
  if bitsOf v 11 2 < 3 then s.set MBX_IRQ.FILE m (bitsOf v 11 2) else s

/-- R41: a write of 8 bytes into a window whose path is right. The completion and event rings take no write. -/
def State.windowWrite (s : State) (m off v : Nat) : State :=
  if off < 0x100 then
    match off with
    | 0x08 => if v.testBit 63 then s.boxReset m else s.doorbell m (bitsOf v 0 5)
    | 0x10 => s.cmpHead m (bitsOf v 0 5)
    | 0x18 => s.evtHead m (bitsOf v 0 6)
    | 0x30 => s.irqWrite m v
    | 0x38 => s.set MBX_EVT_MASK.EVT_EN m (bitsOf v 1 63)
    | 0x40 => [MBX_ERR.RING_OVERRUN, MBX_ERR.BAD_DOORBELL, MBX_ERR.BAD_POINTER, MBX_ERR.PATH_VIOLATION].foldl
        (fun (s : State) F => if v.testBit F.lo then s.clearBit F m else s) s
    | _ => s
  else if 0x1000 ≤ off ∧ off < 0x2000 then
    let b := s.box m
    s.setBox m { b with ring := ((List.range 8).foldl (fun r j =>
      nputd r (off - 0x1000 + j) (BitVec.ofNat 8 (v / 256 ^ j)) 0) b.ring) }
  else s

/-- An access to a window by a path: a violation where the path is not its own; else a read. -/
def State.windowLoad (s : State) (m off : Nat) (v : Via) : Word × State :=
  if s.pathOk m v then (s.windowRead m off, s) else (0, s.pathViolation m off v)

/-- A write to a window by a path. -/
def State.windowStore (s : State) (m off x : Nat) (v : Via) : State :=
  if s.pathOk m v then s.windowWrite m off x else s.pathViolation m off v

/-- R336: an endpoint port out of its fundamental reset is ready once its mailbox is. -/
def State.portsReady (s : State) : State :=
  (List.range 8).foldl (fun (s : State) p =>
    if s.fld PCIE_PORT_STATUS.ROLE p = 2 ∧ s.pins.epPerst.testBit p ∧
        (List.range 64).any (fun m => s.fld MBX_CFG.PATH m == 1 && s.fld MBX_CFG.PORT m == p && s.is MBX_STATUS.READY m) then
      s.set PCIE_PORT_STATUS.EP_READY p 1
    else s) s

/-- R347: the BST of an endpoint port is due to be rebuilt; what follows the command builds it. -/
def State.rebuildBst (s : State) (p : Nat) : State :=
  { s with svc := { s.svc with due := if s.svc.due.contains p then s.svc.due else s.svc.due ++ [p] } }

end Sys2Proof.Machine
end

