-- ==== Sys2Proof/Machine/Secded.lean ====
section
/-! DEFINITION. The error correction of packets (R245, R249): SECDED over a header's bits [119:0] and over each word of a data unit. -/

namespace Sys2Proof.Machine

/-- The positions of `n` payload bits: from 3 upward, those that are no powers of two. -/
def secdedPlaces (n : Nat) : List Nat := (((List.range 128).drop 3).filter (fun k => k &&& (k - 1) != 0)).take n

/-- The parity of the low bits of a number. -/
def parityOf (n x : Nat) : Nat := ((List.range n).filter x.testBit).length % 2

/-- The check bits of a payload of `n` bits: seven by position, and the parity of them all. -/
def secdedCheck (n x : Nat) : Nat :=
  let c := ((secdedPlaces n).zipIdx.filter (fun q => x.testBit q.2)).foldl (fun a q => a ^^^ q.1) 0
  c + 128 * ((parityOf n x + parityOf 7 c) % 2)

/-- What a payload of `n` bits with its check bits gives: the payload and whether a single bit was corrected; none where two are wrong. -/
def secdedFix (n x check : Nat) : Option (Nat × Bool) :=
  let syn := (secdedCheck n x ^^^ check) % 128
  let odd := (parityOf n x + parityOf 8 check) % 2
  if odd = 0 then (if syn = 0 then some (x, false) else none)
  else
    match (secdedPlaces n).zipIdx.find? (fun q => q.1 == syn) with
    | some q => some (x ^^^ 2 ^ q.2, true)
    | none => some (x, true)

/-- A header's bits [119:0] (R245). -/
def Pkt.header (p : Pkt) : Nat :=
  p.cls + 2 ^ 2 * p.op + 2 ^ 7 * p.txn + 2 ^ 22 * p.dest + 2 ^ 34 * p.src + 2 ^ 46 * p.line + 2 ^ 92 * p.tag + 2 ^ 98 * p.urgency +
    2 ^ 100 * flag p.standing + 2 ^ 101 * flag p.world + 2 ^ 102 * p.circuits + 2 ^ 106 * flag p.pinned + 2 ^ 107 * flag p.poison +
    2 ^ 108 * p.operand

/-- CHECK of a header (R245): bits [127:120]. -/
def Pkt.check (p : Pkt) : Nat := secdedCheck 120 p.header

/-- The check bits of the words of a data unit (R249). -/
def unitChecks (data : List Byte) : List Nat := (List.range 8).map (fun i => secdedCheck 64 (leAt data (8 * i) 8))

/-- A header that travelled with its CHECK and on whose 128 bits those of `e` have flipped. -/
def Pkt.headerAfter (p : Pkt) (e : Nat) : Option (Nat × Bool) := secdedFix 120 (p.header ^^^ e % 2 ^ 120) (p.check ^^^ e / 2 ^ 120)

/-- A data unit on whose words, with their check bits, the bits of `es` have flipped: its bytes, the single-bit errors corrected, and
whether a word has a double-bit error. -/
def unitAfter (data : List Byte) (es : List Nat) : List Byte × Nat × Bool :=
  let ws := (List.range 8).map (fun i =>
    let e := es.getD i 0
    secdedFix 64 (leAt data (8 * i) 8 ^^^ e % 2 ^ 64) (secdedCheck 64 (leAt data (8 * i) 8) ^^^ e / 2 ^ 64))
  ((ws.zipIdx.map (fun q => match q.1 with
      | some w => leBytes 8 w.1
      | none => leBytes 8 (leAt data (8 * q.2) 8 ^^^ es.getD q.2 0 % 2 ^ 64))).flatten,
    (ws.filter (fun w => w.any Prod.snd)).length, ws.any Option.isNone)

end Sys2Proof.Machine
end

