-- ==== Sys2Proof/Machine/MemOps.lean ====
section
/-! DEFINITION. Memory: the address map (R24 to R28), the interleave (R221, R222), mirrored and retired members (R225, R230),
bytes and poison, tiles (R312, R313), private ranges (R184), and what an agent other than a core reads and writes
coherently. -/

namespace Sys2Proof.Machine

/-! ### The address map -/

/-- What lies at a physical address (R25). -/
inductive AddrKind where
  | local_ | port (p : Nat) | window (w : Nat) | regs | hole
deriving DecidableEq, Repr

/-- The range of R25 and R26 that holds an address. -/
def addrKind (a : Nat) : AddrKind :=
  if 0x10000000000000 ≤ a then .hole
  else if 0xFFF0000000000 ≤ a then .regs
  else if 0x8000000000000 ≤ a then .window ((a - 0x8000000000000) / 0x20000000000)
  else if 0x4800000000000 ≤ a then .hole
  else if 0x4000000000000 ≤ a then .port ((a - 0x4000000000000) / 0x100000000000)
  else if 0x50000000000 ≤ a then .hole
  else .local_

/-- The window that a line lies in. -/
def lineWindow (line : Nat) : Option Nat :=
  match addrKind (64 * line) with
  | .window w => some w
  | _ => none

/-- The node slot of a local address with the offset from its base (R25). -/
def slotAt (a : Nat) : Option (Nat × Nat) :=
  if a < 0x4000000000 then
    if a % 0x1000000000 < 0x900000000 then some (a / 0x1000000000, a % 0x1000000000) else none
  else if 0x10000000000 ≤ a ∧ a < 0x50000000000 then some (3 + a / 0x10000000000, a % 0x10000000000)
  else none

/-- The base of a node's slot (R25). -/
def slotBase (n : Nat) : Nat := if n < 4 then n * 0x1000000000 else (n - 3) * 0x10000000000

/-- The bytes a node is populated with (R221): MEM_NODE.CAPACITY is in units of 256 MiB. -/
def State.nodeBytes (s : State) (n : Nat) : Nat := s.fld MEM_NODE.CAPACITY n * 0x10000000

/-- The interleave set of a node. -/
def State.nodeSet (s : State) (n : Nat) : List Nat := nget s.mem.members n []

/-- R222: the index of the member that holds granule `g` among `n`. -/
def memberIndex (n g : Nat) : Nat :=
  if n &&& (n - 1) = 0 then ((g % n) ^^^ (g / 2 ^ 8 % n)) ^^^ (g / 2 ^ 16 % n) else g % n

/-- R222: the member that holds an address, and the address within it; none where the address is unpopulated (R28, R223). -/
def State.memberAt (s : State) (a : Nat) : Option (Nat × Nat) :=
  match slotAt a with
  | none => none
  | some (n, o) =>
    let ms := s.nodeSet n
    let g := o / 4096
    if s.nodeBytes n ≤ o then none
    else
      match ms[memberIndex ms.length g]? with
      | none => none
      | some c => if s.mem.unmapped.contains c then none else some (c, g / ms.length * 4096 + o % 4096)

/-- The channel mirrored with another, if it is. -/
def State.mirrorOf (s : State) (c : Nat) : Option Nat :=
  match lookupKey c s.mem.mirrors with
  | some b => some b
  | none => (s.mem.mirrors.find? (fun q => q.2 == c)).map Prod.fst

/-- R225 and R230: the controller that serves the granules of a member: itself, or its mirror once it is retired. -/
def State.server (s : State) (c : Nat) : Option Nat :=
  if s.fld MC_STATUS.STATE c = 5 then
    match s.mirrorOf c with
    | some b => if s.fld MC_STATUS.STATE b = 5 then none else some b
    | none => none
  else some c

/-- R184: the engine whose private range holds an address. -/
def State.privateOf (s : State) (a : Nat) : Option Nat :=
  (List.range 16).find? (fun e =>
    s.is IEC_RANGE.VALID e && decide (s.fld IEC_RANGE.BASE e * 0x200000 ≤ a) &&
      decide (a < s.fld IEC_RANGE.BASE e * 0x200000 + 0x200000 * 2 ^ s.fld IEC_RANGE.SIZE e))

/-- Whether an address is populated local Memory, for a requester other than an engine's private cache (R28, R184). -/
def State.populated (s : State) (a : Nat) : Bool := (s.memberAt a).isSome && (s.privateOf a).isNone

/-! ### Tiles -/

/-- R312: the tile of a local address. -/
def tileOf (a : Nat) : Option Nat :=
  match slotAt a with
  | none => none
  | some (n, o) => some (if n < 4 then n * 524288 + 505856 + o / 0x200000 else (n - 4) * 524288 + o / 0x200000)

/-- Whether a tile is secure. -/
def State.tileSecure (s : State) (t : Nat) : Bool := s.mem.secure.any (fun q => decide (q.1 ≤ t) && decide (t < q.2))

/-- The world of the tile that holds an address. -/
def State.addrSecure (s : State) (a : Nat) : Bool :=
  match tileOf a with
  | some t => s.tileSecure t
  | none => false

/-- Cuts a run out of the runs of secure tiles. -/
def cutRun (lo hi : Nat) (rs : List (Nat × Nat)) : List (Nat × Nat) :=
  (rs.map (fun q =>
    (if q.1 < min q.2 lo then [(q.1, min q.2 lo)] else []) ++ (if max q.1 hi < q.2 then [(max q.1 hi, q.2)] else []))).flatten

/-- Adds a run, keeping the runs in ascending order. -/
def putRun (lo hi : Nat) : List (Nat × Nat) → List (Nat × Nat)
  | [] => [(lo, hi)]
  | q :: r => if lo < q.1 then (lo, hi) :: q :: r else q :: putRun lo hi r

/-- Sets the world of a run of tiles. -/
def State.setTiles (s : State) (first count : Nat) (secure : Bool) : State :=
  let cut := cutRun first (first + count) s.mem.secure
  { s with mem := { s.mem with secure := if secure then putRun first (first + count) cut else cut } }

/-- The tiles that a range of addresses touches. -/
def tilesOf (a len : Nat) : List Nat :=
  ((List.range (len / 0x200000 + 2)).filterMap (fun i =>
    if i * 0x200000 < len + a % 0x200000 then tileOf (a / 0x200000 * 0x200000 + i * 0x200000) else none)).eraseDups

/-- Whether every address of a range lies in tiles of a world. -/
def State.rangeWorld (s : State) (a len : Nat) (secure : Bool) : Bool :=
  (List.range (len / 0x200000 + 2)).all (fun i =>
    decide (len + a % 0x200000 ≤ i * 0x200000) || s.addrSecure (a / 0x200000 * 0x200000 + i * 0x200000) == secure)

/-! ### Bytes and poison -/

/-- The memory is in its canonical form: addresses strictly rise, and no byte listed is 0 (log 13). -/
def Memory.wf (m : List Host.Cell) : Bool :=
  sortedBy (fun a b => decide (a < b)) m && m.all (fun c => c.2 != 0)

/-- A byte of memory; one that is not listed reads 0 (log 13). -/
def State.byteAt (s : State) (a : Nat) : Byte := nget s.mem.cells a 0

/-- Writes a byte of memory. -/
def State.setByte (s : State) (a : Nat) (v : Byte) : State :=
  { s with mem := { s.mem with cells := nputd s.mem.cells a v 0 } }

/-- Writes bytes at rising addresses. -/
def State.setBytes (s : State) (a : Nat) : List Byte → State
  | [] => s
  | b :: r => (s.setByte a b).setBytes (a + 1) r

/-- Bytes of memory. -/
def State.bytesAt (s : State) (a n : Nat) : List Byte := (List.range n).map (fun i => s.byteAt (a + i))

/-- Marks a line poisoned or clears its poison. -/
def State.setPoison (s : State) (line : Nat) (on : Bool) : State :=
  let rest := s.mem.poison.filter (fun x => x != line)
  if on then { s with mem := { s.mem with poison := rest ++ [line] } }
  else { s with mem := { s.mem with poison := rest, broken := s.mem.broken.filter (fun x => x != line) } }

/-- A line that its memory cannot correct is poisoned (R203, R229). -/
def State.breakLine (s : State) (line : Nat) : State :=
  let s := s.setPoison line true
  { s with mem := { s.mem with broken := if s.mem.broken.contains line then s.mem.broken else s.mem.broken ++ [line] } }

/-- R229 and R230: what a read of a line from its memory gives: its data, and whether it is poisoned. -/
def State.lineAt (s : State) (line : Nat) : List Byte × Bool :=
  match s.memberAt (line * 64) with
  | none => (leBytes 64 0, true)
  | some (c, _) =>
    if (s.server c).isSome then (s.bytesAt (line * 64) 64, s.mem.poison.contains line) else (s.bytesAt (line * 64) 64, true)

/-- R404: bytes written to a listed range go to the shadow too. -/
def State.shadowBytes (s : State) (a : Nat) : List Byte → State
  | [] => s
  | b :: r =>
    let s : State := if s.nf.ranges.any (fun q => decide (q.1 ≤ a) && decide (a < q.1 + q.2)) then
        { s with nf := { s.nf with shadow := nputd s.nf.shadow a b 0 } }
      else s
    s.shadowBytes (a + 1) r

/-- The lines that `hit` names are written: nothing waits any more to be rewritten in them, and what their copies were is past (R225, R227). -/
def State.mendLines (s : State) (hit : Nat → Bool) : State :=
  { s with mem := { s.mem with
      scrub := (s.mem.scrub.map (fun (q : Nat × List Nat) => (q.1, q.2.filter (fun x => !(hit x))))).filter (fun q => !q.2.isEmpty),
      rewritten := s.mem.rewritten.filter (fun x => !(hit x.1)), weak := s.mem.weak.filter (fun x => !(hit x)),
      torn := s.mem.torn.filter (fun q => !(hit q.2)) } }

/-- A line is written. -/
def State.mended (s : State) (line : Nat) : State := s.mendLines (fun x => x == line)

/-- R227: a line is read: the first read after its rewrite is at this stamp. -/
def State.readOnce (s : State) (line : Nat) : State :=
  { s with mem := { s.mem with rewritten := s.mem.rewritten.map (fun x => if x.1 = line ∧ x.2.isNone then (line, some s.stb) else x) } }

/-- Writes bytes of a line in its memory; a write to a member that no one serves is discarded (R230). A write of all 64 bytes
replaces the line's poison by the data's, a smaller one keeps it (R182). A pending scrub rewrite of the line is dropped
(R227). -/
def State.writeLine (s : State) (line off : Nat) (data : List Byte) (poison : Bool) : State :=
  match s.memberAt (line * 64) with
  | none => s
  | some (c, _) =>
    if (s.server c).isSome then
      let s := (s.setBytes (line * 64 + off) data).shadowBytes (line * 64 + off) data
      let s := s.mended line
      s.setPoison line (if data.length = 64 then poison else poison || s.mem.poison.contains line)
    else s

/-! ### Block caches, as far as other agents see them -/

/-- The line a block holds, if it does. -/
def State.held (s : State) (b line : Nat) : Option CLine := lookupKey (b, line) s.fab.lines

/-- The blocks that hold a line. -/
def State.holders (s : State) (line : Nat) : List (Nat × CLine) :=
  (s.fab.lines.filter (fun q => q.1.2 == line)).map (fun q => (q.1.1, q.2))

/-- Clears the reservations of a block's harts on a line (R170). -/
def State.loseReservations (s : State) (b line : Nat) : State :=
  { s with harts := s.harts.map (fun (q : Nat × Hart) =>
      if q.1 / 4 = b ∧ q.2.resv = some line then (q.1, { q.2 with resv := none }) else q) }

/-- Takes a line out of a block. -/
def State.dropLine (s : State) (b line : Nat) : State :=
  ({ s with fab := { s.fab with lines := dropKey (b, line) s.fab.lines } }).loseReservations b line

/-- Whether a packet carries the whole of its line: to a requester or its home, an eviction, or a write of all 64 bytes (R247). -/
def Pkt.wholeData (p : Pkt) : Bool :=
  p.pkg.isNone && ((p.cls == 1 && (p.op == 1 || p.op == 2)) || (p.cls == 3 && (p.op == 4 || (p.op == 0x11 && p.operand == 63 * 64))))

/-- Whether a packet carries the whole of a line. -/
def Pkt.wholeLine (p : Pkt) (line : Nat) : Bool := p.line == line && p.wholeData

/-- The data of a line on its way: a fill received, data in a packet to a requester or home, or a write on its way to memory. -/
def State.lineInFlight (s : State) (line : Nat) : Option (List Byte × Bool) :=
  match s.fab.misses.findSome? (fun q => if q.2.line = line then q.2.filled else none),
      s.fab.walks.findSome? (fun w => if w.need.addr / 64 = line then w.filled else none) with
  | some d, _ => some d
  | none, some d => some d
  | none, none =>
    match s.fab.net.find? (fun f => f.pkt.wholeLine line && f.pkt.op != 4) with
    | some f => some (f.pkt.data, f.pkt.poison)
    | none =>
      match s.mem.queue.find? (fun e => e.pkt.wholeLine line) with
      | some e => some (e.pkt.data, e.pkt.poison)
      | none => s.fab.txns.findSome? (fun x => if x.line = line ∧ x.wr then x.dirty else none)

/-- The data of a line as a coherent agent sees it: the dirty holder's, else what is on its way, else the memory's. -/
def State.lineNow (s : State) (line : Nat) : List Byte × Bool :=
  match (s.holders line).find? (fun q => q.2.st == .m || q.2.st == .o) with
  | some q => (q.2.data, q.2.poison)
  | none => (s.lineInFlight line).getD (s.lineAt line)

/-- Every copy on its way of the lines that `hit` names takes new data: a coherent write by another agent comes before the requests in
progress (log 17). -/
def State.patchLines (s : State) (hit : Nat → Bool) (d : List Byte × Bool) : State :=
  let patch := fun (p : Pkt) => if hit p.line ∧ p.wholeData then { p with data := d.1, poison := d.2 } else p
  { s with
    mem := { s.mem with queue := s.mem.queue.map (fun (e : QEntry) => { e with pkt := patch e.pkt }) },
    fab := { s.fab with
      net := s.fab.net.map (fun (f : Flight) => { f with pkt := patch f.pkt }),
      misses := s.fab.misses.map (fun (q : Nat × Miss) =>
        if hit q.2.line ∧ q.2.filled.isSome then (q.1, { q.2 with filled := some d }) else q),
      walks := s.fab.walks.map (fun (w : Walk) => if hit (w.need.addr / 64) ∧ w.filled.isSome then { w with filled := some d } else w),
      txns := s.fab.txns.map (fun (x : Txn) => if hit x.line ∧ x.dirty.isSome then { x with dirty := some d } else x) } }

/-- Every copy of a line that is on its way takes new data. -/
def State.patchFlight (s : State) (line : Nat) (d : List Byte × Bool) : State := s.patchLines (fun x => x == line) d

/-- Bytes `off` up of a line with `data` put in. -/
def splice (xs : List Byte) (off : Nat) (data : List Byte) : List Byte :=
  xs.take off ++ data ++ xs.drop (off + data.length)

/-- A coherent write by an agent that caches nothing, as WRITE_UC has it (R260): every copy is killed and the bytes are
written to memory. -/
def State.writeNow (s : State) (line off : Nat) (data : List Byte) : State :=
  let now := s.lineNow line
  let d := (splice now.1 off data, now.2 && data.length != 64)
  let s := ((s.holders line).foldl (fun s q => s.dropLine q.1 line) s).patchFlight line d
  s.writeLine line 0 d.1 d.2

/-- Bytes of memory as a coherent agent reads them, and whether any line of them is poisoned. -/
def State.readNow (s : State) (a n : Nat) : List Byte × Bool :=
  let ls := (List.range ((a % 64 + n + 63) / 64)).map (fun i => s.lineNow (a / 64 + i))
  ((((ls.map Prod.fst).flatten).drop (a % 64)).take n, ls.any Prod.snd)

/-- Writes bytes coherently at an address, line by line. -/
def State.storeNow (s : State) (a : Nat) (data : List Byte) : State :=
  (List.range ((a % 64 + data.length + 63) / 64)).foldl (fun s i =>
    let lo := if i = 0 then a % 64 else 0
    let at_ := if i = 0 then 0 else 64 * i - a % 64
    s.writeNow (a / 64 + i) lo ((data.drop at_).take (64 - lo))) s

/-- R256: s of an address. -/
def sliceBits (a : Nat) : Nat := ((List.range 12).map (fun i => bitsOf a (6 + 4 * i) 4)).foldl (fun p q => p ^^^ q) 0

/-- R256: the home slice of a line of local memory. -/
def homeSlice (a : Nat) : Nat :=
  let x := sliceBits a
  match slotAt a with
  | some (n, _) => 16 * (n % 4) + x
  | none => x

/-- HA_ERR_LOG (R266, R316). -/
def State.logHome (s : State) (h kind line : Nat) : State :=
  (((s.set HA_ERR_LOG.ADDR h (64 * line)).set HA_ERR_LOG.KIND h kind).bumpSat HA_ERR_LOG.COUNT h 1).set HA_ERR_LOG.STAMP h
    (s.stampIn (12 + h / 16))

/-- R316: slice `h` refuses a request of the other world for a line. -/
def State.worldRefused (s : State) (h line : Nat) : State :=
  (s.logHome h 3 line).raise { coll := sliceColl h, bit := 3, addr := 64 * line }

/-- R266: what the home slice of an address notes of an access that it refuses: to an unpopulated address, or of the other world. -/
def State.homeRefused (s : State) (a : Nat) : State :=
  if s.populated a then s.worldRefused (homeSlice a) (a / 64) else s.note41 (sliceColl (homeSlice a)).unit a

/-- R266: a unit's request to an unpopulated address is noted, at its home where it has one and else where it sets out. -/
def State.holeNote (s : State) (unit a : Nat) : State :=
  match addrKind a with
  | .local_ => s.homeRefused a
  | _ => s.note41 unit a

/-! ### The snoop filter (R258) and the remote directory (R297) -/

/-- The set and the tag of a line; `dir` for the directory. -/
def sfKey (dir : Bool) (line : Nat) : Nat × Nat :=
  let a := 64 * line
  if dir then (bitsOf a 6 11 ^^^ bitsOf a 17 11, bitsOf a 17 35) else (bitsOf a 10 14 ^^^ bitsOf a 24 14, bitsOf a 24 28)

/-- The line of an entry of slice `h` by its set and its tag. -/
def sfLine (dir : Bool) (h set_ tag : Nat) : Nat :=
  if dir then (tag * 2 ^ 17 + (set_ ^^^ tag % 2 ^ 11) * 64) / 64
  else
    let a := tag * 2 ^ 24 + (set_ ^^^ tag % 2 ^ 14) * 1024
    a / 64 + (sliceBits a ^^^ h % 16)

/-- R259: an entry of a filter as it is written: both copies of tag and presence, and the SECDED bits over bits [47:0]; DESIGN CHOICE (log
46): by the construction of R249. An entry of a remote directory (`dir`) is packed alike: tag, presence, owned bit, owner (R297). -/
def sfMake (dir : Bool) (tag pres : Nat) (own : Option (Nat × Nat)) : SfEntry :=
  let o := match own with
    | some x => 1 + 2 * x.1 + 32 * x.2
    | none => 0
  { tag := tag, presence := pres, owner := own, copy := (tag, pres),
    ecc := if dir then secdedCheck 42 (tag + 2 ^ 35 * pres + 2 ^ 39 * (o % 8)) else secdedCheck 48 (tag + 2 ^ 28 * pres + 2 ^ 40 * o) }

/-- A set of a slice's filter or directory. -/
def State.sfSet (s : State) (dir : Bool) (h k : Nat) : SfSet :=
  (lookupKey (h, k) (if dir then s.cst.dir else s.fab.filter)).getD ⟨[], 0⟩

/-- Replaces a set of a slice's filter or directory. -/
def State.setSf (s : State) (dir : Bool) (h k : Nat) (x : SfSet) : State :=
  let put := fun (m : FMap (Nat × Nat) SfSet) =>
    if x.ways.isEmpty ∧ x.plru = 0 then dropKey (h, k) m else putBy pairLt (h, k) x m
  if dir then { s with cst := { s.cst with dir := put s.cst.dir } } else { s with fab := { s.fab with filter := put s.fab.filter } }

/-- The entry of a line: its way and what it shows. -/
def State.sfEntry (s : State) (dir : Bool) (h line : Nat) : Option (Nat × SfEntry) :=
  let k := sfKey dir line
  (s.sfSet dir h k.1).ways.find? (fun e => e.2.tag == k.2 && e.2.presence != 0)

/-! ### Pools (R214) -/

/-- The frame size of a pool. -/
def State.frameSize (s : State) (p : Nat) : Nat := if s.is POOL_STATE.FSIZE p then 0x200000 else 4096

/-- A pool beside its registers. -/
def State.pool (s : State) (p : Nat) : Pool := nget s.mem.pools p ⟨[], []⟩

/-- The frames a pool holds. -/
def State.poolFree (s : State) (p : Nat) : Nat :=
  let x := s.pool p
  x.returned.length + (x.ranges.map (fun r => (r.stop - r.next) / s.frameSize p)).sum

/-- Writes what a pool's registers say of it (POOL_STATE). -/
def State.refreshPool (s : State) (p : Nat) : State :=
  let x := s.pool p
  let s := (s.set POOL_STATE.RANGES p x.ranges.length).set POOL_STATE.RETURNED p x.returned.length
  (s.set POOL_STATE.NEXT p ((x.ranges.head?.map PoolRange.next).getD 0)).set POOL_STATE.FREE p (s.poolFree p)

/-- Sets a pool. -/
def State.setPool (s : State) (p : Nat) (x : Pool) : State :=
  ({ s with mem := { s.mem with pools := nputd s.mem.pools p x ⟨[], []⟩ } }).refreshPool p

/-- R214: a zeroed frame returns to its pool's stack, which holds 1,024. -/
def State.returnFrame (s : State) (p f : Nat) : State :=
  let x := s.pool p
  if x.returned.length < 1024 then s.setPool p { x with returned := f :: x.returned } else s

end Sys2Proof.Machine
end

