-- ==== Sys2Proof/Machine/ServiceCmds.lean ====
section
/-! DEFINITION. The service commands (R67, R137, R147, R320): classes, groups, channels, locked pairs and their release. -/

namespace Sys2Proof.Machine

/-- R61: whether a mailbox on an endpoint path names an object it did not create. -/
def State.foreign (s : State) (c : Caller) (owner : Nat) : Bool := (s.boxPort c.box).isSome && owner != c.box

/-- R61: whether a mailbox on an endpoint path names a channel that it did not create and that is bound to no function of its port. -/
def State.foreignChan (s : State) (c : Caller) (k : Channel) : Bool :=
  s.foreign c k.owner && !(k.srcKind == 1 && some k.port == s.boxPort c.box)

/-- R147: writes B(g) of every group (DSP_GROUP.BLOCKING). -/
def State.refreshBlocking (s : State) : State :=
  (s.svc.groups.map Prod.fst).foldl (fun s g => s.set DSP_GROUP.BLOCKING g (s.blocking g)) s

/-- R147: whether an op of a nonzero tag is admitted to a group and unanswered. -/
def State.groupBusy (s : State) (g : Nat) : Bool := s.liveOps.any (fun o => o.grp == g && o.tag != 0)

/-- R147: whether a change of the service settings would raise B(g) of a busy group. -/
def State.raisesBlocking (s s' : State) : Bool :=
  (s'.svc.groups.map Prod.fst).any (fun g => decide (s.blocking g < s'.blocking g) && s.groupBusy g)

/-- DEFINE_CLASS (R67). -/
def cmdDefineClass (c : Caller) (p : List Byte) (s : State) : Reply :=
  let id := leAt p 0 1
  paramChecks s [(0, decide (63 < id)), (1, decide (3 < leAt p 1 1)), (2, decide (63 < leAt p 2 1)),
      (3, decide (3 < leAt p 3 1)), (12, decide (leAt p 12 2 < 64) || decide (1024 < leAt p 12 2)), rsv p 14 2] fun _ =>
    let old := lookupKey id s.svc.classes
    if old.any (fun k => s.foreign c k.owner) then .no s stDeniedWorld
    else
      let k : SvcClass := ⟨leAt p 1 1, leAt p 2 1, leAt p 3 1, leAt p 4 4, leAt p 8 4, leAt p 12 2,
        (old.map SvcClass.owner).getD c.box⟩
      let s' := { s with svc := { s.svc with classes := nput s.svc.classes id k } }
      if s.raisesBlocking s' then .bad s 4
      else
        let s' := (s'.refreshBlocking).refreshTag k.tag
        .ok (match old with
          | some o => s'.refreshTag o.tag
          | none => s')

/-- The cores a CORE_MASK names. -/
def maskCores (p : List Byte) (o : Nat) : List Nat := onesBelow (leAt p o 36) 288

/-- Counts an event of an op of a channel (R417, R418): its world is its channel's. -/
def State.countOp (s : State) (bank code grp tag : Nat) : State :=
  let w := match lookupKey grp s.svc.groups with
    | some q => q.cores.any (fun g => s.blockSecure (g / 24) (g % 24 / 4))
    | none => false
  s.count bank { code := code, world := some w, tag := some tag }

/-- Whether a core lies in a secure-assigned block. -/
def State.coreSecure (s : State) (g : Nat) : Bool := s.blockSecure (g / 24) (g % 24 / 4)

/-- Whether a core may be named in DEFINE_GROUP: in service, a hart of its own, on its block PLL (R382), and in no other
group. -/
def State.coreJoins (s : State) (id g : Nat) : Bool :=
  s.coreUp g && s.fld CORE_PAIR.STATE g != 3 && s.is CORE_PWR.CLK_SRC g &&
    (!(s.is DSP_CORE.IN_GROUP g) || s.fld DSP_CORE.GROUP g == id)

/-- Sets the cores of a group, in DSP_CORE too. -/
def State.setGroup (s : State) (id : Nat) (q : SvcGroup) : State :=
  let old := ((lookupKey id s.svc.groups).map SvcGroup.cores).getD []
  let s := { s with svc := { s.svc with groups := nput s.svc.groups id q } }
  let s := old.foldl (fun s g => if q.cores.contains g then s else s.set DSP_CORE.IN_GROUP g 0) s
  q.cores.foldl (fun s g => (s.set DSP_CORE.GROUP g id).set DSP_CORE.IN_GROUP g 1) s

/-- DEFINE_GROUP (R67, R320, R382). A core that leaves the group is a trigger of R128; cores that join raise the capacity at
once. -/
def cmdDefineGroup (c : Caller) (p : List Byte) (s : State) : Reply :=
  let id := leAt p 0 1
  let cores := maskCores p 4
  paramChecks s [(0, decide (63 < id)), rsv p 1 3] fun _ =>
    if (s.boxPort c.box).isSome ∨ (c.secure = false ∧ cores.any s.coreSecure) then .no s stDeniedWorld
    else if cores.all (s.coreJoins id) = false ∨ (cores.any s.coreSecure ∧ cores.all s.coreSecure = false) then .bad s 4
    else
      let old := lookupKey id s.svc.groups
      let s' := s.setGroup id ⟨cores, (old.map SvcGroup.owner).getD c.box⟩
      if State.wouldRevoke s' [116 + id] then .no s stInsufficient
      else
        let s' := s'.set DSP_GROUP.BLOCKING id (s'.blocking id)
        match ((old.map SvcGroup.cores).getD []).find? (fun g => !(cores.contains g)) with
        | some g => .ok (s'.trigger [116 + id] false ((coreColl g).unit))
        | none => .ok (s'.regroup id)

/-- R320: the world of a group: that of its cores. -/
def State.groupSecure (s : State) (g : Nat) : Bool :=
  match lookupKey g s.svc.groups with
  | some q => q.cores.any s.coreSecure
  | none => false

/-- The field checks of BIND_CHANNEL in ascending offset (R67). -/
def bindChecks (p : List Byte) : List (Nat × Bool) :=
  let kind := leAt p 4 1
  [(0, decide (4095 < leAt p 0 2)), (2, decide (63 < leAt p 2 1)), (3, decide (63 < leAt p 3 1)), (4, decide (1 < kind)),
   (5, if kind = 0 then leAt p 5 1 != 0 else !([0, 2, 4, 6].contains (leAt p 5 1))),
   (6, if kind = 0 then leAt p 6 2 != 0 else decide (256 < leAt p 6 2)),
   (8, leAt p 8 8 % 4096 != 0), (16, leAt p 16 8 % 4096 != 0),
   (24, decide (leAt p 24 1 < 6) || decide (16 < leAt p 24 1)), (25, decide (leAt p 25 1 < 6) || decide (16 < leAt p 25 1)),
   rsv p 28 4]

/-- Whether the queues of a core channel lie in tiles of the group's world (R320). -/
def State.queueWorld (s : State) (k : Channel) : Bool :=
  k.srcKind != 0 || (s.rangeWorld k.sqBase (64 * 2 ^ k.sqLog2) (s.groupSecure k.grp) &&
    s.rangeWorld k.cqBase (32 * 2 ^ k.cqLog2) (s.groupSecure k.grp))

/-- A channel comes into service: its state starts at 0 with phase 1 (IE_CH_STATE, R139). -/
def State.openChannel (s : State) (ch : Nat) (k : Channel) : State :=
  let i := chIdx (k.engine ch) ch
  ((s.setChan ch k).setWord .IE_CH_STATE i 0 (BitVec.ofNat 64 (3 * 2 ^ 32))).setWord .IE_CH_DB i 2 0

/-- Sets the twin bits of a channel. -/
def State.setTwin (s : State) (ch : Nat) (first second : Bool) : State :=
  match s.chan ch with
  | some k =>
    let i := chIdx (k.engine ch) ch
    (s.set IE_CH_STATE.TWIN_FIRST i (flag first)).set IE_CH_STATE.TWIN_SECOND i (flag second)
  | none => s

/-- Takes a channel out of service. -/
def State.unbind (s : State) (ch : Nat) : State :=
  match s.chan ch with
  | none => s
  | some k =>
    let s := s.setWord .IE_CH_STATE (chIdx (k.engine ch) ch) 0 (BitVec.ofNat 64 (2 ^ 32))
    let s := (s.svc.locked.filter (fun q => q.1 == ch || q.2 == ch)).foldl (fun s q =>
      (s.setTwin q.1 false false).setTwin q.2 false false) s
    { s with svc := { s.svc with channels := dropKey ch s.svc.channels,
                                 locked := s.svc.locked.filter (fun q => q.1 != ch && q.2 != ch),
                                 locking := s.svc.locking.filter (fun q => q.1 != ch && q.2.1 != ch) } }

/-- The last checks of BIND_CHANNEL, in ascending offset: B(g) of a busy group (R147), a function's 257th channel (R138). -/
def State.bindTo (s : State) (ch : Nat) (k : Channel) : Reply :=
  let s' := (s.unbind ch).openChannel ch k
  if s.raisesBlocking s' then .bad s 2
  else if k.srcKind = 1 ∧ 256 < (s'.fnChans k.port k.fn).length then .bad s 6
  else .ok s'.refreshBlocking

/-- BIND_CHANNEL (R67, R137, R138, R147, R320). A channel whose service ended under R320 may be bound anew. -/
def cmdBindChannel (c : Caller) (p : List Byte) (s : State) : Reply :=
  paramChecks s (bindChecks p) fun _ =>
    let ch := leAt p 0 2
    let k : Channel := ⟨leAt p 2 1, leAt p 3 1, leAt p 4 1, leAt p 5 1, leAt p 6 2, leAt p 8 8, leAt p 16 8, leAt p 24 1,
      leAt p 25 1, leAt p 26 2, 0, 0, c.box, false, false⟩
    match lookupKey k.cls s.svc.classes, lookupKey k.grp s.svc.groups with
    | some cl, some g =>
      if s.foreign c cl.owner ∨ s.foreign c g.owner ∨
          ((s.boxPort c.box).isSome ∧ (k.srcKind = 0 ∨ some k.port ≠ s.boxPort c.box)) then .no s stDeniedWorld
      else if s.queueWorld k = false then .no s stDeniedWorld
      else
        match s.chan ch with
        | some old =>
          if old.ended then s.bindTo ch k
          else if 4096 ≤ s.svc.channels.length then .no s stInsufficient else .bad s 0
        | none => s.bindTo ch k
    | _, _ => .no s stNotFound

/-- The bricks of a group's cores. -/
def State.groupBricks (s : State) (g : Nat) : List Nat :=
  (((lookupKey g s.svc.groups).map SvcGroup.cores).getD []).map (fun x => x / 24)

/-- Whether a channel is one of a locked pair, or is to be. -/
def State.twinned (s : State) (ch : Nat) : Bool :=
  s.svc.locked.any (fun q => q.1 == ch || q.2 == ch) || s.svc.locking.any (fun q => q.1 == ch || q.2.1 == ch)

/-- R67: a pair of channels is locked: submissions are taken from the first alone. -/
def State.lockPair (s : State) (a b : Nat) : State :=
  let s : State := { s with svc := { s.svc with locked := s.svc.locked ++ [(a, b)],
                                                locking := s.svc.locking.filter (fun q => q.1 != a) } }
  (s.setTwin a true false).setTwin b false true

/-- R104: the pairs whose meridian has come are locked. -/
def State.lockTwins (s : State) : State :=
  (s.svc.locking.filter (fun q => decide (q.2.2 ≤ s.stb))).foldl (fun (s : State) q => s.lockPair q.1 q.2.1) s

/-- LOCK_CHANNELS (R67, R104): both channels are bound to one class and no brick holds cores of both groups; they are locked at a
meridian. -/
def cmdLockChannels (c : Caller) (p : List Byte) (s : State) : Reply :=
  let a := leAt p 0 2
  let b := leAt p 2 2
  paramChecks s [(0, decide (4095 < a)), (2, decide (4095 < b) || a == b), (4, decide (1 < leAt p 4 1)), rsv p 5 3] fun _ =>
    match s.chan a, s.chan b with
    | some x, some y =>
      if s.foreignChan c x ∨ s.foreignChan c y then .no s stDeniedWorld
      else if leAt p 4 1 = 1 then
        if s.svc.locked.contains (a, b) then
          let s' := { s with svc := { s.svc with locked := s.svc.locked.erase (a, b) } }
          .ok ((s'.setTwin a false false).setTwin b false false)
        else if s.svc.locking.any (fun q => q.1 == a && q.2.1 == b) then
          .ok { s with svc := { s.svc with locking := s.svc.locking.filter (fun q => q.1 != a) } }
        else .bad s 0
      else if s.twinned a then .bad s 0
      else if s.twinned b ∨ x.cls ≠ y.cls ∨ (s.groupBricks x.grp).any (s.groupBricks y.grp).contains then .bad s 2
      else .ok { s with svc := { s.svc with locking := s.svc.locking ++ [(a, b, lockMeridian s.stb)] } }
    | _, _ => .no s stNotFound

/-- The channels of a group. -/
def State.grpChans (s : State) (g : Nat) : List Nat := (s.svc.channels.filter (fun q => q.2.grp == g)).map Prod.fst

/-- Whether a RELEASE_GROUP of a group waits for its ops: its channels take no new descriptor meanwhile. -/
def State.releasing (s : State) (g : Nat) : Bool :=
  s.keeper.boxes.any (fun q => q.2.taken.any (fun k => k.opcode == 0x0204 && k.ran && k.final.isNone && leAt k.payload 0 1 == g))

/-- Whether nothing of a group is left to answer: no op, no answer to issue, no descriptor held. -/
def State.groupDrained (s : State) (g : Nat) : Bool :=
  !(s.liveOps.any (fun o => o.grp == g || (s.grpChans g).contains o.ch)) &&
    !(s.svc.answers.any (fun a => (s.grpChans g).contains a.ch)) && !(s.svc.descs.any (fun d => (s.grpChans g).contains d.ch))

/-- R67: unbinds every channel of a group. -/
def State.releaseGroup (s : State) (g : Nat) : State :=
  ((s.grpChans g).foldl State.unbind s).set DSP_GROUP.BLOCKING g 0

/-- R39 and R51: the ops of a group that a RELEASE_GROUP has withdrawn are queued again: those whose OP_WITHDRAWN with reason 3 has not been
issued. -/
def State.unwithdraw (s : State) (g : Nat) : State :=
  let back := fun (a : Answer) => a.status == 5 && a.result == 3 && (a.ops.filterMap s.op).any (fun o => o.grp == g)
  let ids := ((s.svc.answers.filter back).map Answer.ops).flatten
  { s with svc := { s.svc with
      answers := s.svc.answers.filter (fun a => !(back a)),
      ops := s.svc.ops.map (fun (q : Nat × Op) => if ids.contains q.1 then (q.1, { q.2 with decided := false }) else q) } }

/-- RELEASE_GROUP (R67, R159): it ends once every op of the group is answered; MODE 1 withdraws the queued ones at once. DESIGN CHOICE
(log 43): a booking that no longer counts in BOOKED does not refuse it. -/
def cmdReleaseGroup (c : Caller) (p : List Byte) (s : State) : Reply :=
  let g := leAt p 0 1
  paramChecks s [(0, decide (63 < g)), (1, decide (1 < leAt p 1 1)), rsv p 2 6] fun _ =>
    match lookupKey g s.svc.groups with
    | none => .no s stNotFound
    | some q =>
      if s.foreign c q.owner then .no s stDeniedWorld
      else if s.alm.books.any (fun b => b.kind == 1 && b.group == g && s.counts b) then .bad s 0
      else
        let s := if leAt p 1 1 = 1 then
            (s.fireGuards.dueOps.filter (fun o => o.grp == g && (s.parts o.main).all (fun x => x.state == .queued))).foldl (fun s o =>
              match s.op o.main with
              | some x => s.withdraw x 3
              | none => s) s.fireGuards
          else s
        if s.groupDrained g then .ok (s.releaseGroup g) else .later s

/-- Ends every RELEASE_GROUP whose group is drained (R51). -/
def State.endReleases (s : State) : State :=
  ((s.keeper.boxes.map (fun q => (q.2.taken.filter (fun k => k.opcode == 0x0204 && k.ran && k.final.isNone)).map
    (fun k => (q.1, k)))).flatten).foldl (fun s x =>
      let g := leAt x.2.payload 0 1
      if s.groupDrained g then (s.releaseGroup g).finish x.1 x.2.id ⟨stOk, 0, []⟩ else s) s

end Sys2Proof.Machine
end

