-- ==== Sys2Proof/Machine/PortOps.lean ====
section
/-! DEFINITION. PCI Express ports: configuration space (R338, R340 to R342), error reporting (R350, R351), requests and tags
(R353, R354), interrupts of endpoint functions, and ops that are aborted (R151, R332, R355). The offsets within a standard
capability are those of the Base Specification that R334 names (log 15). -/

namespace Sys2Proof.Machine

/-- Sets a bit of a 32-bit configuration register. -/
def State.cfgBit (s : State) (i off b : Nat) : State := s.setCfg i off 4 (withBit (s.cfgNat i off 4) b)

/-- The role of a port (PCIE_PORT_STATUS.ROLE): 2 is endpoint, 1 root; a retired port has none (R335). -/
def State.portRole (s : State) (p : Nat) : Nat := if s.units.portDown.contains p then 0 else s.fld PCIE_PORT_STATUS.ROLE p

/-- NumVFs of a port's physical function (R342). -/
def State.numVfs (s : State) (p : Nat) : Nat := s.cfgNat (fnIdx p 0) 0x1A0 2

/-- VF Enable of a port's physical function. -/
def State.vfEnable (s : State) (p : Nat) : Bool := (s.cfgNat (fnIdx p 0) 0x198 2).testBit 0

/-- Whether an endpoint port presents a function (R342). -/
def State.hasFn (s : State) (p fn : Nat) : Bool :=
  s.portRole p == 2 && (fn == 0 || (s.vfEnable p && decide (fn ≤ s.numVfs p) && decide (fn ≤ 256)))

/-! ### Error reporting -/

/-- R351: an interrupt of a root port. -/
def State.rootIrq (s : State) (p : Nat) : State :=
  if s.is RP_IRQ.IRQ_EN p then s.msi (s.fld RP_IRQ.HART p) (s.fld RP_IRQ.FILE p) (s.fld RP_IRQ.GUEST p) (s.fld RP_IRQ.EIID p) else s

/-- R351: a root link takes an error message of a kind (0 ERR_COR, 1 ERR_NONFATAL, 2 ERR_FATAL), its own or one from below: its Root Error
Status and Error Source Identification, whose places are the Base Specification's (log 15), and the interrupt. -/
def State.rootError (s : State) (p fn kind rid : Nat) : State :=
  let i := fnIdx p fn
  let st := s.cfgNat i 0x130 1
  let s :=
    if kind = 0 then
      if st.testBit 0 then s.setCfg i 0x130 1 (withBit st 1) else (s.setCfg i 0x130 1 (withBit st 0)).setCfg i 0x134 2 rid
    else
      let st' := withBit st (if kind = 1 then 5 else 6)
      if st.testBit 2 then s.setCfg i 0x130 1 (withBit st' 3)
      else (s.setCfg i 0x130 1 (withBit (if kind = 2 then withBit st' 4 else st') 2)).setCfg i 0x136 2 rid
  s.rootIrq p

/-- R351: an error that is not masked is signalled: by a message of its kind from an endpoint function, by the interrupt of a root link. -/
def State.signalErr (s : State) (port fn kind : Nat) : State :=
  if fn < 384 then s.emit .errFatal [port, fn, kind] else s.rootError port fn kind 0

/-- R350: a correctable error in a function's or link's AER: its status bit, and ERR_COR unless it is masked. -/
def State.aerCor (s : State) (port fn b : Nat) : State :=
  let i := fnIdx port fn
  let s := s.cfgBit i 0x110 b
  if (s.cfgNat i 0x114 4).testBit b then s else s.signalErr port fn 0

/-- Whether a link of a port runs in flit mode: the one of a root link's space, link 0 for a function's. -/
def State.flitMode (s : State) (p fn : Nat) : Bool := s.is PCIE_LINK.FLIT (4 * p + (fn - 384))

/-- R351: the header log records an uncorrectable error, 4 words long, or 14 in flit mode, and the First Error Pointer names it; words 4
to 13 stand behind the root error registers, as the Base Specification has it (log 15). What TLP it was no rule tells: its header is a
free value. -/
def State.logHeader (s : State) (port fn b : Nat) : State :=
  let i := fnIdx port fn
  let q := s.free
  let s' := (q.2.setCfg i 0x118 1 b).setCfg i 0x11C 16 q.1
  if s.flitMode port fn then s'.setCfg i 0x138 40 (q.1 / 2 ^ 128) else s'

/-- R351: the status bit of an uncorrectable error, and the header log of the first that is not masked. -/
def State.uncStatus (s : State) (port fn b : Nat) : State :=
  let i := fnIdx port fn
  let open' := 0xFFFFFFFF ^^^ s.cfgNat i 0x108 4
  let seen := s.cfgNat i 0x104 4
  let s := s.cfgBit i 0x104 b
  if open'.testBit b ∧ seen &&& open' = 0 then s.logHeader port fn b else s

/-- Whether an uncorrectable error of a function or link is masked, and whether it is fatal, by its AER (R351). -/
def State.uncMasked (s : State) (port fn b : Nat) : Bool := (s.cfgNat (fnIdx port fn) 0x108 4).testBit b

@[inherit_doc State.uncMasked]
def State.uncFatal (s : State) (port fn b : Nat) : Bool := (s.cfgNat (fnIdx port fn) 0x10C 4).testBit b

/-- R350: an uncorrectable error in a function's or link's AER: its status bit, and ERR_FATAL or ERR_NONFATAL by its
severity unless it is masked. -/
def State.aerUnc (s : State) (port fn b : Nat) : State :=
  let s := s.uncStatus port fn b
  if s.uncMasked port fn b then s else s.signalErr port fn (if s.uncFatal port fn b then 2 else 1)

/-- R350: an error that is reported as advisory: its own status bit and that of an Advisory Non-Fatal Error, which is correctable; one that
software has made fatal is no advisory error (the Base Specification's, log 15). -/
def State.aerAdvisory (s : State) (port fn b : Nat) : State :=
  if s.uncFatal port fn b then s.aerUnc port fn b else (s.uncStatus port fn b).aerCor port fn 13

/-- R352: whether an error of a root link is one that it detects as fatal. -/
def State.fatalAt (s : State) (port fn b : Nat) : Bool := decide (384 ≤ fn) && s.uncFatal port fn b && !(s.uncMasked port fn b)

/-- DETAIL of a port's record (R363): DW 0 to 5 of the function's header log. -/
def State.headerDetail (s : State) (port fn : Nat) : List Byte :=
  leBytes 16 (s.cfgNat (fnIdx port fn) 0x11C 16) ++ leBytes 8 (s.cfgNat (fnIdx port fn) 0x138 8)

/-- R350 and R363: an uncorrectable error at a port: its AER, and the bit of the port's collector, whose record carries DW 0 to 5 of the
header log. -/
def State.portUnc (s : State) (port fn b bit : Nat) : State :=
  let s := s.aerUnc port fn b
  s.raise { coll := portColl port, bit := bit, detail := s.headerDetail port fn }

/-- The AER bits of fatal errors: 4 Data Link Protocol, 5 Surprise Down, 13 Flow Control Protocol, 17 Receiver Overflow, 18 Malformed TLP. -/
def fatalAer : List Nat := [4, 5, 13, 17, 18]

/-- R146 and R350: an OP_SPOOF charged to an endpoint function. -/
def State.chargeSpoof (s : State) (port fn : Nat) : State :=
  ((s.aerCor port fn 14).set PCIE_PORT_EVT.SPOOF_CHARGED port 1).raise { coll := portColl port, bit := 2, detail := s.headerDetail port fn }

/-! ### Requests -/

/-- R353: T in ticks. -/
def State.cplTicks (s : State) (p : Nat) : Nat := usTicks (s.fld PCIE_PORT_STATUS.CPL_TO_US p)

/-- How many tags of a port a function or link holds, outstanding or quarantined. -/
def State.tagsOf (s : State) (p fn : Nat) : Nat :=
  (s.pcie.reads.filter (fun r => r.port == p && r.fn == fn)).length + (s.pcie.holds.filter (fun h => h.port == p && h.fn == fn)).length

/-- R334: the tag that a request carries on its link: 14 bits in flit mode, else 10; the rows name requests by the port's own number. -/
def State.wireTag (s : State) (p fn t : Nat) : Nat := if s.flitMode p fn then t else t % 1024

/-- The lowest of a port's 8,192 numbers whose request is neither outstanding nor quarantined (R334), and whose tag on the link is no
other's of the same function or link, whose Requester ID tells them apart: outside flit mode each has 1,024. -/
def State.freeTag (s : State) (p fn : Nat) : Option Nat :=
  if s.flitMode p fn = false ∧ 1024 ≤ s.tagsOf p fn then none
  else
    let used := (s.pcie.reads.filter (fun r => r.port == p)).map (fun r => (r.fn, r.tag)) ++
      (s.pcie.holds.filter (fun h => h.port == p)).map (fun h => (h.fn, h.tag))
    (List.range 8192).find? (fun t => used.all (fun u => u.2 != t && !(u.1 == fn && s.wireTag p fn u.2 == s.wireTag p fn t)))

/-- Issues a non-posted request of a function at an address for `n` bytes, with its attributes (R348: bit 0 Relaxed Ordering, bit 1
ID-Based Ordering); none where no tag is free. -/
def State.issueRead (s : State) (p fn addr n attr : Nat) (who : Asker) : Option State :=
  match s.freeTag p fn with
  | none => none
  | some t =>
    let s' : State := { s with pcie := { s.pcie with reads := s.pcie.reads ++ [⟨p, t, fn, who, s.stb, none⟩] } }
    some (s'.emit .pcieRead [p, fn, s.wireTag p fn t, addr, n, attr])

/-- Issues a configuration request of a root link: a read of `n` bytes of a register for a hart, or a write of bytes (R338); none where no
tag is free. -/
def State.issueConfig (s : State) (p fn reg n : Nat) (who : Asker) (data : List Byte) : Option State :=
  match s.freeTag p fn with
  | none => none
  | some t =>
    let s' : State := { s with pcie := { s.pcie with reads := s.pcie.reads ++ [⟨p, t, fn, who, s.stb, some (reg, n, s.stb)⟩] } }
    some (s'.emit .pcieConfig [p, fn, s.wireTag p fn t, reg, n] data)

/-- Sends a memory write of a function with its attributes. -/
def State.postWrite (s : State) (p fn addr attr : Nat) (data : List Byte) : State := s.emit .pcieWrite [p, fn, addr, attr] data

/-! ### Aborted ops -/

/-- R330: the count of a function's ops that were recorded as aborted. -/
def State.countAbort (s : State) (port fn : Nat) : State := s.bumpSat TNT_VF.ABORTED (vfIdx port fn) 1

/-- One op of a channel less outstanding at its engine (IE_CH_STATE.OUTSTANDING). -/
def State.lessOutstanding (s : State) (e ch : Nat) : State :=
  s.set IE_CH_STATE.OUTSTANDING (chIdx e ch) (s.fld IE_CH_STATE.OUTSTANDING (chIdx e ch) - 1)

/-- R151, R332 and R355: an op is aborted with its completion path disabled: cores that hold it are told, its records are
voided, and a record of it moves to the lowest free kept entry, or it is only counted. The record keeps the abort's stamp. -/
def State.abortRecord (s : State) (i result : Nat) : State :=
  match s.op i with
  | none => s
  | some o =>
    let ps := s.parts i
    let s := ps.foldl (fun s p => match s.holder p with
      | some c => if s.is DSP_CORE.ANSWERED c then s else s.coreAnswered c 3
      | none => s) s
    let s := ((s.settleRecs (ps.map Op.id) none).2).lessOutstanding o.engine o.ch
    let s := (ps.map Op.id).foldl State.freeEntry s
    let s := match s.chan o.ch with
      | some k => if k.srcKind = 1 then s.countAbort k.port k.fn else s
      | none => s
    match s.keptEntry with
    | some k => s.setOp { o with id := k, state := .aborted, core := none, result := result, dispatched := s.stb, units := 0, used := 0,
                                 owner := (s.chan o.ch).map (fun k => (k.port, k.fn)) }
    | none => s

/-- Whether an op's completion path is enabled: a core channel's always, an endpoint function's with Bus Master Enable and
outside a reset (R355, R356). -/
def State.pathOpen (s : State) (ch : Nat) : Bool :=
  match s.chan ch with
  | some k => k.srcKind == 0 || (s.bme k.port k.fn && !(s.pcie.resets.any (fun r => r.port == k.port && r.fn == k.fn)))
  | none => false

/-- Aborts an op: OP_ABORTED if its completion path is enabled, else a record of it (R355). -/
def State.abortOp (s : State) (o : Op) (result : Nat) : State :=
  if s.pathOpen o.ch then s.decideOp o.main 3 result 0 none else s.abortRecord o.main result

end Sys2Proof.Machine
end

