-- ==== Sys2Proof/Machine/Flits.lean ====
section
/-! DEFINITION. The flits of courses and package links (R272, R289): their layout, CRC-32C, the packets in them, and the transmitters of
the links with their replay buffers and credits (R273, R288). -/

namespace Sys2Proof.Machine

/-! ### Layout -/

/-- One bit of CRC-32C, reflected. -/
def crcStep (c : Nat) : Nat := if c % 2 = 1 then c / 2 ^^^ 0x82F63B78 else c / 2

/-- One byte of CRC-32C. -/
def crcByte (c : Nat) (b : Byte) : Nat :=
  crcStep (crcStep (crcStep (crcStep (crcStep (crcStep (crcStep (crcStep (c ^^^ b.toNat))))))))

/-- CRC-32C of a list of bytes. -/
def crc32c (bs : List Byte) : Nat := bs.foldl crcByte 0xFFFFFFFF ^^^ 0xFFFFFFFF

/-- A flit as its bytes: bit b is bit b mod 8 of byte b / 8. -/
def flitField (f : List Byte) (lo w : Nat) : Nat := bitsOf (leNat (f.take 64)) lo w

/-- Whether a flit's CRC is good. -/
def flitGood (f : List Byte) : Bool := f.length == 512 && crc32c (f.take 508) == leAt f 508 4

/-- R272: a flit of a type with its FSEQ, ACK, NAK and PKTS: the payload, the bits after it 0, and the CRC. -/
def flitBytes (ftype fseq ack : Nat) (nak : Bool) (pkts : Nat) (payload : List Byte) : List Byte :=
  let body := leBytes 6 (ftype + 2 ^ 2 * fseq + 2 ^ 14 * ack + 2 ^ 26 * flag nak + 2 ^ 27 * pkts) ++
    (payload ++ List.replicate 502 0).take 502
  body ++ leBytes 4 (crc32c body)

/-- R273: a flit as it is sent again: its FSEQ and payload are the original ones, its ACK is that of the moment. -/
def flitAgain (f : List Byte) (ack : Nat) : List Byte :=
  flitBytes (flitField f 0 2) (flitField f 2 12) ack false (flitField f 27 6) ((f.drop 6).take 502)

/-- R247: whether a packet carries a data unit. -/
def carriesData (cls op : Nat) : Bool :=
  (cls == 3 && (op == 0x04 || op == 0x09 || op == 0x0A || op == 0x11 || op == 0x19)) ||
    (cls == 1 && 1 ≤ op && op ≤ 4)

/-- R245: the packet that a header's bits [119:0] spell, with its data unit. -/
def headerOf (x : Nat) (data : List Byte) : Pkt :=
  { cls := bitsOf x 0 2, op := bitsOf x 2 5, txn := bitsOf x 7 15, dest := bitsOf x 22 12, src := bitsOf x 34 12,
    line := bitsOf x 46 46, tag := bitsOf x 92 6, urgency := bitsOf x 98 2, standing := x.testBit 100, world := x.testBit 101,
    circuits := bitsOf x 102 4, pinned := x.testBit 106, poison := x.testBit 107, operand := bitsOf x 108 12, data := data }

/-- A packet in a payload: its header bits [119:0], then its data unit where its opcode carries one. -/
def Pkt.inFlit (p : Pkt) : List Byte :=
  leBytes 15 p.header ++ (if carriesData p.cls p.op then (p.data ++ List.replicate 64 0).take 64 else [])

/-- R272: the packets of a payload, back to back; `pre` is the length of the prefix of R289. -/
def parsePkts (pre : Nat) : Nat → List Byte → List (Nat × Pkt)
  | 0, _ => []
  | n + 1, bs =>
    let p := headerOf (leNat ((bs.drop pre).take 15)) []
    let len := pre + 15 + (if carriesData p.cls p.op then 64 else 0)
    (leAt bs 0 pre, if carriesData p.cls p.op then { p with data := (bs.drop (pre + 15)).take 64 } else p) ::
      parsePkts pre n (bs.drop len)

/-- The packets of a flit whose PKTS is at most `most`. DESIGN CHOICE (log 35): a flit that claims more, which no transmitter sends, brings
none. -/
def flitPkts (pre most : Nat) (f : List Byte) : List (Nat × Pkt) :=
  if flitField f 27 6 ≤ most then parsePkts pre (flitField f 27 6) ((f.drop 6).take 502) else []

/-! ### Flit directions -/

/-- A direction of a course, or a link, before training. -/
def FlitDir.init : FlitDir := ⟨[], [], 0, 0, none, [], 0⟩

/-- The ACK of a receiver: the FSEQ of the last flit in order and intact. -/
def FlitDir.ack (x : FlitDir) : Nat := (x.expect + 4095) % 4096

/-- R272 and R273: the flits up to the one that an ACK names leave the replay buffer. -/
def FlitDir.acked (x : FlitDir) (a : Nat) : FlitDir :=
  match x.sent.findIdx? (fun f => f.fseq == a) with
  | some k => { x with sent := x.sent.drop (k + 1) }
  | none => x

/-- The two ends of a link or of a course direction hold nothing that is not acknowledged. -/
def FlitDir.cleared (x : FlitDir) : FlitDir := { x with sent := [], raw := none, fails := 0 }

/-! ### Links -/

/-- A package link's two ends here: its receiver, and its transmitter's replay buffer. -/
def State.linkRx (s : State) (l : Nat) : FlitDir := nget s.crs.links l FlitDir.init

/-- Sets a package link's ends. -/
def State.setLinkRx (s : State) (l : Nat) (x : FlitDir) : State := { s with crs := { s.crs with links := nput s.crs.links l x } }

/-- A flit of packets of package `src` goes out on a link (log 9). -/
def State.emitFlit (s : State) (l src : Nat) (f : List Byte) : State := s.toPackage (s.fld LINK_STATUS.PEER l) 5 [l, src] f

/-- A new flit: it takes the next FSEQ, and stays in the replay buffer until it is acknowledged. -/
def State.sendFlit (s : State) (l ftype src pkts : Nat) (payload : List Byte) : State :=
  let x := s.linkRx l
  let f := flitBytes ftype x.next x.ack false pkts payload
  (s.setLinkRx l { x with next := (x.next + 1) % 4096, sent := x.sent ++ [⟨x.next, src, f⟩] }).emitFlit l src f

/-- R273 and R290: the flits of a link that are not acknowledged are sent again. -/
def State.replayLink (s : State) (l : Nat) : State :=
  let x := s.linkRx l
  x.sent.foldl (fun (s : State) f => s.emitFlit l f.src (flitAgain f.bytes x.ack)) s

/-- R288: whether the transmitter has room for a packet: fewer than 2,048 flits and, of the packet's class and virtual channel, fewer than 64
packets are not acknowledged. DESIGN CHOICE (log 35): a credit comes back with the ACK of its flit; the spec gives credits no other message. -/
def State.linkRoom (s : State) (e : LinkPkt) : Bool :=
  let x := (s.linkRx e.link).sent
  decide (x.length < 2048) &&
    decide ((x.filter (fun f => flitField f.bytes 0 2 == 1 && flitField f.bytes 58 1 == e.vc && flitField f.bytes 64 2 == e.pkt.cls)).length < 64)

/-- Sends what waits for a link, as far as there is room. DESIGN CHOICE (log 35): one packet in each flit. -/
def State.pumpLink (s : State) (l : Nat) : State :=
  s.cst.linkQ.foldl (fun (s : State) e =>
    if e.link = l ∧ s.linkRoom e then
      ({ s with cst := { s.cst with linkQ := s.cst.linkQ.erase e } } : State).sendFlit l 1 e.src 1
        (leBytes 2 (e.pkg % 1024 + 1024 * e.vc) ++ e.pkt.inFlit)
    else s) s

/-- A data unit that a link carries, received (0) or sent (1), in its counters and captures. -/
def State.countLink (s : State) (l d : Nat) (p : Pkt) : State :=
  if carriesData p.cls p.op then
    (s.count (linkBank l) { code := 0x30B + d, world := some p.world, tag := some p.tag }).carry (linkBank l) d p.standing
  else s

/-- A packet of package `src` for package `pkg` leaves by a link on a virtual channel; on a link that is down it is dropped (R307). -/
def State.sendLink (s : State) (l pkg vc src : Nat) (p : Pkt) : State :=
  if s.fld LINK_STATUS.STATE l ≠ 2 then s
  else
    let s := s.countLink l 1 p
    ({ s with cst := { s.cst with linkQ := s.cst.linkQ ++ [⟨l, pkg, vc, src, { p with circuits := 0, pinned := false, pkg := none, issued := none }⟩] } } : State).pumpLink l

end Sys2Proof.Machine
end

