-- ==== Sys2Proof/Machine/Routes.lean ====
section
/-! DEFINITION. The routes to other packages (R291 to R293, R295), and the home slice of every line (R256, R296). -/

namespace Sys2Proof.Machine

/-- The coordinates of a package in the torus. -/
def State.coords (s : State) (n : Nat) : Nat × Nat × Nat :=
  let x := s.fld CST_STATUS.DIM_X 0 + 1
  let y := s.fld CST_STATUS.DIM_Y 0 + 1
  (n % x, n / x % y, n / (x * y))

/-- The link of a dimension toward a coordinate: the direction with fewer hops, + on a tie; none where they are equal. -/
def dimLink (d size a b : Nat) : Option Nat :=
  if a = b ∨ size = 0 then none
  else
    let f := (b + size - a) % size
    some (2 * d + (if f ≤ size - f then 0 else 1))

/-- R292: the first link that dimension order gives. -/
def State.torusLink (s : State) (n : Nat) : Option Nat :=
  let a := s.coords (s.fld CST_STATUS.NUMBER 0)
  let b := s.coords n
  match dimLink 0 (s.fld CST_STATUS.DIM_X 0 + 1) a.1 b.1 with
  | some l => some l
  | none =>
    match dimLink 1 (s.fld CST_STATUS.DIM_Y 0 + 1) a.2.1 b.2.1 with
    | some l => some l
    | none => dimLink 2 (s.fld CST_STATUS.DIM_Z 0 + 1) a.2.2 b.2.2

/-- The alternate of a computed link: the other link of a dimension of size 2 (R291). -/
def State.torusAlternate (s : State) (l : Nat) : Option Nat :=
  let size := if l / 2 = 0 then s.fld CST_STATUS.DIM_X 0 + 1 else if l / 2 = 1 then s.fld CST_STATUS.DIM_Y 0 + 1
    else s.fld CST_STATUS.DIM_Z 0 + 1
  if size = 2 then some (2 * (l / 2) + 1 - l % 2) else none

/-- Whether a link is up. -/
def State.linkUp (s : State) (l : Nat) : Bool := s.fld LINK_STATUS.STATE l == 2

/-- R292: the primary and the alternate first link toward a package. -/
def State.routeTo (s : State) (n : Nat) : Option Nat × Option Nat :=
  let i := n / 8
  let e := n % 8
  if s.is (CST_ROUTE.VALID.nth 8 e) i then
    (some (s.fld (CST_ROUTE.PRIMARY.nth 8 e) i),
      if s.is (CST_ROUTE.ALT_VALID.nth 8 e) i then some (s.fld (CST_ROUTE.ALTERNATE.nth 8 e) i) else none)
  else if s.is CST_STATUS.TOPOLOGY 0 then (none, none)
  else
    let l := s.torusLink n
    (l, l.bind s.torusAlternate)

/-- The first link that new traffic to a package takes: the alternate only while the primary is down. -/
def State.firstLink (s : State) (n : Nat) : Option Nat :=
  let r := s.routeTo n
  match r.1 with
  | none => none
  | some l => if s.linkUp l then some l else match r.2 with
    | some a => if s.linkUp a then some a else none
    | none => none

/-- R292: the virtual channel on which a packet that came in on link `l` leaves on link `o`. Links 6 and 7 have no dimension: a packet that
comes in by one keeps its channel until it crosses a wrap link. -/
def State.nextChannel (s : State) (l o vc : Nat) : Nat :=
  let c := s.coords (s.fld CST_STATUS.NUMBER 0)
  let at_ := if o / 2 = 0 then c.1 else if o / 2 = 1 then c.2.1 else c.2.2
  let last := if o / 2 = 0 then s.fld CST_STATUS.DIM_X 0 else if o / 2 = 1 then s.fld CST_STATUS.DIM_Y 0 else s.fld CST_STATUS.DIM_Z 0
  if s.is CST_STATUS.TOPOLOGY 0 ∨ 6 ≤ o then vc
  else if (o % 2 = 0 ∧ at_ = last) ∨ (o % 2 = 1 ∧ at_ = 0) then 1
  else if 6 ≤ l ∨ l / 2 = o / 2 then vc else 0

/-- The line by which other packages know a local line: that of an export segment (R294). -/
def State.exportLine (s : State) (line : Nat) : Nat :=
  let a := 64 * line
  match (List.range 32).find? (fun k => s.is CST_EXPORT.VALID k && s.fld CST_EXPORT.BASE k == a / 2 ^ 36) with
  | some k => (0x8000000000000 + s.fld CST_STATUS.NUMBER 0 * 2 ^ 41 + k * 2 ^ 36 + a % 2 ^ 36) / 64
  | none => line

/-- R292: a packet of this package goes out by the first link of its route, on virtual channel 0, or 1 where that link crosses the wrap; no
link being up, it is dropped (R307). A local line goes by its export address. Its SRC is a unit of this package, but for a snoop, whose SRC is
the requester (R262). -/
def State.sendOut (s : State) (pkg : Nat) (p : Pkt) : State :=
  let line := match addrKind (64 * p.line) with
    | .local_ => s.exportLine p.line
    | _ => p.line
  match s.firstLink pkg with
  | some l => s.sendLink l pkg (s.nextChannel l l 0) ((if p.cls = 2 then p.pkg else none).getD (s.fld CST_STATUS.NUMBER 0)) { p with line := line }
  | none => s

/-- The lowest ID that none of a proxy home's remote transactions has. -/
def State.freeRemote (s : State) (h : Nat) : Nat :=
  ((List.range 32768).find? (fun n => !(s.cst.remotes.any (fun r => r.slice == h && r.txn == n)))).getD 0

/-- Whether a package is a member of the constellation. -/
def State.isMember (s : State) (n : Nat) : Bool :=
  s.is CST_STATUS.MEMBER 0 && (s.word .CST_MEMBERS (n / 64) 0).toNat.testBit (n % 64)

/-- R295: whether a package lies in this package's coherence group. -/
def State.inGroup (s : State) (n : Nat) : Bool :=
  s.isMember n && n / 4 == s.fld CST_STATUS.COH_GROUP 0 && decide (n % 4 < s.fld CST_STATUS.GROUP_SIZE 0)


/-! ### Homes -/

/-- R256 and R296: the home slice of a line: that of its node, or the proxy home on the quadrant of the route's first link. -/
def State.lineHome (s : State) (line : Nat) : Option Nat :=
  match addrKind (64 * line) with
  | .local_ => some (homeSlice (64 * line))
  | .window w => (s.firstLink w).map (fun l => 16 * (l / 2) + sliceBits (64 * line))
  | _ => none

end Sys2Proof.Machine
end

