-- ==== Sys2Proof/Machine/RingOps.lean ====
section
/-! DEFINITION. The rings (R232 to R246): stops and their order, slots, the path of a packet, sending one, and the packets that have come
to their targets. -/

namespace Sys2Proof.Machine

/-! ### Units in packets (R246) -/

/-- The region of a DEST or SRC. -/
def unitRegion (x : Nat) : Nat := bitsOf x 7 5
/-- The stop of a DEST or SRC. -/
def unitStop (x : Nat) : Nat := bitsOf x 3 4
/-- The UNIT of a DEST or SRC. -/
def unitSub (x : Nat) : Nat := bitsOf x 0 3
/-- The encoding of R246. -/
def unitCode (region stop sub : Nat) : Nat := 128 * region + 8 * stop + sub
/-- A core as a unit. -/
def coreCode (c : Nat) : Nat := unitCode (c / 24) (c % 24 / 4) (c % 4)
/-- A home slice as a unit. -/
def sliceCode (h : Nat) : Nat := unitCode (12 + h / 16) (3 + h % 16 / 8) (h % 8)
/-- The home slice that a DEST names, if it names one. -/
def sliceOf (x : Nat) : Option Nat :=
  let r := unitRegion x
  let b := unitStop x
  if 12 ≤ r ∧ r < 16 ∧ (b = 3 ∨ b = 4) then some (16 * (r - 12) + 8 * (b - 3) + unitSub x) else none
/-- The core that a SRC names, if it names one. -/
def codeCore (x : Nat) : Option Nat :=
  if unitRegion x < 12 ∧ unitStop x < 6 ∧ unitSub x < 4 then some (24 * unitRegion x + 4 * unitStop x + unitSub x) else none
/-- A memory controller as a unit: its UNIT is 0. -/
def mcCode (c : Nat) : Nat :=
  if c < 16 then unitCode (12 + c / 4) (c % 4 / 2) 0 else unitCode (12 + (c - 16) / 16) 2 0

/-! ### Stops and slots (R232, R233, R236) -/

/-- The stops of a ring in the order of direction 0. Rings 0 to 11 are the bricks', 12 to 15 the quadrants', 16 is the spine. -/
def ringOrder (r : Nat) : List Nat :=
  if r < 12 then [0, 1, 2, 6, 7, 10, 8, 9, 3, 4, 5]
  else if r < 16 then [0, 1, 2, 8, 3, 4, 9, 5, 6, 10, 7, 11]
  else [0, 4, 5, 1, 6, 7, 2, 8, 9, 3, 10, 11]

/-- The lanes of each direction of a ring (R232). -/
def ringLanes (r : Nat) : Nat := if r < 12 then 1 else 24

/-- The ring cycles of 2.5 GHz up to a stamp (R103). -/
def ringCycles (t : Stamp) : Nat := t * 5 / 8

/-- The stamp that times a ring: a brick's or quadrant's by its region's replica, the spine by the master STB (R103, R232). -/
def State.ringStamp (s : State) (ring : Nat) : Stamp := if ring < 16 then s.regionStb ring else s.stb

/-- The ring cycle that a ring is in. -/
def State.cycle (s : State) (ring : Nat) : Nat := ringCycles (s.ringStamp ring)

/-- The hops from a stop to another in direction 0. -/
def hops (r a b : Nat) : Nat :=
  let o := ringOrder r
  (o.idxOf b + o.length - o.idxOf a) % o.length

/-- R234: the direction in which a packet enters a ring. -/
def ringDir (r a b : Nat) : Nat :=
  let h := hops r a b
  if h ≤ (ringOrder r).length - h then 0 else 1

/-- The stop that lies a number of hops on in a direction. -/
def stopAfter (r stop dir n : Nat) : Nat :=
  let o := ringOrder r
  o.getD ((o.idxOf stop + (if dir = 0 then n else (o.length - 1) * n)) % o.length) 0

/-- R232 and R234: the ring, stop, direction and lane of the slot that a riding packet is in: one stop on per ring cycle. -/
def State.rideSlot (s : State) (f : Flight) : Option (Nat × Nat × Nat × Nat) :=
  match f.place with
  | .riding r x d l => some (r, stopAfter r x d (s.cycle r - ringCycles f.since), d, l)
  | _ => none

/-- R236: a lane of a direction whose slot at a stop is empty. DESIGN CHOICE (log 46): a stop injects into the lowest. -/
def State.freeLane (s : State) (ring stop dir : Nat) : Option Nat :=
  (List.range (ringLanes ring)).find? (fun l => s.fab.net.all (fun f => s.rideSlot f != some (ring, stop, dir, l)))

/-! ### Arbiters (R21, R111) -/

/-- R21: how many indices from the one after the last winner an index lies. -/
def turnRank (turn i : Nat) : Nat := if turn ≤ i then i - turn else i + 4096 - turn

/-- R111: booked standing first, then higher urgency. -/
def Pkt.rank111 (p : Pkt) : Nat := (if p.standing then 0 else 1) * 4 + (3 - min p.urgency 3)

/-- The pointer of an arbiter that is no port of R254: those of the claims (ring × 2 + direction), and from 1,000 up of the controllers'
queues, from 2,000 up of the metering points, from 4,000 up of the register ports. It is 0 after reset. -/
def State.turn (s : State) (k : Nat) : Nat := nget s.fab.turns k 0

/-- An arbiter has granted an index. -/
def State.setTurn (s : State) (k n : Nat) : State := { s with fab := { s.fab with turns := nput s.fab.turns k (n + 1) } }

/-- A port's tenure, by 8 × the place of its ARB_PORT + its instance. -/
def State.tenure (s : State) (k : Nat) : Tenure := nget s.fab.tenures k ⟨none, false, 0, 0, 0, 0, 0, [], [], 0⟩

/-- Sets a port's tenure. -/
def State.setTenure (s : State) (k : Nat) (x : Tenure) : State := { s with fab := { s.fab with tenures := nput s.fab.tenures k x } }

/-! ### Paths (R235) -/

/-- The course of a brick that a packet takes toward a quadrant: that of the quadrant, or the lowest that survives. -/
def State.courseFor (s : State) (b q : Nat) : Nat :=
  if s.fld CRS_STATUS.WIDTH (4 * b + q) ≠ 2 then q
  else ((List.range 4).find? (fun c => s.fld CRS_STATUS.WIDTH (4 * b + c) != 2)).getD q

/-- q(line) of R235 for a packet to brick `c`: the quadrant of the line's home slice, or c mod 4. -/
def State.lineQuad (s : State) (c : Nat) (p : Pkt) : Nat :=
  match s.lineHome p.line with
  | some h => h / 16
  | none => c % 4

/-- R235: the quadrant whose course the table names for a packet that leaves a brick. -/
def State.quadOut (s : State) (p : Pkt) : Nat :=
  let r := unitRegion p.dest
  if r < 12 then s.lineQuad r p else if r < 16 then r - 12 else (unitStop p.dest - 4) / 2

/-- R235: the quadrant whose course the table names for a packet that comes to a brick: q(line) from a brick, its own from a quadrant.
DESIGN CHOICE (log 46): q(line) from a chip block. -/
def State.quadIn (s : State) (origin : Nat) (p : Pkt) : Nat :=
  if 12 ≤ origin ∧ origin < 16 then origin - 12 else s.lineQuad (unitRegion p.dest) p

/-- R235: the stop at which a packet leaves the ring it is on. -/
def State.exitStop (s : State) (ring origin : Nat) (p : Pkt) : Nat :=
  let r := unitRegion p.dest
  if r = ring then unitStop p.dest
  else if ring < 12 then 6 + s.courseFor ring (s.quadOut p)
  else if ring < 16 then
    if r < 12 ∧ s.courseFor r (s.quadIn origin p) = ring - 12 then 8 + r / 4 else 11
  else if r < 12 then s.courseFor r (s.quadIn origin p) else r - 12

/-- Whether the path R235 names for a packet that sets out from a region crosses a retired course; it then travels with standing 0. -/
def State.detours (s : State) (origin : Nat) (p : Pkt) : Bool :=
  let r := unitRegion p.dest
  decide (r ≠ origin) &&
    ((decide (origin < 12) && s.fld CRS_STATUS.WIDTH (4 * origin + s.quadOut p) == 2) ||
      (decide (r < 12) && s.fld CRS_STATUS.WIDTH (4 * r + s.quadIn origin p) == 2))

/-- The standing a packet travels with (R235). -/
def State.onPath (s : State) (origin : Nat) (p : Pkt) : Pkt := { p with standing := p.standing && !(s.detours origin p) }

/-- Adds a packet to those that wait to enter a ring at a stop. -/
def State.enqueueAt (s : State) (ring stop origin : Nat) (p : Pkt) : State :=
  { s with fab := { s.fab with net := s.fab.net ++ [⟨{ s.onPath origin p with circuits := 0, pinned := false }, .waiting ring stop, s.ringStamp ring, origin, [], none⟩] } }

/-- The unit a packet is sent by waits at its own stop: `from_` is that unit. -/
def State.sendFrom (s : State) (from_ : Nat) (p : Pkt) : State := s.enqueueAt (unitRegion from_) (unitStop from_) (unitRegion from_) p

/-- The ring and the stop at which a packet waits to be injected: at its own stop, from one ring to another, or from a course. -/
def Flight.entry (f : Flight) : Option (Nat × Nat) :=
  match f.place with
  | .waiting ring stop => some (ring, stop)
  | .ejected ring stop _ =>
    if unitRegion f.pkt.dest = ring ∨ ring < 12 then none
    else if ring < 16 then (if stop = 11 then some (16, ring - 12) else none)
    else some (12 + stop, 11)
  | .received b c d => if d = 0 then some (12 + c, 8 + b / 4) else some (b, 6 + c)
  | .riding _ _ _ _ => none

/-- The packets that wait for a course, by brick, course and direction: in the ejection buffers of the course stop. -/
def Flight.courseEntry (f : Flight) : Option (Nat × Nat × Nat) :=
  match f.place with
  | .ejected ring stop _ =>
    if unitRegion f.pkt.dest = ring then none
    else if ring < 12 then (if 6 ≤ stop ∧ stop < 10 then some (ring, stop - 6, 0) else none)
    else if ring < 16 then (if 8 ≤ stop ∧ stop < 11 then some (unitRegion f.pkt.dest, ring - 12, 1) else none)
    else none
  | _ => none

/-! ### Forwarding (R293) -/

/-- A forwarded packet leaves by its link, with the DEST it came with. -/
def State.leaveBy (s : State) (v : Forwarded) (p : Pkt) : State := s.sendLink v.link v.pkg v.vc v.src { p with dest := v.dest }

/-- The unit code of the cell of a link. -/
def linkCell (l : Nat) : Nat := unitCode (12 + l / 2) 6 (l % 2)

/-- R293: a packet for another package crosses the rings from the cell of link `l` to that of the link it leaves by, with standing 0; the two
cells of one stop pass it on at once. DESIGN CHOICE (log 9): on the rings its DEST is that cell, and it keeps its own aside. -/
def State.crossTo (s : State) (l : Nat) (v : Forwarded) (p : Pkt) : State :=
  let q := { p with standing := false, circuits := 0, pinned := false }
  if v.link / 2 = l / 2 then s.leaveBy v q
  else
    let ring := 12 + l / 2
    { s with fab := { s.fab with net := s.fab.net ++
        [{ pkt := { q with dest := linkCell v.link }, place := .waiting ring 6, since := s.ringStamp ring, origin := ring, via := some v }] } }

/-! ### Pin queues (R243) -/

/-- The key of the pin queue of a stop and class; the queued packets that hold a reserved entry stand at 4 + class. -/
def pinKey (ring stop : Nat) (cls : Nat) : Nat × Nat := (16 * ring + stop, cls)

/-- The packets queued or reserved at a key, by source and TXN_ID. -/
def State.pinned (s : State) (k : Nat × Nat) : List (Nat × Nat) := (lookupKey k s.fab.pins).getD []

/-- Sets the packets at a key. -/
def State.setPinned (s : State) (k : Nat × Nat) (x : List (Nat × Nat)) : State :=
  { s with fab := { s.fab with pins := if x.isEmpty then dropKey k s.fab.pins else putBy pairLt k x s.fab.pins } }

/-- An entry of an ejection buffer is reserved for the oldest queued pinned packet that has none. -/
def State.reserveEntry (s : State) (ring stop cls : Nat) : State :=
  match s.pinned (pinKey ring stop cls) with
  | [] => s
  | x :: r => (s.setPinned (pinKey ring stop cls) r).setPinned (pinKey ring stop (4 + cls)) (s.pinned (pinKey ring stop (4 + cls)) ++ [x])

/-- A pinned packet leaves its ring otherwise than by ejecting: the pin queues of the ring's stops hold it no longer, and an entry that was
reserved for it is reserved for the next. -/
def State.unpin (s : State) (ring : Nat) (p : Pkt) : State :=
  (ringOrder ring).foldl (fun (s : State) x =>
    let k := pinKey ring x p.cls
    let k4 := pinKey ring x (4 + p.cls)
    let s := s.setPinned k ((s.pinned k).erase (p.src, p.txn))
    if (s.pinned k4).contains (p.src, p.txn) then (s.setPinned k4 ((s.pinned k4).erase (p.src, p.txn))).reserveEntry ring x p.cls else s) s

/-- Takes the packet at a place of the list of those in flight off; an ejection-buffer entry that frees may be reserved (R243). -/
def State.takeAt (s : State) (i : Nat) : State :=
  let t : State := { s with fab := { s.fab with net := s.fab.net.eraseIdx i } }
  match s.fab.net[i]? with
  | some f => match f.place with
    | .ejected ring stop _ => t.reserveEntry ring stop f.pkt.cls
    | .riding ring _ _ _ => if f.pkt.pinned then t.unpin ring f.pkt else t
    | _ => t
  | none => t

/-! ### Packets at their targets -/

/-- Whether two packets are the same but for what the rings do to them. -/
def Pkt.like (q p : Pkt) : Bool := { q with circuits := p.circuits, pinned := p.pinned } == p

/-- Whether a packet has ejected at the stop of its target (R241, R242). -/
def Flight.arrived (f : Flight) : Bool :=
  match f.place with
  | .ejected ring stop _ => ring == unitRegion f.pkt.dest && stop == unitStop f.pkt.dest
  | _ => false

/-- The place in the list of packets in flight of one that has come to its target's stop. -/
def State.here (s : State) (p : Pkt) : Option Nat := s.fab.net.findIdx? (fun f => f.arrived && f.pkt.like p)

end Sys2Proof.Machine
end

