-- ==== Sys2Proof/Machine/UnitOps.lean ====
section
/-! DEFINITION. Units named by UNIT (R58), and what taking a unit out of service and bringing it back does: cores and core
blocks (R198), memory channels and pairs (R225, R229, R230), courses and bricks (R278, R279), links and ports (R71). -/

namespace Sys2Proof.Machine

/-! ### UNIT -/

/-- What a UNIT names (R58). -/
inductive UnitRef where
  | chip
  | region (l : Nat)
  | block (l b : Nat)
  | cell (l b k : Nat)
  | course (b c : Nat)
  | lane (b c n d : Nat)
deriving DecidableEq, Repr

/-- The number of cells a block has (R12, R22, R23). -/
def cellsOf (l b : Nat) : Nat :=
  if l < 12 then (if b < 6 then 4 else 0)
  else if l < 16 then
    match b with
    | 0 => 2 | 1 => 2 | 2 => 16 | 3 => 8 | 4 => 8 | 5 => 2 | 6 => 2 | 7 => 4 | _ => 0
  else match b with
    | 0 => 3 | 4 => 2 | 1 => 1 | 2 => 1 | 3 => 1 | 5 => 1 | 6 => 1 | 7 => 1 | _ => 0

/-- The unit that a UNIT names (R58); none for one that does not exist. DESIGN CHOICE (log 43): a course, a whole region and the chip carry
CELL 0xFF. -/
def unitRef (u : Nat) : Option UnitRef :=
  let r := bitsOf u 0 8
  let b := bitsOf u 8 8
  let k := bitsOf u 16 8
  match bitsOf u 24 8 with
  | 0 =>
    let l := if r = 255 then 16 else r
    if r ≠ 255 ∧ 15 < r then none
    else if b = 255 then (if k = 255 then some (if l = 16 then .chip else .region l) else none)
    else if k = 255 then (if 0 < cellsOf l b then some (.block l b) else none)
    else if k < cellsOf l b then some (.cell l b k) else none
  | 1 => if r < 12 ∧ b < 4 ∧ k = 255 then some (.course r b) else none
  | 2 => if r < 12 ∧ b < 4 ∧ bitsOf u 16 7 < 68 then some (.lane r b (bitsOf u 16 7) (bitsOf u 23 1)) else none
  | _ => none

/-- The collector of a hierarchy unit. -/
def UnitRef.coll : UnitRef → Option Coll
  | .chip => some .chip
  | .region l => some (.region l)
  | .block l b => some (.block l b)
  | .cell l b k => some (.cell l b k)
  | _ => none

/-- The core that a unit is. -/
def UnitRef.core : UnitRef → Option Nat
  | .cell l b k => if l < 12 then some (24 * l + 4 * b + k) else none
  | _ => none

/-- The core block that a unit is, as 6 × brick + block. -/
def UnitRef.coreBlock : UnitRef → Option Nat
  | .block l b => if l < 12 then some (6 * l + b) else none
  | _ => none

/-- The memory controller that a unit is. -/
def UnitRef.mc : UnitRef → Option Nat
  | .cell l b k =>
    if 12 ≤ l ∧ l < 16 then
      (if b < 2 then some (4 * (l - 12) + 2 * b + k) else if b = 2 then some (16 + 16 * (l - 12) + k) else none)
    else none
  | _ => none

/-- The memory node that a unit names: its controller's, or that of a whole block Kq.0, Kq.1 or Kq.2 (R448). -/
def UnitRef.node (u : UnitRef) : Option Nat :=
  match u with
  | .block l b => if 12 ≤ l ∧ l < 16 then (if b < 2 then some (l - 12 + 4) else if b = 2 then some (l - 12) else none) else none
  | _ => u.mc.map mcNode

/-- The UNIT of a core block. -/
def blockUnit (bb : Nat) : Nat := (Coll.block (bb / 6) (bb % 6)).unit
/-- The UNIT of a course, given as 4 × brick + course. -/
def courseUnit (i : Nat) : Nat := 0x01FF0000 + i % 4 * 256 + i / 4
/-- The UNIT of a memory controller. -/
def mcUnit (c : Nat) : Nat := (mcColl c).unit

/-- The ALM_CAP entries of a course's two directions (R112). -/
def dirRes (i : Nat) : List Nat := [20 + 2 * i, 21 + 2 * i]

/-- R80: EV_UNIT_RETIRED of a unit. -/
def State.retiredEvent (s : State) (unit : Nat) : State := s.event 0x05 s.stb (leBytes 4 unit) (s.unitScope unit)

/-! ### Power domains -/

/-- The place of a domain's PWR_DOMAIN: 8 × level + block for blocks, 136 + level for regions and the chip (R384). -/
def domainIdx (u : UnitRef) : Option Nat :=
  match u with
  | .block l b => some (8 * l + b)
  | .region l => some (136 + l)
  | .chip => some 152
  | _ => none

/-- Whether a cell of a core block is not OFF. -/
def State.cellHolds (s : State) (bb : Nat) : Bool :=
  (List.range 4).any (fun k => s.fld CORE_PWR.STATE (4 * bb + k) != 3)

/-- PWR_DOMAIN.CELL_HOLD of a core block and of its region (R384). -/
def State.refreshHold (s : State) (bb : Nat) : State :=
  let l := bb / 6
  let s := s.set PWR_DOMAIN.CELL_HOLD (8 * l + bb % 6) (flag (s.cellHolds bb))
  s.set PWR_DOMAIN.CELL_HOLD (136 + l) (flag ((List.range 6).any (fun b => s.is PWR_DOMAIN.ON (8 * l + b))))

/-- Sets the power state of a core (R380). -/
def State.setCorePwr (s : State) (c v : Nat) : State := (s.set CORE_PWR.STATE c v).refreshHold (c / 4)

/-! ### Block caches -/

/-- The lines of a block. -/
def State.blockLines (s : State) (bb : Nat) : List (Nat × CLine) :=
  (s.fab.lines.filter (fun q => q.1.1 == bb)).map (fun q => (q.1.2, q.2))

/-- Replaces a block's line. -/
def State.putLine (s : State) (bb line : Nat) (x : CLine) : State :=
  { s with fab := { s.fab with lines := putBy pairLt (bb, line) x s.fab.lines } }

/-- Whether a line is dirty in a block. -/
def CLine.dirty (x : CLine) : Bool := x.st == .m || x.st == .o

/-- R296 and R299: the proxy home of a line of package `w` sends it home as an EVICT_DIRTY, a remote transaction of its own. A line that no
route leads home is lost (R307). -/
def State.evictOut (s : State) (w line : Nat) (x : CLine) : State :=
  match s.firstLink w with
  | some l =>
    let h := 16 * (l / 2) + sliceBits (64 * line)
    let p : Pkt := { cls := 3, op := 4, txn := s.freeRemote h, dest := 0, src := sliceCode h, line := line, world := x.world, poison := x.poison, data := x.data }
    ({ s with cst := { s.cst with remotes := s.cst.remotes ++ [⟨h, p.txn, line, l, s.stb, false, p⟩] } } : State).sendOut w p
  | none => s

/-- Writes a dirty line home and drops it; one of another package leaves for its exporter as an EVICT_DIRTY. -/
def State.evictNow (s : State) (bb line : Nat) (x : CLine) : State :=
  let s := if x.dirty then
      let s := s.count (blockBank (bb / 6) (bb % 6))
        { code := 0x103, world := some x.world, tag := some 0, master := some (coreCode (4 * bb)), addr := some (64 * line) }
      match lineWindow line with
      | some w =>
        s.evictOut w line x
      | none => s.writeLine line 0 x.data x.poison
    else s
  s.dropLine bb line

/-- Lines of this package that other members hold are back-invalidated (R265, R310, R314): the data that an owner sends home are its own
(log 8). -/
def State.recallLines (s : State) (p : Nat → Bool) : State :=
  let s := s.cst.dir.foldl (fun (s : State) q => q.2.ways.foldl (fun (s : State) e =>
    let line := sfLine true q.1.1 q.1.2 e.2.tag
    if e.2.owner.isSome && p line then
      let v := s.free
      v.2.writeLine line 0 (leBytes 64 v.1) false
    else s) s) s
  { s with cst := { s.cst with dir := s.cst.dir.map (fun (q : (Nat × Nat) × SfSet) =>
      (q.1, { q.2 with ways := q.2.ways.filter (fun e => !(p (sfLine true q.1.1 q.1.2 e.2.tag))) })) } }

/-- A block cache is written back and invalidated. -/
def State.flushBlock (s : State) (bb : Nat) : State :=
  (s.blockLines bb).foldl (fun s q => s.evictNow bb q.1 q.2) s

/-- The L1s of a core are invalidated; their dirty lines are in the block cache (R180, R198). -/
def State.clearL1 (s : State) (c : Nat) : State :=
  { s with fab := { s.fab with lines := s.fab.lines.map (fun (q : (Nat × Nat) × CLine) =>
      if q.1.1 = c / 4 then (q.1, { q.2 with l1 := withoutBit (withoutBit q.2.l1 (c % 4)) (4 + c % 4) }) else q) } }

/-- A hart's accesses and walks in flight end; a frame zeroed for a walk goes back to its pool (log 17). -/
def State.dropAccesses (s : State) (h : Nat) : State :=
  let s := (s.fab.walks.filter (fun w => w.hart == h)).foldl (fun (s : State) w => match w.need.frame with
    | some q => s.returnFrame q.1 q.2
    | none => s) s
  { s with fab := { s.fab with walks := s.fab.walks.filter (fun w => w.hart != h), misses := dropKey h s.fab.misses } }

/-- The translation caches of a hart are cleared. -/
def State.clearTlb (s : State) (h : Nat) : State :=
  let s := s.dropAccesses h
  { s with fab := { s.fab with tlb := s.fab.tlb.filter (fun e => e.hart != h), ptrs := s.fab.ptrs.filter (fun e => e.hart != h) } }

/-! ### Cores -/

/-- A hart's architectural state is discarded. -/
def State.wipeHart (s : State) (h : Nat) : State :=
  let s : State := { s with
    csrs := s.csrs.filter (fun q => q.1.1 != h), xregs := s.xregs.filter (fun q => q.1.1 != h),
    fregs := s.fregs.filter (fun q => q.1.1 != h), vregs := s.vregs.filter (fun q => q.1.1 != h),
    harts := dropKey h s.harts }
  let s := [Reg.BTAG, Reg.TOPID, Reg.MXBCFG, Reg.SXBCFG, Reg.CORE_WFRAME].foldl (fun (s : State) r => s.setWord r h 0 (resetWord r h 0)) s
  s.clearTlb h

/-- The core's reset vector (BOOT_VEC.ENTRY). -/
def State.resetVector (s : State) : Word := BitVec.ofNat 64 (4 * s.fld BOOT_VEC.ENTRY 0)

/-- A core starts in M mode at its reset vector with reset state; its hart's world is that of its block (R315, R381, R433).
TOPID and the dispatcher's record of the core are not the hart's. -/
def State.startCore (s : State) (c : Nat) (pll : Bool) : State :=
  let s := s.wipeHart c
  let w := flag (s.blockSecure (c / 24) (c % 24 / 4))
  let s := (s.set MWORLD.WORLD c w).set MWORLD.BLOCK_WORLD c w
  let s := ((s.setCorePwr c 0).set CORE_PWR.CLK_SRC c (flag pll)).set CORE_PWR.CLK_SWITCHING c 0
  s.setHart c { Hart.init with pc := s.resetVector, released := true }

/-- A core is a binary pair's no longer; so is its partner. -/
def State.unpairCore (s : State) (c : Nat) : State :=
  let st := s.fld CORE_PAIR.STATE c
  if 1 ≤ st ∧ st ≤ 4 then
    let p := s.fld CORE_PAIR.PARTNER c
    ((s.set CORE_PAIR.STATE c 0).set CORE_PAIR.STATE p 0)
  else s

/-- R198: a core is retired: its op goes, it leaves its group, its L1s are invalidated, it goes OFF, and its IMSIC's interrupts
are discarded. -/
def State.retireCore (s : State) (c : Nat) : State :=
  let s := ((s.dropHeld c false).leaveGroup c).clearL1 c
  let s := (s.unpairCore c).set CORE_PAIR.STATE c 5
  let s : State := { s with
    units := { s.units with coreDown := if s.units.coreDown.contains c then s.units.coreDown else s.units.coreDown ++ [c],
                            testing := s.units.testing.filter (fun x => x != c) },
    imsic := s.imsic.filter (fun q => q.1 != c) }
  (s.wipeHart c).setCorePwr c 3

/-- The cores of a block. -/
def blockCores (bb : Nat) : List Nat := (List.range 4).map (fun k => 4 * bb + k)

/-- A core block is retired: its cores are, and its cache is written back; its domain goes OFF when nothing holds it. -/
def State.retireBlock (s : State) (bb : Nat) : State :=
  let s := ((blockCores bb).foldl State.retireCore s).flushBlock bb
  { s with units := { s.units with blockDown := if s.units.blockDown.contains bb then s.units.blockDown else s.units.blockDown ++ [bb] } }

/-- A retired core returns, unpaired, in no group, at its reset vector (R198). -/
def State.restoreCore (s : State) (c : Nat) : State :=
  let s : State := { s with units := { s.units with coreDown := s.units.coreDown.filter (fun x => x != c) } }
  ((s.set CORE_PAIR.STATE c 0).set DSP_CORE.OUT c 0).startCore c false

/-- A core's domain is powered so that the core can start. -/
def State.domainUp (s : State) (i : Nat) : State :=
  if s.is PWR_DOMAIN.ON i then s else (s.set PWR_DOMAIN.ON i 1).repin (.block (i / 8) (i % 8))

/-- A retired block returns with its cores. -/
def State.restoreBlock (s : State) (bb : Nat) : State :=
  let s : State := { s with units := { s.units with blockDown := s.units.blockDown.filter (fun x => x != bb) } }
  (blockCores bb).foldl State.restoreCore ((s.domainUp (8 * (bb / 6) + bb % 6)).domainUp (136 + bb / 6))

/-! ### Memory -/

/-- MEM_NODE.STATE and MASK after a member has gone or come (R229): retired once no member is left, else degraded where a
member is retired or a device failed. A mirrored pair is a member until both its channels have gone (R225). -/
def State.refreshNode (s : State) (n : Nat) : State :=
  let ms := nodeMembers n
  let live := (ms.filter (fun c => (s.server c).isSome && (s.nodeSet n).contains c))
  let base := if n < 4 then 16 + 16 * n else 4 * (n - 4)
  let s := s.set MEM_NODE.MASK n ((live.map (fun c => 2 ^ (c - base))).sum)
  let bad := ms.any (fun c => s.fld MC_STATUS.STATE c == 5 || s.fld MC_STATUS.STATE c == 6 || s.fld MC_STATUS.FAILED_DEVICE c != 63)
  if s.fld MEM_NODE.STATE n = 0 then s
  else s.set MEM_NODE.STATE n (if live.isEmpty ∨ (n < 4 ∧ s.units.stackDown.contains n) then 3 else if bad then 2 else 1)

/-- R223: the copy or the mirroring of a pair ends: the granules of CHAN_B return populated and zero-filled. -/
def State.endMirror (s : State) (a b : Nat) : State :=
  let s := ((s.set MC_STATUS.STATE a 1).set MC_STATUS.STATE b 1)
  let was := s.mem.unmapped.contains b
  let s : State := { s with mem := { s.mem with mirrors := dropKey a s.mem.mirrors, locks := dropKey a s.mem.locks, unmapped := s.mem.unmapped.filter (fun x => x != b) } }
  let mine := fun (addr : Nat) => (s.memberAt addr).map Prod.fst == some b
  let s : State := if was then { s with mem := { s.mem with
      cells := s.mem.cells.filter (fun q => !(mine q.1)), poison := s.mem.poison.filter (fun l => !(mine (64 * l))),
      broken := s.mem.broken.filter (fun l => !(mine (64 * l))) } } else s
  s.refreshNode (mcNode a)

/-- R225, R229 and R230: a channel or pair is retired. The survivor of a mirrored pair serves alone; else the node loses the
member, and the Almanac is told. -/
def State.retireMember (s : State) (c : Nat) : State :=
  let st := s.fld MC_STATUS.STATE c
  if st = 2 ∨ st = 3 then
    ((s.set MC_STATUS.STATE c 5).set MC_STATUS.STATE (s.fld MC_STATUS.PARTNER c) 4).refreshNode (mcNode c)
  else
    let s := if st = 7 then
        let p := s.fld MC_STATUS.PARTNER c
        if (lookupKey c s.mem.mirrors).isSome then s.endMirror c p else s.endMirror p c
      else s
    ((s.set MC_STATUS.STATE c 5).refreshNode (mcNode c)).trigger [mcNode c] false (mcUnit c)

/-- R229: a stack is retired with its node. -/
def State.retireStack (s : State) (q : Nat) : State :=
  let s : State := { s with units := { s.units with stackDown := if s.units.stackDown.contains q then s.units.stackDown else s.units.stackDown ++ [q] } }
  let s := (nodeMembers q).foldl (fun (s : State) c => if s.fld MC_STATUS.STATE c = 1 then s.set MC_STATUS.STATE c 5 else s) s
  ((s.refreshNode q).trigger [q] false (0x00FF0200 + 12 + q))

/-- A memory channel or pair is retired, with its event, and its stack where 8 or more of its pairs are (R80, R229). -/
def State.retireMc (s : State) (c : Nat) : State :=
  let s := (s.retireMember c).retiredEvent (mcUnit c)
  if 16 ≤ c then
    let q := (c - 16) / 16
    let gone := ((nodeMembers q).filter (fun x => s.fld MC_STATUS.STATE x == 5)).length
    if 8 ≤ gone ∧ s.units.stackDown.contains q = false then (s.retireStack q).retiredEvent (0x00FF0200 + 12 + q) else s
  else s

/-- A retired channel or pair returns; a DDR5 channel keeps its FAILED_DEVICE (R71). -/
def State.restoreMc (s : State) (c : Nat) : State :=
  match s.mirrorOf c with
  | some p =>
    if s.fld MC_STATUS.STATE p = 4 then
      let a := if (lookupKey c s.mem.mirrors).isSome then c else p
      let b := if a = c then p else c
      ((s.set MC_STATUS.STATE a 2).set MC_STATUS.STATE b 3).refreshNode (mcNode c)
    else ((s.set MC_STATUS.STATE c 4).refreshNode (mcNode c)).trigger [mcNode c] true (mcUnit c)
  | none => ((s.set MC_STATUS.STATE c 1).refreshNode (mcNode c)).trigger [mcNode c] true (mcUnit c)

/-! ### Courses and bricks -/

/-- Whether a course is in service: not retired, its brick up. -/
def State.courseUp (s : State) (i : Nat) : Bool := s.fld CRS_STATUS.WIDTH i != 2 && s.brickUp (i / 4)

/-- The courses of a brick that survive. -/
def State.coursesUp (s : State) (b : Nat) : List Nat :=
  (List.range 4).filter (fun c => s.fld CRS_STATUS.WIDTH (4 * b + c) != 2)

/-- R278: the packets that a course still holds are injected again at their stop, with standing 0. -/
def State.reinject (s : State) (i : Nat) : State :=
  { s with fab := { s.fab with net := s.fab.net.map (fun (f : Flight) =>
      match f.courseEntry, f.place with
      | some (b, c, _), .ejected ring stop _ =>
        if 4 * b + c = i then
          { f with pkt := { f.pkt with standing := false, circuits := 0, pinned := false }, place := .waiting ring stop, since := s.ringStamp ring } else f
      | _, _ => f) } }

/-- R279: a brick's retirement begins: it takes the lock of R378, aborting a re-sync that holds it. -/
def State.beginBrick (s : State) (b : Nat) : State :=
  if s.brickUp b ∧ (lookupKey b s.units.retiring).isNone then
    let s : State := { s with units := { s.units with retiring := nput s.units.retiring b s.stb } }
    s.set MNT_STATE.TIME_LOCK 0 1
  else s

/-- The replay buffers of a course, at both ends, are empty. -/
def State.clearReplay (s : State) (i : Nat) : State :=
  { s with crs := { s.crs with dirs := s.crs.dirs.map (fun (q : Nat × FlitDir) =>
      if q.1 / 2 = i then (q.1, q.2.cleared) else q) } }

/-- R278: a course is retired: it sends no flit, its packets take the alternative path, the Almanac is told, and a brick with
fewer than 2 courses left is retired. -/
def State.retireCourse (s : State) (i : Nat) : State :=
  if s.fld CRS_STATUS.WIDTH i = 2 then s
  else
    let b := i / 4
    let s := (((s.set CRS_STATUS.WIDTH i 2).set CRS_EVT.RETIRED i 1).reinject i).clearReplay i
    let s : State := { s with crs := { s.crs with stalls := s.crs.stalls.filter (fun x => x.course != i) } }
    let s := s.raise { coll := .region b, bit := 15 + i % 4 }
    let s := (s.trigger (dirRes i) false (courseUnit i)).retiredEvent (courseUnit i)
    if (s.coursesUp b).length < 2 then s.beginBrick b else s

/-- R267: what a brick that can no longer be reached leaves: its presence is cleared, and lines it owned are poisoned. -/
def State.loseBlock (s : State) (bb : Nat) : State :=
  (s.blockLines bb).foldl (fun s q =>
    let s := if q.2.dirty then s.setPoison q.1 true else s
    s.dropLine bb q.1) s

/-- R267: whether a transaction of a line has had the SNOOP_SUM of its owner's brick, which reported it clean. -/
def State.sumClean (s : State) (h line b : Nat) : Bool :=
  s.fab.txns.any (fun x => x.slice == h && x.line == line && x.started && !(x.sums.contains b) && !(x.answers.testBit 4) &&
    (x.own.map Prod.fst) == some b)

/-- R267: every entry whose owner lay in a brick that can no longer be reached leaves its line poisoned in memory, unless it has been
reported clean, and each slice that showed the brick logs it. -/
def State.poisonOwned (s : State) (b : Nat) : State :=
  s.fab.filter.foldl (fun (s : State) q => q.2.ways.foldl (fun (s : State) e =>
    if e.2.presence.testBit b then
      let line := sfLine false q.1.1 q.1.2 e.2.tag
      let s := ((((s.set HA_ERR_LOG.ADDR q.1.1 (64 * line)).set HA_ERR_LOG.KIND q.1.1 5).bumpSat HA_ERR_LOG.COUNT q.1.1 1).set
        HA_ERR_LOG.STAMP q.1.1 (s.stampIn (12 + q.1.1 / 16)))
      let s := if s.latched (sliceColl q.1.1) 4 then s else s.raise { coll := sliceColl q.1.1, bit := 4, addr := 64 * line }
      match e.2.owner with
      | some o => if o.1 = b ∧ s.sumClean q.1.1 line b = false then s.setPoison line true else s
      | none => s
    else s) s) s

/-- The snoop filters forget a brick (R267, R279). A transaction that waits for the answer of a brick that cannot be reached (`lost`)
takes it as dirty; one that left in an orderly way has written its lines back. -/
def State.forgetBrick (s : State) (b : Nat) (lost : Bool) : State :=
  { s with fab := { s.fab with
      filter := s.fab.filter.map (fun (q : (Nat × Nat) × SfSet) => (q.1, { q.2 with ways := q.2.ways.filterMap (fun (e : Nat × SfEntry) =>
        let pres := withoutBit e.2.presence b
        if pres = 0 then none else some (e.1, sfMake false e.2.tag pres (e.2.owner.filter (fun o => o.1 != b)))) })),
      txns := s.fab.txns.map (fun (x : Txn) => if x.sums.contains b then (if lost then { x with sums := x.sums.filter (fun y => y != b), answers := x.answers ||| 17, lost := true }
          else { x with sums := x.sums.filter (fun y => y != b), had := withoutBit x.had b }) else x) } }

/-- R279, steps 1 to 5: a brick is retired. -/
def State.retireBrick (s : State) (b : Nat) : State :=
  let cores := (List.range 24).map (fun k => 24 * b + k)
  let blocks := (List.range 6).map (fun k => 6 * b + k)
  let s := cores.foldl (fun s c => (((s.dropHeld c false).leaveGroup c).unpairCore c)) s
  let s := s.triggerAt ((lookupKey b s.units.retiring).getD s.stb) ((8 + b) :: ((List.range 4).map (fun c => dirRes (4 * b + c))).flatten) false
    (Coll.region b).unit
  let lost := (s.coursesUp b).isEmpty
  let s := if lost then (blocks.foldl State.loseBlock s).poisonOwned b else blocks.foldl State.flushBlock s
  let s := (s.forgetBrick b lost).set DIE_ID.UP (1 + b) 0
  let s := cores.foldl (fun s c => (s.wipeHart c).setCorePwr c 3) s
  let s := s.sendSide b 0x31 31
  let s : State := { s with imsic := s.imsic.filter (fun q => q.1 / 24 != b),
                            crs := { s.crs with fenced := nput s.crs.fenced b 31, stalls := s.crs.stalls.filter (fun x => x.course / 4 != b) },
                            units := { s.units with retiring := dropKey b s.units.retiring,
                                                    testing := s.units.testing.filter (fun x => x / 24 != b) } }
  let s := (List.range 6).foldl (fun (s : State) k => s.set PWR_DOMAIN.ON (8 * b + k) 0) s
  let s := ((s.set PWR_DOMAIN.ON (136 + b) 0).set PWR_DOMAIN.CELL_HOLD (136 + b) 0).repin (.region b)
  (s.set MNT_STATE.TIME_LOCK 0 (flag (!s.units.retiring.isEmpty))).retiredEvent (Coll.region b).unit

/-! ### Links and ports -/

/-- R307: a link goes down: its packets are dropped. -/
def State.dropLink (s : State) (l : Nat) (state : Nat) : State :=
  if s.fld LINK_STATUS.STATE l = 2 ∨ s.fld LINK_STATUS.STATE l = 1 then
    let s := ((s.set LINK_STATUS.STATE l state).set LINK_STATUS.MARKS_OK l 0).set LINK_EVT.DOWN l 1
    let s : State := { s with cst := { s.cst with down := (l, s.stb) :: dropKey l s.cst.down, linkQ := s.cst.linkQ.filter (fun e => e.link != l) } }
    (s.setLinkRx l (s.linkRx l).cleared).raise { coll := linkColl l, bit := 1 }
  else s.set LINK_STATUS.STATE l state

/-- R195: the core that a hart runs on. The registers of a core's cell, its group, its power state and its IMSIC are its hart's (DESIGN CHOICE,
log 49). -/
def State.siliconOf (s : State) (h : Nat) : Nat := nget s.units.swapped h h

/-- The hart that runs on a core. -/
def State.hartOn (s : State) (c : Nat) : Nat := ((s.units.swapped.find? (fun q => q.2 == c)).map Prod.fst).getD c

/-- R195: two harts change places. -/
def State.exchange (s : State) (a b : Nat) : State :=
  { s with units := { s.units with swapped := nput (nput s.units.swapped a (s.siliconOf b)) b (s.siliconOf a) } }

/-- Whether a unit is out of service: retired, or never brought up (R71). -/
def State.unitOut (s : State) (u : UnitRef) : Bool :=
  match u with
  | .course b c => !(s.courseUp (4 * b + c))
  | .region l => decide (l < 12) && !(s.brickUp l)
  | _ =>
    match u.core, u.coreBlock, u.mc with
    | some c, _, _ => !(s.coreUp (s.hartOn c))
    | _, some bb, _ => !(s.brickUp (bb / 6)) || s.units.blockDown.contains bb
    | _, _, some m => s.fld MC_STATUS.STATE m == 5 || s.fld MC_STATUS.STATE m == 6 || s.fld MC_STATUS.STATE m == 0
    | _, _, _ =>
      match u with
      | .cell l 5 k => s.units.portDown.contains (2 * (l - 12) + k)
      | .cell l 6 k => s.units.linkDown.contains (2 * (l - 12) + k)
      | _ => false

/-- R71: whether the unit that contains a unit is retired. -/
def State.containerOut (s : State) (u : UnitRef) : Bool :=
  match u with
  | .course b _ => !(s.brickUp b)
  | .cell l b k =>
    if l < 12 then !(s.brickUp l) || s.units.blockDown.contains (6 * l + b)
    else b == 2 && decide (l < 16) && s.units.stackDown.contains (l - 12) && decide (k < 16)
  | .block l _ => decide (l < 12) && !(s.brickUp l)
  | _ => false

end Sys2Proof.Machine
end

