-- ==== Sys2Proof/Machine/CacheOps.lean ====
section
/-! DEFINITION. The organisation of the caches of cores and blocks (R179, R180, R183): sets, ways, their replacement, and the ways that are
disabled. -/

namespace Sys2Proof.Machine

/-! ### Replacement (R179, R258) -/

/-- A tree pseudo-LRU after the use of a way: every node on the path points away from it. Node n's bit is bit n. -/
def plruTouch (depth way bits : Nat) : Nat :=
  ((List.range depth).foldl (fun (q : Nat × Nat) i =>
    let b := bitsOf way (depth - 1 - i) 1
    (2 * q.1 + b, if b = 1 then withoutBit q.2 q.1 else withBit q.2 q.1)) (1, bits)).2

/-- The way that a tree pseudo-LRU gives among those that `ok` admits: at each node its side, or the other where its side has none. -/
def plruPick (ok : Nat → Bool) (bits : Nat) : Nat → Nat → Option Nat
  | 0, node => some node
  | d + 1, node =>
    let side := bitsOf bits node 1
    let has := fun (n : Nat) => (List.range (2 ^ d)).any (fun j => ok (n * 2 ^ d + j))
    let first := 2 * node + side
    let other := 2 * node + (1 - side)
    if has first then plruPick ok bits d first else if has other then plruPick ok bits d other else none

/-- The least recently used way among those that `ok` admits. -/
def plruVictim (depth : Nat) (ok : Nat → Bool) (bits : Nat) : Option Nat :=
  (plruPick (fun leaf => ok (leaf - 2 ^ depth)) bits depth 1).map (fun leaf => leaf - 2 ^ depth)

/-! ### Disabled set-ways (R183) -/

/-- The place of a core's L1I or L1D among the disabled ways; block caches stand at their block, engines at 2,000 up. -/
def l1Key (core : Nat) (isD : Bool) : Nat := 1000 + 2 * core + (if isD then 1 else 0)

/-- The ways of a set that are disabled, as a mask. -/
def State.waysOff (s : State) (cache set_ : Nat) : Nat := (lookupKey (cache, set_) s.fab.disabled).getD 0

/-- The set-ways of a cache that are disabled. -/
def State.offCount (s : State) (cache : Nat) : Nat :=
  ((s.fab.disabled.filter (fun q => q.1.1 == cache)).map (fun q => popBelow q.2 16)).sum

/-- Disables a set-way, given as set × 16 + way. -/
def State.disableWay (s : State) (cache e : Nat) : State :=
  let k := (cache, e / 16)
  { s with fab := { s.fab with disabled := putBy pairLt k (withBit (s.waysOff cache (e / 16)) (e % 16)) s.fab.disabled } }

/-- The set of a block cache that a line falls in: index bits 17:6 hashed with bits 29:18 (R179; the hash is their XOR, log 16). -/
def blockSet (line : Nat) : Nat := bitsOf line 0 12 ^^^ bitsOf line 12 12

/-- The line that a block holds in a set and way, if it holds one. -/
def State.lineInWay (s : State) (bb set_ way : Nat) : Option (Nat × CLine) :=
  (s.blockLines bb).find? (fun q => blockSet q.1 == set_ && q.2.way == way)

/-- A use of a block cache's way: the tree of its set (R179). -/
def State.touchBlock (s : State) (bb line way : Nat) : State :=
  let k := (bb, blockSet line)
  if way < 16 then { s with fab := { s.fab with plru := putBy pairLt k (plruTouch 4 way ((lookupKey k s.fab.plru).getD 0)) s.fab.plru } } else s

/-! ### L1 caches -/

/-- The bits of a core's L1I and L1D in a line's record. -/
def l1Bit (h : Nat) (fetch : Bool) : Nat := if fetch then h % 4 else 4 + h % 4

/-- R179: the set of a core's L1I or L1D that a line falls in. -/
def l1Set (isD : Bool) (line : Nat) : Nat := if isD then bitsOf line 0 7 else bitsOf line 0 8

/-- The depth of the tree of an L1's set: 8 ways of the L1D, 4 of the L1I. -/
def l1Depth (isD : Bool) : Nat := if isD then 3 else 2

/-- The lines that a set of a core's L1 holds, with their ways. -/
def State.l1Lines (s : State) (h : Nat) (isD : Bool) (k : Nat) : List (Nat × Nat) :=
  ((lookupKey (l1Key h isD, k) s.fab.l1).getD []).filter (fun q => (s.held (h / 4) q.2).any (fun x => x.l1.testBit (l1Bit h (!isD))))

/-- Sets whether a block's record of a line says that a core's L1 holds it (R180). -/
def State.markL1 (s : State) (h : Nat) (isD : Bool) (line : Nat) (on : Bool) : State :=
  match s.held (h / 4) line with
  | some x => s.putLine (h / 4) line { x with l1 := if on then withBit x.l1 (l1Bit h (!isD)) else withoutBit x.l1 (l1Bit h (!isD)) }
  | none => s

/-- R179: a use of a line in a core's L1: a line that is not in its set takes an empty enabled way, or that of the least recently used line,
which is dropped (a dirty line's data are the block cache's). A set whose ways are all disabled takes no line. -/
def State.useL1 (s : State) (h : Nat) (isD : Bool) (line : Nat) : State :=
  let key := (l1Key h isD, l1Set isD line)
  let mine := s.l1Lines h isD (l1Set isD line)
  let touch := fun (s : State) (w : Nat) =>
    { s with fab := { s.fab with plru := putBy pairLt key (plruTouch (l1Depth isD) w ((lookupKey key s.fab.plru).getD 0)) s.fab.plru } }
  match mine.find? (fun q => q.2 == line) with
  | some q => touch s q.1
  | none =>
    let off := s.waysOff key.1 key.2
    let ways := 2 ^ l1Depth isD
    let empty := (List.range ways).find? (fun w => !(off.testBit w) && !(mine.any (fun q => q.1 == w)))
    let way := match empty with
      | some w => some w
      | none => plruVictim (l1Depth isD) (fun w => decide (w < ways) && !(off.testBit w)) ((lookupKey key s.fab.plru).getD 0)
    match way with
    | none => s
    | some w =>
      let s := match mine.find? (fun q => q.1 == w) with
        | some q => s.markL1 h isD q.2 false
        | none => s
      let kept := mine.filter (fun q => q.1 != w)
      touch ({ s with fab := { s.fab with l1 := putBy pairLt key (kept ++ [(w, line)]) s.fab.l1 } }.markL1 h isD line true) w

/-- R183: a set-way of an L1 is disabled: the line in it is dropped. -/
def State.dropL1Way (s : State) (h : Nat) (isD : Bool) (e : Nat) : State :=
  match (s.l1Lines h isD (e / 16)).find? (fun q => q.1 == e % 16) with
  | some q => s.markL1 h isD q.2 false
  | none => s

/-- R180: FENCE.I invalidates the executing core's L1I. -/
def State.clearL1i (s : State) (h : Nat) : State :=
  { s with fab := { s.fab with lines := s.fab.lines.map (fun (q : (Nat × Nat) × CLine) =>
      if q.1.1 = h / 4 then (q.1, { q.2 with l1 := withoutBit q.2.l1 (l1Bit h true) }) else q) } }

end Sys2Proof.Machine
end

