-- ==== Sys2Proof/Machine/QueueOps.lean ====
section
/-! DEFINITION. The memory controllers' queues (R125 to R127): their entries, their levels, the requests that metering points hold, and the
packets that a target takes. -/

namespace Sys2Proof.Machine

/-! ### Queues and levels -/

/-- The queue of a controller: a DDR5 channel's own, or at 16 + its stack that of an HBM3E stack (R125). -/
def queueOf (c : Nat) : Nat := if c < 16 then c else 16 + (c - 16) / 16

/-- The controllers that a queue serves. -/
def queueMembers (q : Nat) : List Nat := if q < 16 then [q] else (List.range 16).map (fun i => 16 * (q - 15) + i)

/-- The entries of a queue that are reserved for booked standing, and those that are shared (R125). -/
def queueSizes (q : Nat) : Nat × Nat := if q < 16 then (96, 160) else (384, 640)

/-- The entries of a queue in use, reserved or shared. -/
def State.queueUsed (s : State) (q : Nat) (reserved : Bool) : Nat :=
  (s.mem.queue.filter (fun e => e.queue == q && e.reserved == reserved)).length

/-- Whether a shared entry is free: best-effort requests, scrubs, copies and sparing take no other (R125). -/
def State.sharedFree (s : State) (c : Nat) : Bool := decide (s.queueUsed (queueOf c) false < (queueSizes (queueOf c)).2)

/-- The rewrites that wait for a shared entry of a queue (R227). -/
def State.rewrites (s : State) (q : Nat) : Nat := ((queueMembers q).map (fun c => (nget s.mem.scrub c []).length)).sum

/-- R125 and R227: the entry that a request takes: a reserved one first for booked standing; none where it finds none. Of the shared
entries, those that rewrites wait for are not for best effort of an urgency below 3. -/
def State.entryFor (s : State) (q : Nat) (standing : Bool) (urgency : Nat) : Option Bool :=
  let kept := if standing ∨ 3 ≤ urgency then 0 else s.rewrites q
  if standing ∧ s.queueUsed q true < (queueSizes q).1 then some true
  else if s.queueUsed q false + kept < (queueSizes q).2 then some false else none

/-- R126: the level of a queue, by its shared entries. -/
def State.queueLevel (s : State) (q : Nat) : Nat :=
  let n := s.queueUsed q false
  let m := (queueSizes q).2
  if 2 * n < m then 0 else if 4 * n < 3 * m then 1 else if n < m then 2 else 3

/-- MC_STATUS.QLEVEL of the controllers of a queue. -/
def State.relevel (s : State) (q : Nat) : State := (queueMembers q).foldl (fun s c => s.set MC_STATUS.QLEVEL c (s.queueLevel q)) s

/-! ### Entering a queue -/

/-- The controller that a line's requests go to. -/
def State.mcOf (s : State) (line : Nat) : Option Nat := (s.memberAt (64 * line)).map (fun q => (s.server q.1).getD q.1)

/-- Whether a packet is a request of a home to a memory controller. -/
def Pkt.toMc (p : Pkt) : Bool := p.cls == 3 && (p.op == 0x10 || p.op == 0x11)

/-- The requests at a controller's stop that can take an entry of a queue now, with their places among the packets in flight. -/
def State.queueWaits (s : State) (q : Nat) : List (Nat × Flight) :=
  (s.fab.net.zipIdx.filter (fun x => x.1.arrived && x.1.pkt.toMc && ((s.mcOf x.1.pkt.line).map queueOf == some q) &&
    (s.entryFor q x.1.pkt.standing x.1.pkt.urgency).isSome)).map (fun x => (x.2, x.1))

/-- R111 and R125: one request takes an entry: booked standing first, then higher urgency, then round-robin over the units. -/
def State.enterOne (s : State) (q : Nat) : Option State :=
  match firstBy (fun (x : Nat × Flight) => x.2.pkt.rank111 * 8192 + turnRank (s.turn (1000 + q)) x.2.pkt.src) (s.queueWaits q) with
  | none => none
  | some (i, f) =>
    let e : QEntry := ⟨q, (s.entryFor q f.pkt.standing f.pkt.urgency).getD false, f.pkt⟩
    let s := s.takeAt i
    let t : State := { s with mem := { s.mem with queue := s.mem.queue ++ [e] } }
    some (t.setTurn (1000 + q) f.pkt.src)

/-- As many requests as can take an entry of a queue. -/
def State.enterAll (s : State) (q : Nat) : Nat → State
  | 0 => s
  | n + 1 =>
    match s.enterOne q with
    | some t => t.enterAll q n
    | none => s

/-- A queue takes what waits for it, and its level is written. -/
def State.fillQueue (s : State) (q : Nat) : State := (s.enterAll q s.fab.net.length).relevel q

/-! ### What a target takes -/

/-- Whether a packet has come to its target: a request to a controller once it has an entry of the controller's queue. -/
def State.hasPkt (s : State) (p : Pkt) : Bool := if p.toMc then s.mem.queue.any (fun e => e.pkt.like p) else (s.here p).isSome

/-- The target takes a packet that has come to it. -/
def State.takePkt (s : State) (p : Pkt) : State :=
  if p.toMc then
    match s.mem.queue.find? (fun e => e.pkt.like p) with
    | some e => ({ s with mem := { s.mem with queue := s.mem.queue.erase e } }).fillQueue e.queue
    | none => s
  else
    match s.here p with
    | some i => s.takeAt i
    | none => s

/-- R111 and R127: whether a controller may serve a request next: booked standing before best effort, and booked requests in order of their
issue frames. Within one standing it may reorder. -/
def State.mcTurn (s : State) (p : Pkt) : Bool :=
  match s.mem.queue.find? (fun e => e.pkt.like p) with
  | none => false
  | some e =>
    let rivals := s.mem.queue.filter (fun x => x.queue == e.queue && x.pkt.standing)
    if p.standing then rivals.all (fun x => decide ((p.issued.map frameOf).getD 0 ≤ (x.pkt.issued.map frameOf).getD 0)) else rivals.isEmpty

/-! ### Metering points (R123, R124, R126) -/

/-- The node that a request for Memory of this package is metered for; none for one that is not metered (R124). -/
def meterNode (p : Pkt) : Option Nat :=
  if p.cls = 3 ∧ [1, 2, 3, 4, 8, 9, 10].contains p.op ∧ unitRegion p.src < 16 ∧ p.pkg.isNone then (slotAt (64 * p.line)).map Prod.fst
  else none

/-- The meters a request takes a unit from (R124): 0 the read meter, 1 the write meter. OWN_ZERO carries no data unit. -/
def meterDirs (op : Nat) : List Nat :=
  if op = 1 ∨ op = 2 ∨ op = 8 then [0] else if op = 4 ∨ op = 9 then [1] else if op = 10 then [0, 1] else []

/-- R123: the metering point that a packet in flight stands at, as region × 16 + stop: the course stop of a brick, the ring stop of a
quadrant source's block. -/
def Flight.point (f : Flight) : Option Nat :=
  match f.place with
  | .ejected ring stop _ => if ring < 12 ∧ unitRegion f.pkt.src = ring ∧ f.courseEntry.isSome then some (16 * ring + stop) else none
  | .waiting ring stop => if 12 ≤ ring ∧ ring < 16 ∧ unitRegion f.pkt.src = ring then some (16 * ring + stop) else none
  | _ => none

/-- The index of a packet's source among those of its metering point: the direction it came in, or the cell. -/
def Flight.pointSource (f : Flight) : Nat :=
  match f.place with
  | .ejected _ _ d => d
  | _ => unitSub f.pkt.src

/-- Whether a request has its metering point still to pass (R124): it is of a booked tag and has no issue stamp yet. -/
def Pkt.unmetered (p : Pkt) : Bool := (meterNode p).isSome && p.standing && p.tag != 0 && p.issued.isNone

/-- R126: whether a best-effort request is held at its metering point: its urgency lies below the level of the worst controller
of its node, as the metering points know it. -/
def State.heldBack (s : State) (p : Pkt) : Bool :=
  match meterNode p with
  | some n =>
    let worst := ((nodeMembers n).map (fun c => nget s.mem.heard c 0)).foldl max 0
    !p.standing && (worst == 3 || decide (p.urgency < worst))
  | none => false

/-- Whether a packet may leave the stop it waits at: it is not held, and it does not stand unmetered at its metering point. DESIGN CHOICE
(log 46): a request is held both in its source queue and at the course stop. -/
def State.mayPass (s : State) (f : Flight) : Bool :=
  !(f.pkt.unmetered && f.point.isSome) &&
    !(s.heldBack f.pkt && (f.point.isSome || (match f.place with
      | .waiting ring _ => ring == unitRegion f.pkt.src
      | _ => false)))

/-- The events of data units that pass a metering point. -/
def meterEvt (p : Pkt) (demoted : Bool) : CountEvt :=
  { code := if demoted then 0x207 else 0x206, world := some p.world, tag := some p.tag, master := some p.src, addr := some (64 * p.line) }

/-- R124: what a request of a booked tag finds at its metering point: it takes a unit of each of its meters, or, where one is empty, it is
to be demoted. Answers whether it keeps its standing. -/
def State.takeUnits (s : State) (p : Pkt) (n : Nat) : Bool × State :=
  let ms := (meterDirs p.op).map (fun d => meterIdx (unitRegion p.src) n d p.tag)
  match ms.find? (fun m => s.fld ALM_METER.REMAINING m == 0) with
  | some m =>
    (false, { s.count (regionBank (unitRegion p.src)) (meterEvt p true) ms.length with
      alm := { s.alm with demoted := nadd s.alm.demoted m 1 } })
  | none =>
    (true, ms.foldl (fun s m => s.set ALM_METER.REMAINING m (s.fld ALM_METER.REMAINING m - 1))
      (s.count (regionBank (unitRegion p.src)) (meterEvt p false) ms.length))

/-- A data unit that a controller reads or writes, in its counters and captures. -/
def State.countMc (s : State) (c : Nat) (p : Pkt) (d : Nat) : State :=
  let n := mcNode c
  let s : State := { s with pow := { s.pow with nodeAt := nput s.pow.nodeAt n s.stb, asleep := s.pow.asleep.filter (fun x => x != n) } }
  let s := if d = 0 then s.readOnce p.line else s
  (s.count (mcBank c) { code := 0x301 + d, world := some p.world, tag := some p.tag, master := some p.src, addr := some (64 * p.line) }).carry
    (mcBank c) d p.standing

/-! ### Accesses that no packet is kept of (R109) -/

/-- The traffic of an agent that reaches memory within its own row: the unit, its tag and urgency (R109), and its world. -/
structure Traffic where
  src : Nat
  tag : Nat := 0
  urgency : Nat := 0
  world : Bool := false

/-- The request that an agent's access makes for a line. -/
def Traffic.pkt (g : Traffic) (write : Bool) (line : Nat) : Pkt :=
  { cls := 3, op := if write then 9 else 8, txn := 0, dest := 0, src := g.src, line := line, tag := g.tag, urgency := g.urgency,
    world := g.world, standing := g.tag != 0 && (slotAt (64 * line)).isSome }

/-- R109 and R124: one line of an agent's access: it passes the metering point with standing 1 where its tag is booked, and its controller
serves it with the standing it keeps. -/
def State.lineTraffic (s : State) (g : Traffic) (write : Bool) (line : Nat) : State :=
  let p := g.pkt write line
  let q := match meterNode p with
    | some n => if p.standing then s.takeUnits p n else (false, s)
    | none => (false, s)
  match s.mcOf line with
  | some c => q.2.countMc c { p with standing := q.1 } (flag write)
  | none => q.2

/-- R109: an agent's access to `n` bytes of memory. -/
def State.traffic (s : State) (g : Traffic) (write : Bool) (a n : Nat) : State :=
  (List.range ((a % 64 + n + 63) / 64)).foldl (fun s i => s.lineTraffic g write (a / 64 + i)) s

/-- R111, R125 and R126: whether an agent's access to a line can be made now. With the standing that its meter leaves it, it is not held by
the level of its node, an entry of its controller's queue is free, and no request of booked standing comes before it there (R127). -/
def State.lineFree (s : State) (g : Traffic) (write : Bool) (line : Nat) : Bool :=
  let p := g.pkt write line
  let keeps := p.standing && ((meterNode p).elim true (fun n => (s.takeUnits p n).1))
  !(s.heldBack { p with standing := keeps }) &&
    (match s.mcOf line with
      | some c =>
        let rivals := s.mem.queue.filter (fun e => e.queue == queueOf c && e.pkt.standing)
        (s.entryFor (queueOf c) keeps g.urgency).isSome &&
          (if keeps then rivals.all (fun e => decide (frameOf s.stb ≤ (e.pkt.issued.map frameOf).getD 0)) else rivals.isEmpty)
      | none => true)

/-- Whether an agent's access to `n` bytes of memory can be made now. One that cannot stays in its source: its row comes again. -/
def State.mayTraffic (s : State) (g : Traffic) (write : Bool) (a n : Nat) : Bool :=
  (List.range ((a % 64 + n + 63) / 64)).all (fun i => s.lineFree g write (a / 64 + i))

/-- The keeper's traffic: tag 0, urgency 3 (R109), in the world of the tile addressed (R311). -/
def keeperTraffic (world : Bool) : Traffic := { src := unitCode 16 4 0, urgency := 3, world := world }

/-- A port's: tag 0, urgency 0. -/
def portTraffic (p : Nat) (world : Bool) : Traffic := { src := unitCode (12 + p / 2) 5 (p % 2), world := world }

/-- An engine's: the tag and urgency of the op it acts for, and the world of its channel (R311). -/
def engineTraffic (e : Nat) (tag urgency : Nat) (world : Bool) : Traffic :=
  { src := unitCode (12 + e / 4) 7 (e % 4), tag := tag, urgency := urgency, world := world }

end Sys2Proof.Machine
end

