-- ==== Sys2Proof/Machine/EngOps.lean ====
section
/-! DEFINITION. The caches of the intake engines (R183 to R188). -/

namespace Sys2Proof.Machine

/-- An engine's cache that holds nothing. -/
def EngCache.init : EngCache := ⟨[], [], none, none, []⟩

/-- An engine's cache. -/
def State.eng (s : State) (e : Nat) : EngCache := nget s.fab.engs e EngCache.init

/-- R184: the set of an address. -/
def engSet (a : Nat) : Nat := bitsOf a 8 7

/-- The tag of an address. -/
def engTag (a : Nat) : Nat := a / 2 ^ 15

/-- The sector of an address. -/
def engSector (a : Nat) : Nat := bitsOf a 6 2

/-- The line of an address, if the cache holds it. -/
def EngCache.find (c : EngCache) (a : Nat) : Option EngLine := (nget c.sets (engSet a) []).find? (fun l => l.tag == engTag a)

/-- Whether an address hits. -/
def EngCache.hits (c : EngCache) (a : Nat) : Bool := match c.find a with
  | some l => l.valid.testBit (engSector a)
  | none => false

/-- Whether two addresses lie in one line. -/
def sameLine (a b : Nat) : Bool := a / 256 == b / 256

/-- The lowest way of a set that is enabled and empty. -/
def EngCache.freeWay (c : EngCache) (set_ off : Nat) : Nat :=
  ((List.range 8).find? (fun w => !(off.testBit w) && !((nget c.sets set_ []).any (fun l => l.way == w)))).getD 0

/-- Makes a line the most recently used of its set, with a change; a new line takes an empty way. `off` are the ways disabled. -/
def EngCache.touch (c : EngCache) (off a : Nat) (f : EngLine → EngLine) : EngCache :=
  let ls := nget c.sets (engSet a) []
  match c.find a with
  | some l => { c with sets := nput c.sets (engSet a) (f l :: ls.erase l) }
  | none => { c with sets := nput c.sets (engSet a) (f ⟨engTag a, 0, 0, c.freeWay (engSet a) off⟩ :: ls) }

/-- An access is performed in a valid sector: a store writes its bytes and makes the sector dirty. -/
def EngCache.perform (c : EngCache) (off : Nat) (x : EngAcc) : EngCache :=
  let bit := 2 ^ engSector x.addr
  if x.store then
    let c := c.touch off x.addr (fun l => { l with valid := l.valid ||| bit, dirty := l.dirty ||| bit })
    { c with bytes := (List.range x.data.length).foldl (fun m i => nput m (x.addr + i) (x.data.getD i 0)) c.bytes }
  else c.touch off x.addr (fun l => { l with valid := l.valid ||| bit })

/-- R185: whether an access needs no fill of its sector: an aligned store of 64 bytes. -/
def EngAcc.whole (x : EngAcc) : Bool := x.store && x.addr % 64 == 0 && x.data.length == 64

/-- Sets an engine's cache, with its status (IEC_STATUS). -/
def State.setEng (s : State) (e : Nat) (c : EngCache) : State :=
  let second := match c.miss with
    | some m => c.waits.any (fun w => !(c.hits w.addr) && !(sameLine w.addr m.addr))
    | none => false
  let s : State := { s with fab := { s.fab with engs := nput s.fab.engs e c } }
  ((s.set IEC_STATUS.MISS_PENDING e (flag c.miss.isSome)).set IEC_STATUS.WRITEBACK_PENDING e (flag c.victim.isSome)).set
    IEC_STATUS.SECOND_MISS_WAIT e (flag second)

/-- The base address of a line of a set. -/
def lineBase (set_ : Nat) (l : EngLine) : Nat := l.tag * 2 ^ 15 + set_ * 256

/-- R109 and R311: the traffic of an engine for an access: the tag and urgency of the op it acts for, and its world: secure in the private
range, else that of the op's channel. DESIGN CHOICE (log 41): an access for no op outside the private range is secure. -/
def State.engUses (s : State) (e : Nat) (x : EngAcc) : Traffic :=
  let own := s.privateOf x.addr == some e
  match x.op.bind s.op with
  | some o => engineTraffic e o.tag o.urgency (own || s.groupSecure o.grp)
  | none => engineTraffic e 0 0 true

/-- Whether the dirty sectors of a victim can be written now. -/
def State.victimFree (s : State) (e : Nat) (x : EngAcc) (set_ : Nat) (l : EngLine) : Bool :=
  (List.range 4).all (fun k => !(l.dirty.testBit k) || s.lineFree (s.engUses e x) true ((lineBase set_ l + 64 * k) / 64))

/-- R186: the dirty sectors of a victim are written straight to memory, with the tag of the access that evicts it. -/
def State.writeVictim (s : State) (e : Nat) (x : EngAcc) (c : EngCache) (set_ : Nat) (l : EngLine) : State :=
  (List.range 4).foldl (fun (s : State) k =>
    if l.dirty.testBit k then
      let a := lineBase set_ l + 64 * k
      let s := s.lineTraffic (s.engUses e x) true (a / 64)
      let old := s.bytesAt a 64
      s.writeLine (a / 64) 0 ((List.range 64).map (fun i => nget c.bytes (a + i) (old.getD i 0))) false
    else s) s

/-- Takes a line out of its set. -/
def EngCache.evict (c : EngCache) (set_ : Nat) (l : EngLine) : EngCache :=
  let lo := lineBase set_ l
  { c with sets := nput c.sets set_ ((nget c.sets set_ []).erase l),
           bytes := c.bytes.filter (fun q => !(decide (lo ≤ q.1) && decide (q.1 < lo + 256))) }

/-- The ways of a set that are disabled (R183). -/
def State.engOff (s : State) (e a : Nat) : Nat := s.waysOff (2000 + e) (engSet a)

/-- The ways of a set that are in use (R183, R184). -/
def State.engWays (s : State) (e set_ : Nat) : Nat := 8 - popBelow (s.waysOff (2000 + e) set_) 8

/-- R183: a set-way of an engine's cache is disabled: the dirty sectors of the line in it are written to memory, and it goes. -/
def State.engDisable (s : State) (e k : Nat) : State :=
  let c := s.eng e
  let s := match (nget c.sets (k / 16) []).find? (fun l => l.way == k % 16) with
    | some l => (s.writeVictim e ⟨lineBase (k / 16) l, false, 0, [], none⟩ c (k / 16) l).setEng e (c.evict (k / 16) l)
    | none => s
  (s.disableWay (2000 + e) k).bumpSat IEC_STATUS.DISABLED_WAYS e 1

/-- R185 and R186: a miss begins: a line miss in a full set evicts its least recently used line, whose dirty sectors are written first. An
aligned store of 64 bytes needs no fill. The writes are made when their acknowledgement comes, the fill's read when the fill does. -/
def State.beginMiss (s : State) (e : Nat) (x : EngAcc) : State :=
  let c := s.eng e
  let ls := nget c.sets (engSet x.addr) []
  let go := fun (s : State) (c : EngCache) => if x.whole then s.setEng e (c.perform (s.engOff e x.addr) x) else s.setEng e { c with miss := some x }
  if (c.find x.addr).isSome ∨ ls.length < s.engWays e (engSet x.addr) then go s c
  else
    match ls.getLast? with
    | none => go s c
    | some v =>
      if v.dirty = 0 then go s (c.evict (engSet x.addr) v)
      else s.setEng e { c with miss := some x, victim := some (engSet x.addr, v) }

/-- R187 and R188: whether an access must wait. -/
def State.engWaits (s : State) (e : Nat) (x : EngAcc) : Bool :=
  let c := s.eng e
  match c.miss with
  | none => false
  | some m =>
    s.is IEC_CFG.BLOCKING e || sameLine m.addr x.addr || c.waits.any (fun w => w.addr / 64 == x.addr / 64) ||
      !(c.hits x.addr || (x.whole && (c.find x.addr).isSome))

/-- R185 to R188: an access to the private range. -/
def State.engAccess (s : State) (e : Nat) (x : EngAcc) : State :=
  let c := s.eng e
  if s.engWaits e x then s.setEng e { c with waits := c.waits ++ [x] }
  else if c.hits x.addr ∨ (x.whole ∧ (c.find x.addr).isSome) then s.setEng e (c.perform (s.engOff e x.addr) x)
  else s.beginMiss e x

end Sys2Proof.Machine
end

