-- ==== Sys2Proof/Machine/MaintBase.lean ====
section
/-! DEFINITION. The maintenance sequencer's records (R70, R371 to R378): activities, footprints, the compatibility matrix,
ending and aborting an activity, and the fault-driven activities of R375. -/

namespace Sys2Proof.Machine

/-! ### Lines found in error (R225 to R229) -/

/-- MC_ERR_LOG of a controller. -/
def State.logMc (s : State) (c kind addr : Nat) : State :=
  (((s.set MC_ERR_LOG.ADDR c addr).set MC_ERR_LOG.KIND c kind).bumpSat MC_ERR_LOG.COUNT c 1).set MC_ERR_LOG.STAMP c
    (s.stampIn (mcColl c).home)

/-- R227: a line found correctable waits in its controller's scrub buffer, which holds 16; else it is not rewritten. -/
def State.scrubLater (s : State) (c line : Nat) : State :=
  let q := nget s.mem.scrub c []
  if q.contains line then s
  else if 16 ≤ q.length then
    { s with mem := { s.mem with weak := if s.mem.weak.contains line then s.mem.weak else s.mem.weak ++ [line] } }
  else { s with mem := { s.mem with scrub := nput s.mem.scrub c (q ++ [line]) } }

/-- R227: a line is rewritten with its corrected data. -/
def State.rewrite (s : State) (line : Nat) : State :=
  let s := s.mended line
  { s with mem := { s.mem with rewritten := s.mem.rewritten ++ [(line, none)] } }

/-- R227: MAINT_START 0x01 scrubs granules: what is known to be correctable in them is rewritten, and a bad copy is replaced by its mirror's. -/
def State.scrubRange (s : State) (param : Nat) : State :=
  let lo := bitsOf param 0 40 * 64
  let hi := lo + bitsOf param 40 24 * 64
  let mine := fun (l : Nat) => decide (lo ≤ l) && decide (l < hi)
  let ls := (((s.mem.scrub.map Prod.snd).flatten ++ s.mem.weak).filter mine).eraseDups
  let s := ls.foldl State.rewrite s
  ((s.mem.torn.map Prod.snd).filter mine).foldl State.mended s

/-! ### The matrix (R372, R373) -/

/-- An entry of the matrix. -/
inductive Meet where
  | c | q | x | p
deriving DecidableEq, Repr

/-- R373: the entries of a requested activity's row: with overlap and without, per activity 0x00 to 0x0B. -/
def matrixRow : Nat → List (Meet × Meet)
  | 0x00 => [(.q, .c), (.c, .c), (.q, .c), (.q, .c), (.c, .c), (.c, .c), (.c, .c), (.c, .c), (.q, .c), (.c, .c), (.c, .c), (.c, .c)]
  | 0x01 => [(.p, .c), (.c, .c), (.q, .c), (.q, .c), (.c, .c), (.c, .c), (.c, .c), (.c, .c), (.x, .c), (.c, .c), (.c, .c), (.c, .c)]
  | 0x02 => [(.p, .c), (.p, .c), (.q, .c), (.x, .c), (.c, .c), (.c, .c), (.c, .c), (.c, .c), (.x, .c), (.c, .c), (.c, .c), (.c, .c)]
  | 0x03 => [(.p, .c), (.p, .c), (.q, .c), (.x, .q), (.q, .c), (.x, .c), (.q, .q), (.q, .q), (.x, .q), (.c, .c), (.c, .c), (.c, .c)]
  | 0x04 => [(.c, .c), (.c, .c), (.c, .c), (.x, .c), (.q, .c), (.q, .c), (.x, .c), (.x, .c), (.c, .c), (.c, .c), (.c, .c), (.c, .c)]
  | 0x05 => [(.c, .c), (.c, .c), (.c, .c), (.x, .c), (.q, .c), (.q, .c), (.x, .c), (.x, .c), (.c, .c), (.c, .c), (.c, .c), (.c, .c)]
  | 0x06 => [(.c, .c), (.c, .c), (.c, .c), (.q, .q), (.q, .c), (.q, .c), (.x, .q), (.x, .q), (.q, .q), (.c, .c), (.c, .c), (.c, .c)]
  | 0x07 => [(.c, .c), (.c, .c), (.c, .c), (.q, .q), (.q, .c), (.q, .c), (.q, .q), (.x, .q), (.q, .q), (.x, .x), (.c, .c), (.c, .c)]
  | 0x08 => [(.p, .c), (.p, .c), (.q, .c), (.x, .q), (.c, .c), (.c, .c), (.q, .q), (.q, .q), (.x, .q), (.c, .c), (.c, .c), (.c, .c)]
  | 0x09 => [(.c, .c), (.c, .c), (.c, .c), (.c, .c), (.c, .c), (.c, .c), (.c, .c), (.x, .x), (.c, .c), (.x, .x), (.c, .c), (.q, .q)]
  | 0x0A => [(.c, .c), (.c, .c), (.c, .c), (.c, .c), (.c, .c), (.c, .c), (.c, .c), (.c, .c), (.c, .c), (.c, .c), (.x, .x), (.c, .c)]
  | _ => [(.c, .c), (.c, .c), (.c, .c), (.c, .c), (.c, .c), (.c, .c), (.c, .c), (.c, .c), (.c, .c), (.q, .q), (.c, .c), (.q, .c)]

/-- R371: whether an activity changes capacity. -/
def capChanging (code : Nat) : Bool := [3, 6, 7, 8, 12].contains code

/-- The nodes of a memory activity's footprint (R371, R448). -/
def Activity.node (a : Activity) : Option Nat :=
  if [0, 1, 2, 3, 8].contains a.code then (unitRef a.unit).bind UnitRef.node else none

/-- The courses of a fabric activity's footprint. -/
def Activity.courses (a : Activity) : List Nat :=
  match a.code, unitRef a.unit with
  | 4, some (.lane b c _ _) => [4 * b + c]
  | 5, some (.lane b c _ _) => [4 * b + c]
  | 6, some (.course b c) => [4 * b + c]
  | 7, some (.region b) => (List.range 4).map (fun c => 4 * b + c)
  | _, _ => []

/-- R372: whether two activities overlap. -/
def overlaps (a b : Activity) : Bool :=
  match a.node, b.node with
  | some m, some n => m == n
  | some m, none => b.courses.any (fun i => i % 4 == m % 4)
  | none, some n => a.courses.any (fun i => i % 4 == n % 4)
  | none, none =>
    a.courses.any b.courses.contains ||
      (a.code == 11 && b.code == 11 && (unitWithin a.unit b.unit || unitWithin b.unit a.unit))

/-- R373 and R371: what a requested activity meets in another; a unit retire is queued behind an activity that changes
capacity, and such an activity behind it. -/
def meets (a b : Activity) : Meet :=
  if a.code = 12 ∨ b.code = 12 then (if capChanging a.code && capChanging b.code then .q else .c)
  else
    match (matrixRow a.code)[b.code]? with
    | some e => if overlaps a b then e.1 else e.2
    | none => .c

/-! ### Activities -/

/-- The activities that run. -/
def State.running (s : State) : List Activity := s.maint.acts.filter (fun a => a.state == 1)
/-- The activities that are queued, oldest first. -/
def State.queued (s : State) : List Activity := s.maint.acts.filter (fun a => a.state == 0)
/-- The activity with an ID. -/
def State.activity (s : State) (id : Nat) : Option Activity := s.maint.acts.find? (fun a => a.id == id)

/-- MNT_STATE.RUNNING, UNIT_RETIRE and QUEUED. -/
def State.refreshMnt (s : State) : State :=
  let rs := s.running.map Activity.code
  let s := s.set MNT_STATE.RUNNING 0 (((List.range 12).filter rs.contains).map (fun c => 2 ^ c)).sum
  (s.set MNT_STATE.UNIT_RETIRE 0 (flag (rs.contains 12))).set MNT_STATE.QUEUED 0 s.queued.length

/-- Replaces an activity. -/
def State.setAct (s : State) (a : Activity) : State :=
  ({ s with maint := { s.maint with acts := s.maint.acts.map (fun (x : Activity) => if x.id = a.id then a else x) } }).refreshMnt

/-- R70: keeps the last 256 activities, and every one that is queued or runs. -/
def keepActs (as : List Activity) : List Activity :=
  if as.length ≤ 256 then as
  else match as.findIdx? (fun a => decide (2 ≤ a.state)) with
    | some i => as.eraseIdx i
    | none => as

/-- Takes an activity in with the next MAINT_ID. -/
def State.addAct (s : State) (a : Activity) : Nat × State :=
  let id := s.maint.nextId
  (id, ({ s with maint := ⟨keepActs (s.maint.acts ++ [{ a with id := id }]), id + 1⟩ }).refreshMnt)

/-- An activity at its request. -/
def newAct (code unit param : Nat) (who : Starter) : Activity :=
  { id := 0, code := code, unit := unit, param := param, pair := 0, state := 0, result := 0, start := 0, stop := 0,
    starter := who, past := false, pausers := [], force := false, restore := false, cmd := none, asked := 0, site := none }

/-- R226: the keeper's next regular pass of a node, where its PATROL_H is not 0 and no pass of it is under way. -/
def State.nextPatrol (s : State) (n : Nat) : State :=
  let mine := (s.running ++ s.queued).any (fun a => a.code == 0 && a.node == some n && a.starter == .keeper)
  let st := s.fld MEM_NODE.STATE n
  if s.fld MEM_NODE.PATROL_H n ≠ 0 ∧ (st = 1 ∨ st = 2) ∧ mine = false ∧ s.queued.length < 32 then
    (s.addAct (newAct 0 (if n < 4 then 0x00FF0200 + 12 + n else 0x00FF0000 + 12 + (n - 4)) 0 .keeper)).2
  else s

/-- R226: passes for the nodes that want one and have none: one that has ended or has been stopped, or found no room in the queue. -/
def State.nextPatrols (s : State) : State := (List.range 8).foldl State.nextPatrol s

/-- R80 and R376: an activity ends in a state with a result: its command completes, EV_MAINT_DONE is written, and what it
paused goes on. -/
def State.closeAct (s : State) (id state result : Nat) : State :=
  match s.activity id with
  | none => s
  | some a =>
    if 2 ≤ a.state then s
    else
      let s := s.setAct { a with state := state, result := result, stop := s.stb }
      let s : State := { s with maint := { s.maint with acts := s.maint.acts.map (fun (x : Activity) =>
        { x with pausers := x.pausers.filter (fun y => y != id) }) } }
      let s := match a.cmd with
        | some (m, q) => s.finish m q ⟨result, 0, []⟩
        | none => s
      let s := match a.site with
        | some (i, op) => if result = stOk then s else s.siteFailed i op result
        | none => s
      (s.event 0x07 s.stb (leBytes 4 id ++ leBytes 1 result ++ leBytes 1 state) (s.unitScope a.unit)).nextPatrols

/-! ### The re-sync, as far as others end it -/

/-- R97 and R106: the previous source and state are restored phase-continuously. -/
def State.restoreSource (s : State) : State :=
  match s.clock.resync with
  | none => s
  | some r =>
    let s := ((s.set STB_STATE.SOURCE 0 r.source).set STB_STATE.LINK 0 r.link).set STB_STATE.RESYNC 0 0
    let s := ((s.set STB_CTRL.SOURCE 0 r.source).set STB_CTRL.LINK 0 r.link)
    let s := if s.fld STB_STATE.STATE 0 = r.state then s
      else (s.set STB_STATE.STATE 0 r.state).event 0x08 s.stb (leBytes 1 r.state)
    { s with clock := { s.clock with resync := none, mayStep := r.may, seen := r.seen } }

/-! ### Counter recalibration -/

/-- The place of the counter bank of a unit (R416); the mailbox unit has none. -/
def bankOf (u : UnitRef) : Option Nat :=
  match u with
  | .cell l b k => if l = 16 ∧ b = 0 ∧ k = 2 then none else some ((l * 8 + b) * 64 + k)
  | .block l b => some (8704 + l * 8 + b)
  | .region l => some (8840 + l)
  | .chip => some 8856
  | _ => none

/-- The banks within a unit. -/
def banksIn (u : Nat) : List Nat :=
  let cells := ((List.range 17).map (fun l => ((List.range 8).map (fun b =>
    ((List.range (cellsOf l b)).map (fun k => UnitRef.cell l b k)) ++
      (if 0 < cellsOf l b then [UnitRef.block l b] else []))).flatten)).flatten
  let all := cells ++ (List.range 16).map UnitRef.region ++ [UnitRef.chip]
  (all.filter (fun r => match r.coll with
    | some c => unitWithin u c.unit
    | none => false)).filterMap bankOf

/-- R420: the bound on a bank's lag. -/
def lagBound (i : Nat) : Nat := if i < 8840 then 16 else if i < 8856 then 24 else 32

/-- CALIBRATING of the banks of a unit. -/
def State.calibrating (s : State) (u : Nat) (on : Bool) : State :=
  (banksIn u).foldl (fun (s : State) i => s.set CTR_BANK.CALIBRATING i (flag on)) s

/-- R426: a bank's LAG has been measured anew: a value within its bound. -/
def State.measureLag (s : State) (i : Nat) : State :=
  let q := s.free
  q.2.set CTR_BANK.LAG i (q.1 % (lagBound i + 1))

/-! ### Lanes -/

/-- A direction of a course, at 2 × course + direction. -/
def State.courseDir (s : State) (i d : Nat) : FlitDir := nget s.crs.dirs (2 * i + d) FlitDir.init

/-- Sets a direction of a course. -/
def State.setDir (s : State) (i d : Nat) (x : FlitDir) : State :=
  { s with crs := { s.crs with dirs := nput s.crs.dirs (2 * i + d) x } }

/-- The bad set of a direction, as a mask of 68 lanes (R270). -/
def State.badLanes (s : State) (i d : Nat) : Nat :=
  if d = 0 then s.fld CRS_BAD_LO_K.BAD i + 2 ^ 64 * s.fld CRS_BAD_HI.BAD_K i
  else s.fld CRS_BAD_LO_B.BAD i + 2 ^ 64 * s.fld CRS_BAD_HI.BAD_B i

/-- Sets the bad set of a direction. -/
def State.setBad (s : State) (i d m : Nat) : State :=
  if d = 0 then (s.set CRS_BAD_LO_K.BAD i (m % 2 ^ 64)).set CRS_BAD_HI.BAD_K i (m / 2 ^ 64)
  else (s.set CRS_BAD_LO_B.BAD i (m % 2 ^ 64)).set CRS_BAD_HI.BAD_B i (m / 2 ^ 64)

/-- A lane joins the bad set, or leaves it. -/
def State.laneBad (s : State) (i d n : Nat) (bad : Bool) : State :=
  s.setBad i d (if bad then withBit (s.badLanes i d) n else withoutBit (s.badLanes i d) n)

/-- The good lanes from `lo` up to `hi`, in ascending order. -/
def goodLanes (bad lo hi : Nat) : List Nat := (List.range hi).filter (fun n => decide (lo ≤ n) && !(bad.testBit n))

/-- The UNIT of a lane (R58). -/
def laneUnit (i d n : Nat) : Nat := 0x02000000 + (n + 128 * d) * 65536 + i % 4 * 256 + i / 4

/-- R269: the spares of a direction at full width: good lanes that carry no logical lane and are not in retrain. -/
def State.spares (s : State) (i d : Nat) : List Nat :=
  if s.fld CRS_STATUS.WIDTH i = 0 then
    (goodLanes (s.badLanes i d) 0 68).filter (fun n =>
      !((s.courseDir i d).map.contains n) && (lookupKey (laneUnit i d n) s.units.retrain).isNone)
  else []

/-- CRS_STATUS.SPARES of both directions. -/
def State.refreshSpares (s : State) (i : Nat) : State :=
  (s.set CRS_STATUS.SPARES_K i (min 4 (s.spares i 0).length)).set CRS_STATUS.SPARES_B i (min 4 (s.spares i 1).length)

/-! ### Aborting -/

/-- R376: the partial effects of an activity that is stopped. -/
def State.abortEffect (s : State) (a : Activity) : State :=
  match a.code with
  | 3 => match (unitRef a.unit).bind UnitRef.mc with
    | some c => if a.restore then s else (s.endMirror c a.pair).trigger [mcNode c] true a.unit
    | none => s
  | 4 =>
    let s : State := { s with units := { s.units with retrain := s.units.retrain.filter (fun q => q.2 != a.id) },
                              crs := { s.crs with stalls := s.crs.stalls.filter (fun x => x.act != some a.id) } }
    match unitRef a.unit with
    | some (.lane b c n d) =>
      let i := 4 * b + c
      (if (s.courseDir i d).map.contains n then s else s.laneBad i d n true).refreshSpares i
    | _ => s
  | 5 => { s with crs := { s.crs with stalls := s.crs.stalls.filter (fun x => x.act != some a.id) } }
  | 6 => { s with crs := { s.crs with stalls := s.crs.stalls.filter (fun x => x.act != some a.id) } }
  | 9 => s.restoreSource
  | 10 => { s with fw := { s.fw with staging := none } }
  | 11 => s.calibrating a.unit false
  | _ => s

/-- An activity is aborted: state 3, ST_CONFLICT_MAINT (R376). -/
def State.abortAct (s : State) (a : Activity) : State := (s.abortEffect a).closeAct a.id 3 stConflict

/-! ### Fault-driven activities (R375) -/

/-- Whether an activity was started by a command. -/
def Activity.commanded (a : Activity) : Bool :=
  match a.starter with
  | .mailbox _ => true
  | _ => false

/-- R371: whether an activity has passed its point of no return; step 2 of a row sparing begins 100 µs after its start
(R228). -/
def State.isPast (s : State) (a : Activity) : Bool :=
  a.past || (a.code == 2 && decide (a.start + usTicks 100 ≤ s.stb))

/-- R375: commanded activities that run are aborted or paused for a fault-driven one by its matrix entry, but that a lane remap
or a width change leaves a mirroring copy to the hold of R377. -/
def State.clearFor (s : State) (a : Activity) (id : Nat) : State :=
  s.running.foldl (fun s r =>
    if !r.commanded || s.isPast r || ((a.code == 5 || a.code == 6) && r.code == 3) then s
    else match meets a r with
      | .x => s.abortAct r
      | .c => s
      | _ => s.setAct { r with pausers := r.pausers ++ [id] }) s

/-- R375: a fault-driven activity starts at once; what the silicon starts cannot be stopped. Answers its MAINT_ID. -/
def State.faultAct (s : State) (a : Activity) : Nat × State :=
  (s.clearFor a s.maint.nextId).addAct { a with state := 1, start := s.stb, past := a.starter == .silicon }

/-- R375: an activity of the keeper's waits for a running commanded one whose entry is X and that is past its point of no
return. -/
def State.keeperWaits (s : State) (a : Activity) : Bool :=
  s.running.any (fun r => r.commanded && meets a r == .x && s.isPast r)

end Sys2Proof.Machine
end

