-- ==== Sys2Proof/Machine/CourseOps.lean ====
section
/-! DEFINITION. Courses (R269 to R279): lanes, training, remaps and width changes, retrains, the copy hold (R377), flits with
their CRC (R272), lane attribution (R274), and the wavelengths of package links (R290). -/

namespace Sys2Proof.Machine

/-! ### Widths -/

/-- R270, step 4: the group with more good lanes, or group 0. -/
def halfGroup (bad : Nat) : Nat := if (goodLanes bad 0 34).length < (goodLanes bad 34 68).length then 1 else 0

/-- The good lanes of a group. -/
def groupLanes (bad g : Nat) : List Nat := if g = 0 then goodLanes bad 0 34 else goodLanes bad 34 68

/-- Every entry of CRS_REMAP is freed. -/
def State.freeRemaps (s : State) (i : Nat) : State := (s.setWord .CRS_REMAP i 0 0).setWord .CRS_REMAP i 1 0

/-- Gives a direction a new mapping. -/
def State.mapLanes (s : State) (i d : Nat) (m : List Nat) : State := s.setDir i d { s.courseDir i d with map := m, home := m }

/-- Full width over the first 64 good lanes of each direction. -/
def State.fullWidth (s : State) (i : Nat) : State :=
  let s := (s.set CRS_STATUS.WIDTH i 0).freeRemaps i
  let s := (s.mapLanes i 0 ((goodLanes (s.badLanes i 0) 0 68).take 64)).mapLanes i 1 ((goodLanes (s.badLanes i 1) 0 68).take 64)
  s.refreshSpares i

/-- Half width over the chosen group of each direction. -/
def State.halfWidth (s : State) (i : Nat) : State :=
  let gk := halfGroup (s.badLanes i 0)
  let gb := halfGroup (s.badLanes i 1)
  let s := (((s.set CRS_STATUS.WIDTH i 1).set CRS_STATUS.GROUP_K i gk).set CRS_STATUS.GROUP_B i gb).freeRemaps i
  ((s.mapLanes i 0 ((groupLanes (s.badLanes i 0) gk).take 32)).mapLanes i 1
    ((groupLanes (s.badLanes i 1) gb).take 32)).refreshSpares i

/-- Whether each direction has a number of good lanes for full width. -/
def State.fullOk (s : State) (i : Nat) : Bool :=
  [0, 1].all (fun d => decide (64 ≤ (goodLanes (s.badLanes i d) 0 68).length))

/-- Whether each direction's chosen group has 32 good lanes. -/
def State.halfOk (s : State) (i : Nat) : Bool :=
  [0, 1].all (fun d => decide (32 ≤ (groupLanes (s.badLanes i d) (halfGroup (s.badLanes i d))).length))

/-- R270, steps 3 to 5: training sets the course to full width, half width, or retires it (R278); its retirement event is
`lostCourses`. -/
def State.trainCourse (s : State) (i : Nat) : State :=
  if s.fullOk i then s.fullWidth i
  else if s.halfOk i then s.halfWidth i
  else
    ((((s.set CRS_STATUS.WIDTH i 2).set CRS_EVT.RETIRED i 1).freeRemaps i).raise { coll := .region (i / 4), bit := 15 + i % 4 }).trigger
      (dirRes i) false (courseUnit i)

/-- The retirement events of a brick's courses that training has retired. -/
def State.lostCourses (s : State) (b : Nat) : State :=
  ((List.range 4).filter (fun c => s.fld CRS_STATUS.WIDTH (4 * b + c) == 2)).foldl (fun (s : State) c => s.retiredEvent (courseUnit (4 * b + c))) s

/-! ### Stalls -/

/-- R377: a stall on a course that ends in a quadrant holds the mirroring copies of that quadrant. -/
def State.copyHold (s : State) (i : Nat) : State :=
  let copies := s.running.any (fun a => a.code == 3 && (match a.node with
    | some n => n % 4 == i % 4
    | none => false))
  if copies then
    let s : State := { s with crs := { s.crs with holds := if s.crs.holds.contains i then s.crs.holds else s.crs.holds ++ [i] } }
    (s.set MNT_STATE.COPY_HOLD 0 1).bump MNT_STATE.COPY_HOLDS 0
  else s

/-- The course stalls: once in this frame (R275). -/
def State.stall (s : State) (i : Nat) : State :=
  let s : State := { s with crs := { s.crs with stalled := nput s.crs.stalled i (frameOf s.stb) } }
  (s.bump CRS_STATUS.STALLS i).copyHold i

/-- Whether a course has stalled in the present frame. -/
def State.stalledNow (s : State) (i : Nat) : Bool := lookupKey i s.crs.stalled == some (frameOf s.stb)

/-- The fields of a CRS_REMAP entry: the register's word, and the place within it. -/
def remapPlace (e : Nat) : Nat × Nat := (e / 4, 16 * (e % 4))

/-- A CRS_REMAP entry. -/
def State.remapEntry (s : State) (i e : Nat) : Nat := wbits (s.word .CRS_REMAP i (remapPlace e).1) (remapPlace e).2 16

/-- Sets a CRS_REMAP entry. -/
def State.setRemapEntry (s : State) (i e v : Nat) : State :=
  let p := remapPlace e
  s.setWord .CRS_REMAP i p.1 (wset (s.word .CRS_REMAP i p.1) p.2 16 v)

/-- CRS_REMAP after a logical lane has moved (its register's rules). -/
def State.logRemap (s : State) (i d logical phys : Nat) : State :=
  let valid := fun (e : Nat) => (s.remapEntry i e).testBit 15
  let mine := (List.range 8).find? (fun e => valid e && bitsOf (s.remapEntry i e) 0 6 == logical && bitsOf (s.remapEntry i e) 14 1 == d)
  let v := logical + 64 * phys + 16384 * d + 32768
  if (s.courseDir i d).home[logical]? = some phys then
    match mine with
    | some e => s.setRemapEntry i e 0
    | none => s
  else
    match mine with
    | some e => s.setRemapEntry i e v
    | none =>
      match (List.range 8).find? (fun e => !(valid e)) with
      | some e => s.setRemapEntry i e v
      | none => s.set CRS_EVT.REMAP_UNLOGGED i 1

/-- The DETAIL of a lane's record (R363). -/
def laneDetail (i d logical phys fseq : Nat) : List Byte :=
  leBytes 1 (i % 4) ++ leBytes 1 d ++ leBytes 1 logical ++ leBytes 1 phys ++ leBytes 2 fseq

/-- The record of a remap (R275): a verdict's record that is not yet written gets the logical lane and the lane now carrying it; where
it has been, a further record of the verdict has them. A remap by command gets a NOTE record of its own, with RFLAGS bit 2. DESIGN CHOICE
(log 43): FSEQ is that of the flit that was charged, and 0 in a record with no flit. -/
def State.recordRemap (s : State) (i d lane logical phys : Nat) (verdict : Bool) : State :=
  let c : Coll := .region (i / 4)
  let b := 11 + i % 4
  let x := lane + 128 * d
  let mine := fun (r : PendRec) => r.evt.coll == c && r.evt.bit == b && r.verdict == 1 && r.evt.elem == some x
  if verdict && s.faults.pend.any mine then
    { s with faults := { s.faults with pend := s.faults.pend.map (fun (r : PendRec) =>
        if mine r then { r with evt := { r.evt with detail := laneDetail i d logical phys (leAt r.evt.detail 4 2) }, action := 5 } else r) } }
  else
    let e : FaultEvt := { coll := c, bit := b, elem := some x, detail := laneDetail i d logical phys 0, action := 5 }
    let level := ((s.faults.elems.find? (fun q => q.coll == c && q.bit == b && q.elem == x)).map (fun q => q.level)).getD 0
    s.addPend ⟨e, s.stb, if verdict then verdictSev .brick b (s.sevOf c b) else 0, flag verdict, 5, level, (s.elemCfg c b x).1, 1,
      s.recFlags e + (if verdict then 0 else 4), true⟩

/-- R275, steps 2 to 4: the logical lane that a physical lane carries moves to the lowest spare. -/
def State.moveLane (s : State) (i d lane : Nat) (verdict : Bool) : State :=
  let x := s.courseDir i d
  match s.spares i d with
  | [] => s
  | spare :: _ =>
    let logical := x.map.idxOf lane
    if logical < x.map.length then
      let s := (s.stall i).setDir i d { x with map := x.map.set logical spare }
      let s := ((s.laneBad i d lane true).logRemap i d logical spare).set CRS_EVT.REMAP i 1
      (s.recordRemap i d lane logical spare verdict).refreshSpares i
    else s

/-- R276: the course goes to half width, or is retired where a direction has no group with 32 good lanes. -/
def State.toHalf (s : State) (i : Nat) : State :=
  if s.halfOk i then
    (((s.stall i).halfWidth i).set CRS_EVT.HALF i 1).raise { coll := .region (i / 4), bit := 15 + i % 4, action := 6 }
  else s.retireCourse i

/-- R277: the course goes to full width; an upward trigger follows. -/
def State.toFull (s : State) (i : Nat) : State := ((s.stall i).fullWidth i).trigger (dirRes i) true (courseUnit i)

/-- An activity has passed its point of no return. -/
def State.passed (s : State) (id : Option Nat) : State :=
  match id.bind s.activity with
  | some a => s.setAct { a with past := true }
  | none => s

/-- A change that stalls a course is made; it is its activity's point of no return. -/
def State.applyStall (s : State) (x : Stall) : State :=
  let s := s.passed x.act
  match x.change with
  | .remap d lane => s.moveLane x.course d lane x.verdict
  | .width true => s.toHalf x.course
  | .width false => s.toFull x.course

/-- R275: a change is made at once, or after the next meridian where the course has stalled in this frame. The stamp at which a
change to half width is asked for is its trigger stamp (R276). -/
def State.requestStall (s : State) (x : Stall) : State :=
  let s := if x.change = .width true then s.trigger (dirRes x.course) false (courseUnit x.course) else s
  if s.stalledNow x.course then
    ({ s with crs := { s.crs with stalls := s.crs.stalls ++ [x] } }).set CRS_EVT.DEFERRED x.course 1
  else s.applyStall x

/-- R445: the action of the record of a lane's verdict. -/
def State.laneAction (s : State) (i d lane action : Nat) : State :=
  let c : Coll := .region (i / 4)
  { s with faults := { s.faults with pend := s.faults.pend.map (fun (r : PendRec) =>
    if r.evt.coll = c ∧ r.evt.bit = 11 + i % 4 ∧ r.verdict = 1 ∧ r.evt.elem = some (lane + 128 * d)
    then { r with action := action } else r) } }

/-- R277: a retrain on a direction of a course is abandoned. -/
def State.abandonRetrain (s : State) (i d : Nat) : State :=
  s.running.foldl (fun (s : State) a =>
    if a.code == 4 && (match unitRef a.unit with
      | some (.lane b c _ e) => 4 * b + c == i && e == d
      | _ => false) then s.abortAct a else s) s

/-- R274 to R278: a lane has been judged permanent. -/
def State.laneVerdict (s : State) (i d lane : Nat) : State :=
  let x := s.courseDir i d
  if s.fld CRS_STATUS.WIDTH i = 0 then
    if x.map.contains lane then
      if (s.spares i d).isEmpty then
        let s := ((s.abandonRetrain i d).laneBad i d lane true).laneAction i d lane (if s.halfOk i then 6 else 8)
        let q := s.faultAct (newAct 6 (courseUnit i) 0 .silicon)
        if s.halfOk i then q.2.requestStall ⟨i, .width true, some q.1, true⟩ else q.2.retireCourse i
      else
        let q := s.faultAct (newAct 5 (laneUnit i d lane) 0 .silicon)
        q.2.requestStall ⟨i, .remap d lane, some q.1, true⟩
    else ((s.laneAction i d lane 4).laneBad i d lane true).refreshSpares i
  else if s.fld CRS_STATUS.WIDTH i = 1 ∧ x.map.contains lane then
    let q := ((s.laneAction i d lane 8).laneBad i d lane true).faultAct (newAct 6 (courseUnit i) 0 .silicon)
    q.2.retireCourse i
  else s

/-- R274: an error event is charged to a physical lane. -/
def State.chargeLane (s : State) (i d lane fseq : Nat) : State :=
  let x := s.courseDir i d
  (s.bump CRS_COUNT.CHARGED i).raise
    { coll := .region (i / 4), bit := 11 + i % 4, elem := some (lane + 128 * d), action := 2,
      detail := laneDetail i d (x.map.idxOf lane) lane fseq }

/-! ### Lane attribution (R274) -/

/-- R274: the lanes (bit number mod `w`) on which two copies of a flit differ. -/
def lanesDiffering (w : Nat) (a b : List Byte) : List Nat :=
  let bits := ((List.range a.length).map (fun i =>
    ((List.range 8).filter (fun j => ((a.getD i 0) ^^^ (b.getD i 0)).toNat.testBit j)).map (fun j => (8 * i + j) % w))).flatten
  (List.range w).filter bits.contains

/-! ### Links (R290) -/

/-- R290: the widest aligned group of good wavelengths, of those with at most `most`; none if no group of 2 is good. -/
def waveGroup (bad most : Nat) : Option (List Nat) :=
  let gs := [(List.range 8), [0, 1, 2, 3], [4, 5, 6, 7], [0, 1], [2, 3], [4, 5], [6, 7]]
  gs.find? (fun g => decide (g.length ≤ most) && g.all (fun w => !(bad.testBit w)))

/-- LINK_STATUS.WIDTH of a number of wavelengths. -/
def widthCode (n : Nat) : Nat := if n = 8 then 3 else if n = 4 then 2 else if n = 2 then 1 else 0

/-- R290: a wavelength has been judged permanent: the link changes width, or goes down. -/
def State.waveVerdict (s : State) (l w : Nat) : State :=
  let bad := withBit (s.fld LINK_STATUS.BAD_WAVES l) w
  let s := s.set LINK_STATUS.BAD_WAVES l bad
  match waveGroup bad (s.linkRx l).map.length with
  | none => (s.set LINK_STATUS.WIDTH l 0).dropLink l 0
  | some g =>
    if g = (s.linkRx l).map then s
    else (((s.setLinkRx l { s.linkRx l with map := g }).set LINK_STATUS.WIDTH l (widthCode g.length)).set LINK_EVT.WIDTH l 1).replayLink l

end Sys2Proof.Machine
end

