-- ==== Sys2Proof/Machine/HomeOps.lean ====
section
/-! DEFINITION. The home slices (R256 to R267, R296 to R300, R316): their entries, transactions and what they send. -/

namespace Sys2Proof.Machine

/-! ### Homes -/

/-- The transaction of a line that serves a request; a proxy home's answer to an exporter's snoop is apart. -/
def State.mainTxn (s : State) (line : Nat) : Option Txn := s.fab.txns.find? (fun x => x.line == line && x.req.cls != 2)

/-- The exporter's snoop that a proxy home serves for a line. -/
def State.snoopTxn (s : State) (line : Nat) : Option Txn := s.fab.txns.find? (fun x => x.line == line && x.req.cls == 2)

/-- Replaces a transaction. -/
def State.setTxn (s : State) (x : Txn) : State :=
  { s with fab := { s.fab with txns := s.fab.txns.map (fun (y : Txn) =>
      if y.line = x.line ∧ (y.req.cls == 2) = (x.req.cls == 2) then x else y) } }

/-- Takes a transaction off. -/
def State.endTxn (s : State) (x : Txn) : State :=
  { s with fab := { s.fab with txns := s.fab.txns.filter (fun y => !(y.line == x.line && (y.req.cls == 2) == (x.req.cls == 2))) } }

/-- The block of the core that a local request comes from. -/
def reqBlock (p : Pkt) : Option (Nat × Nat) := if p.pkg.isSome then none else (codeCore p.src).map (fun c => (c / 24, c % 24 / 4))

/-- A requester as an owner: a block by brick and block, or a member of the group at 12 + its index. -/
def reqOwner (p : Pkt) : Option (Nat × Nat) :=
  match p.pkg with
  | some g => some (12 + g % 4, 0)
  | none => reqBlock p

/-- The presence bit of a requester. -/
def reqBit (p : Pkt) : Nat :=
  match reqOwner p with
  | some o => 2 ^ o.1
  | none => 0

/-- R260: the presence (12 up: members) and the owner that a slice's entries show of a line. -/
def State.shown (s : State) (h line : Nat) : Nat × Option (Nat × Nat) :=
  let f := (s.sfEntry false h line).map Prod.snd
  let d := (s.sfEntry true h line).map Prod.snd
  ((f.map SfEntry.presence).getD 0 ||| (d.map SfEntry.presence).getD 0 * 2 ^ 12,
    match f.bind SfEntry.owner with
    | some o => some o
    | none => (d.bind SfEntry.owner).map (fun o => (12 + o.1, 0)))

/-- Writes what one table shows of a line; an entry with no presence is invalid. -/
def State.showIn (s : State) (dir : Bool) (h line pres : Nat) (own : Option (Nat × Nat)) : State :=
  match s.sfEntry dir h line with
  | none => s
  | some (w, e) =>
    let k := (sfKey dir line).1
    let x := s.sfSet dir h k
    let ways := if pres = 0 then dropKey w x.ways else nput x.ways w (sfMake dir e.tag pres own)
    s.setSf dir h k { x with ways := ways }

/-- Writes what a slice's entries show of a line. -/
def State.show (s : State) (h line pres : Nat) (own : Option (Nat × Nat)) : State :=
  let mine := match own with
    | some o => decide (o.1 < 12)
    | none => false
  let s := s.showIn false h line (pres % 2 ^ 12) (if mine then own else none)
  s.showIn true h line (pres / 2 ^ 12 % 16) (if mine then none else own.map (fun o => (o.1 - 12, 0)))

/-! ### Ways (R258, R265) -/

/-- Ways of a set that are not reserved; the reserved way comes after them. -/
def sfWays (dir : Bool) : Nat := if dir then 3 else 8

/-- The depth of the replacement tree. -/
def sfDepth (dir : Bool) : Nat := if dir then 2 else 3

/-- A use of a line's entry. -/
def State.touchSf (s : State) (dir : Bool) (h line : Nat) : State :=
  match s.sfEntry dir h line with
  | some (w, _) =>
    if w < sfWays dir then
      let k := (sfKey dir line).1
      let x := s.sfSet dir h k
      s.setSf dir h k { x with plru := plruTouch (sfDepth dir) w x.plru }
    else s
  | none => s

/-- Gives a line a way of its set, with the requester present. -/
def State.takeWay (s : State) (dir : Bool) (h line way bit : Nat) : State :=
  let k := sfKey dir line
  let x := s.sfSet dir h k.1
  (s.setSf dir h k.1 { x with ways := nput x.ways way (sfMake dir k.2 bit none) }).touchSf dir h line

/-! ### Sending -/

/-- A packet that a request causes: it keeps the request's tag, urgency, standing, world and ID, and names the requester. -/
def Pkt.cause (p : Pkt) (cls op dest operand : Nat) : Pkt :=
  { cls := cls, op := op, txn := p.txn, dest := dest, src := p.src, line := p.line, tag := p.tag, urgency := p.urgency,
    standing := p.standing, world := p.world, operand := operand, pkg := p.pkg }

/-- An answer to a requester leaves a unit: on a link where the requester is another package's proxy home (R296). -/
def State.answer (s : State) (from_ : Nat) (p : Pkt) : State :=
  match p.pkg with
  | some g => s.sendOut g p
  | none => s.sendFrom from_ p

/-- R266: a refusal of a request, by its reason. -/
def State.refuse (s : State) (h : Nat) (p : Pkt) (reason : Nat) : State := s.answer (sliceCode h) (p.cause 0 15 p.src reason)

/-- The blocks of a brick that answer a snoop: those in service and powered, but for the requester's (R261). -/
def State.snoopMask (s : State) (b : Nat) (req : Pkt) : Nat :=
  ((List.range 6).map (fun k =>
    if s.units.blockDown.contains (6 * b + k) || !(s.is PWR_DOMAIN.ON (8 * b + k)) || reqBlock req == some (b, k) then 0 else 2 ^ k)).sum

/-- R261 and R297: one snoop to a brick's course stop, or to a member's proxy home. Answers whether it was sent: a brick with no block
to ask is not snooped. -/
def State.sendSnoop (s : State) (h : Nat) (req : Pkt) (target op : Nat) : Bool × State :=
  if target < 12 then
    let m := s.snoopMask target req
    if m = 0 ∨ s.brickUp target = false then (false, s)
    else (true, s.sendFrom (sliceCode h) { req.cause 2 op (unitCode target (6 + h / 16) 0) m with pkg := req.pkg })
  else
    let g := 4 * s.fld CST_STATUS.COH_GROUP 0 + (target - 12)
    if req.pkg = some g ∨ s.isMember g = false then (false, s) else (true, s.sendOut g (req.cause 2 op 0 0))

/-- Sends a transaction's snoops and waits for their answers. -/
def State.snoops (s : State) (x : Txn) (ts : List (Nat × Nat)) : State :=
  let q := ts.foldl (fun (q : List Nat × State) t =>
    let r := q.2.sendSnoop x.slice x.req t.1 t.2
    (if r.1 then q.1 ++ [t.1] else q.1, r.2)) (([], s) : List Nat × State)
  q.2.setTxn { x with started := true, sums := q.1 }

/-- The targets of R260 with the snoop that each gets. -/
def snoopPlan (x : Txn) : List (Nat × Nat) :=
  let all := onesBelow x.had 16
  let kill := all.map (fun t => (t, 3))
  if x.victim then kill
  else if x.req.cls = 2 then (all.filter (fun t => decide (t < 12))).map (fun t => (t, x.req.op))
  else
    match x.req.op with
    | 1 => match x.own with
      | some o => [(o.1, 1)]
      | none => []
    | 2 => match x.own with
      | some o => if some o = reqOwner x.req then kill else all.map (fun t => (t, if t = o.1 then 2 else 3))
      | none => kill
    | 4 => []
    | 8 => match x.own with
      | some o => [(o.1, 4)]
      | none => []
    | _ => kill

/-- A controller's write for a line: of bytes from an offset of it. -/
def State.sendMcWrite (s : State) (x : Txn) (off n : Nat) (data : List Byte) (poison : Bool) : State :=
  match s.memberAt (64 * x.line) with
  | none => s
  | some (c, _) =>
    s.sendFrom (sliceCode x.slice) { x.req.cause 3 0x11 (mcCode c) (off + 64 * (n - 1)) with
      src := sliceCode x.slice, line := x.line, data := leBytes off 0 ++ data ++ leBytes (64 - off - n) 0, poison := poison, pkg := none }

/-- A controller's read for a line: the data go to the requester, or to the slice itself for an ATOMIC (R260). -/
def State.sendMcRead (s : State) (x : Txn) : State :=
  let to_ := if x.req.op = 10 then sliceCode x.slice else x.req.src
  match s.memberAt (64 * x.line) with
  | none => s
  | some (c, _) =>
    s.sendFrom (sliceCode x.slice) { x.req.cause 3 0x10 (mcCode c) 0 with
      src := to_, line := x.line, pkg := if x.req.op = 10 then none else x.req.pkg }

/-- Whether a line is one of another package: its slice is a proxy home. -/
def Txn.remote (x : Txn) : Bool := (lineWindow x.line).isSome

/-- R296 and R299: a proxy home asks the exporter; `op` and `data` are the request's own, or those of a writeback. None where the link's
tracker is full. -/
def State.askExporter (s : State) (x : Txn) (op operand : Nat) (data : List Byte) (poison : Bool) : Option State :=
  match lineWindow x.line with
  | none => none
  | some w =>
    match s.firstLink w with
    | none => none
    | some l =>
      if 2048 ≤ (s.cst.remotes.filter (fun r => r.link == l)).length then none
      else
        let n := s.freeRemote x.slice
        let p := { x.req.cause 3 op 0 operand with txn := n, src := sliceCode x.slice, line := x.line, data := data, poison := poison, pkg := none }
        let s' : State := { s with cst := { s.cst with remotes := s.cst.remotes ++ [⟨x.slice, n, x.line, l, s.stb, false, p⟩] } }
        some (s'.sendOut w p)

/-- Dirty data at a home is written to memory, or by a proxy home to its exporter. -/
def State.writeBack (s : State) (x : Txn) (d : List Byte × Bool) : State :=
  if x.remote then
    match s.askExporter x 4 0 d.1 d.2 with
    | some s' => s'.setTxn { x with dirty := some d, wr := true }
    | none => s.setTxn { x with dirty := some d }
  else (s.sendMcWrite x 0 64 d.1 d.2).setTxn { x with dirty := some d, wr := true }

/-- The state granted to a requester (R248, R260): 0 I, 1 S, 2 E, 4 M. Where the owner has no copy any more, E if no brick other than
the requester's is present. -/
def grantState (x : Txn) : Nat :=
  match x.req.op with
  | 1 =>
    if x.remote ∧ x.own.isNone then (match x.rgrant with
      | some g => if g % 8 = 2 ∧ x.had % 2 ^ 12 ≠ 0 then 1 else g % 8
      | none => 1)
    else match x.own with
      | none => if x.had = 0 then 2 else 1
      | some _ => if x.answers.testBit 1 then 1 else if x.had = 0 ∨ x.had = reqBit x.req then 2 else 1
  | 2 => 4
  | 3 => 4
  | _ => 0

/-- Whether GRANT says that no data follow (OPERAND bit 3): OWN_ZERO, and a FETCH_OWN of the owner. -/
def grantBare (x : Txn) : Bool :=
  x.req.op == 3 || (x.req.op == 2 && x.own.isSome && x.own == reqOwner x.req && !x.asked) ||
    (x.remote && x.req.op == 2 && x.reply.isNone && !(x.answers.testBit 1))

/-- R260: what the entries show after a transaction. -/
def entryAfter (x : Txn) : Nat × Option (Nat × Nat) :=
  let bit := reqBit x.req
  match x.req.op with
  | 1 =>
    if grantState x = 2 ∨ grantState x = 4 then (x.had ||| bit, reqOwner x.req)
    else (x.had ||| bit, if x.answers.testBit 4 then x.own else none)
  | 2 => (bit, reqOwner x.req)
  | 3 => (bit, reqOwner x.req)
  | 4 => (x.had, if x.own = reqOwner x.req then none else x.own)
  | 8 => (x.had, none)
  | _ => (0, none)

/-- GRANT (R260), with the entries as they are afterwards; a READ_UC gets its data alone. DESIGN CHOICE (log 46): where a brick that was
asked can be reached no more, POISON of the GRANT makes the data that other units have sent the requester poisoned too (R267). -/
def State.grant (s : State) (x : Txn) : State :=
  let e := entryAfter x
  let s := s.show x.slice x.line e.1 e.2
  let bare := if grantBare x then 8 else 0
  let s := if x.req.op = 8 then s
    else s.answer (sliceCode x.slice) { x.req.cause 0 1 x.req.src (grantState x + bare) with poison := x.lost && decide (x.req.op ≤ 2) }
  s.setTxn { x with granted := true }

/-- LINE_DATA from a home to its requester: of a proxy home's exporter, or poison for a brick that can no longer be reached. -/
def State.passData (s : State) (x : Txn) (d : List Byte × Bool) : State :=
  s.answer (sliceCode x.slice) { x.req.cause 1 1 x.req.src (grantState x) with data := d.1, poison := d.2 }

/-! ### Atomic operations -/

/-- A value of `n` bytes as a signed number. -/
def asSigned (n v : Nat) : Int := if v < 2 ^ (8 * n - 1) then (v : Int) else (v : Int) - (2 ^ (8 * n) : Nat)

/-- The functions of ATOMIC (R248) on values of `n` bytes. -/
def atomicOp (fn n old x : Nat) : Nat :=
  match fn with
  | 0 => x
  | 1 => (old + x) % 2 ^ (8 * n)
  | 2 => old ^^^ x
  | 3 => old &&& x
  | 4 => old ||| x
  | 5 => if asSigned n old ≤ asSigned n x then old else x
  | 6 => if asSigned n old ≤ asSigned n x then x else old
  | 7 => min old x
  | _ => max old x

/-- R260: an ATOMIC at its home, on the line read from memory: the old value goes to the requester, the new one to memory. -/
def State.doAtomic (s : State) (x : Txn) (line : List Byte) (poison : Bool) : State :=
  let off := bitsOf x.req.operand 0 6
  let n := 2 ^ bitsOf x.req.operand 6 2
  let old := leAt line off n
  let poison := poison || x.lost
  let new := atomicOp (bitsOf x.req.operand 8 4) n old (leAt x.req.data off n)
  let s := s.answer (sliceCode x.slice) { x.req.cause 1 4 x.req.src 0 with
    data := leBytes off 0 ++ leBytes n old ++ leBytes (64 - off - n) 0, poison := poison }
  (s.sendMcWrite x off n (leBytes n new) poison).setTxn { x with mem := false, last := true, wr := true }

/-! ### Progress -/

/-- R265: the entry of the reserved way is back-invalidated when its transaction closes; any victim is. -/
def State.beginVictim (s : State) (dir : Bool) (h : Nat) (e : SfEntry) (set_ : Nat) : State :=
  let line := sfLine dir h set_ e.tag
  let req : Pkt := { cls := 3, op := 0, txn := 0, dest := sliceCode h, src := sliceCode h, line := line, urgency := 3,
                     world := s.addrSecure (64 * line) }
  let x : Txn := { slice := h, line := line, req := req, start := s.stb, victim := true,
                   had := if dir then e.presence * 2 ^ 12 else e.presence,
                   own := if dir then e.owner.map (fun o => (12 + o.1, 0)) else e.owner }
  let s := (s.bump HA_SF_STAT.BACK_INVALS h).count (sliceBank h) { code := 0x305, world := some req.world, tag := some 0,
                                                                   master := some req.src, addr := some (64 * line) }
  let s' : State := { s with fab := { s.fab with txns := s.fab.txns ++ [x] } }
  s'.snoops x (snoopPlan x)

/-- Whether a request needs an entry, and in which table: FETCH_SHARE, FETCH_OWN and OWN_ZERO of a block, or of a member. -/
def Pkt.table (p : Pkt) : Option Bool := if p.cls = 3 ∧ 1 ≤ p.op ∧ p.op ≤ 3 then some p.pkg.isSome else none

/-- What a set's waiting requests can be given (R265). -/
inductive Place265 where
  | way (w : Nat) | victim (w : Nat) (e : SfEntry)
deriving DecidableEq, Repr

/-- R265: the next step for the requests that wait in a set: the request and what it gets. -/
def State.nextPlace (s : State) (dir : Bool) (h set_ : Nat) : Option (Txn × Place265) :=
  let waiting := s.fab.txns.filter (fun x => x.slice == h && x.parked && x.req.table == some dir && (sfKey dir x.line).1 == set_)
  match waiting with
  | [] => none
  | x :: _ =>
    let f := s.sfSet dir h set_
    let n := sfWays dir
    let isOpen := fun (w : Nat) => match lookupKey w f.ways with
      | some e => s.fab.txns.any (fun y => y.line == sfLine dir h set_ e.tag && y.slice == h)
      | none => false
    match (List.range n).find? (fun w => (lookupKey w f.ways).isNone) with
    | some w => some (x, .way w)
    | none =>
      let busy := ((List.range n).filter (fun w => match lookupKey w f.ways with
        | some e => s.fab.txns.any (fun y => y.victim && y.line == sfLine dir h set_ e.tag && y.slice == h)
        | none => false)).length
      match waiting[busy]? with
      | none => none
      | some y =>
        match plruVictim (sfDepth dir) (fun w => decide (w < n) && !(isOpen w)) f.plru with
        | some w => match lookupKey w f.ways with
          | some e => some (y, .victim w e)
          | none => none
        | none => if (lookupKey n f.ways).isNone then some (y, .way n) else none

/-- Whether the data of a request are to be asked for at once: nothing that holds the line need be asked first (R260); a proxy home asks
its exporter before it snoops. -/
def asksFirst (x : Txn) : Bool :=
  if x.remote then
    x.req.cls == 3 && !x.victim && ((x.req.op == 1 && x.own.isNone) || x.req.op == 2 || x.req.op == 3 || x.req.op == 8)
  else x.req.cls == 3 && !x.victim && ((x.req.op == 1 && x.own.isNone) || (x.req.op == 2 && x.own.isNone) || (x.req.op == 8 && x.own.isNone))

/-- Asks for the data of a request. None where a proxy home must wait for its link's tracker. -/
def State.ask (s : State) (x : Txn) : Option State :=
  if x.remote then
    match s.askExporter x x.req.op x.req.operand x.req.data x.req.poison with
    | some s' => some (s'.setTxn { x with asked := true, mem := true })
    | none => none
  else if x.req.op = 10 then some ((s.sendMcRead x).setTxn { x with asked := true, mem := true })
  else some ((s.sendMcRead x).setTxn { x with asked := true, served := true })

/-- The end of a transaction; the entry of a reserved way is back-invalidated at once (R265). -/
def State.closeTxn (s : State) (x : Txn) : State :=
  let s := s.endTxn x
  match x.req.table with
  | some dir =>
    let k := sfKey dir x.line
    match s.sfEntry dir x.slice x.line with
    | some (w, e) => if w = sfWays dir then s.beginVictim dir x.slice e k.1 else s
    | none => s
  | none => s

/-- The combined answer of a proxy home to its exporter's snoop (R297). -/
def State.answerExporter (s : State) (x : Txn) : State :=
  let s := s.show x.slice x.line (if x.req.op = 1 ∨ x.req.op = 4 then x.had else 0)
    (if x.req.op = 1 ∧ x.answers.testBit 4 then x.own else none)
  let back := lineWindow x.line
  match back with
  | some w => (s.sendOut w { x.req.cause 0 4 0 x.answers with line := x.line, pkg := none }).endTxn x
  | none => s.endTxn x

/-- What a transaction can do next. -/
def State.stepTxn (s : State) (x : Txn) : Option State :=
  if x.parked then none
  else if !x.asked && !x.started && x.req.cls == 3 && !x.victim && asksFirst x then s.ask x
  else if x.remote && x.mem then none
  else if !x.started then some (s.snoops x (snoopPlan x))
  else if x.sums ≠ [] then none
  else if x.answers.testBit 2 ∧ x.dirty.isNone ∧ x.lost = false then none
  else if x.remote ∧ x.dirty.isSome ∧ x.wr = false ∧ x.last = false ∧ x.req.cls = 3 ∧ x.req.op ≠ 3 ∧ x.req.op ≠ 4 then
    (match x.dirty with
      | some d => (s.askExporter x 4 0 d.1 d.2).map (fun s' => s'.setTxn { x with wr := true })
      | none => none)
  else if x.wr then none
  else if x.req.cls = 2 then some (s.answerExporter x)
  else if x.victim then some ((s.show x.slice x.line 0 none).closeTxn x)
  else
    match x.req.op with
    | 4 =>
      if x.last then some (s.closeTxn x)
      else
        let mine := decide (x.own = reqOwner x.req)
        let s := s.grant x
        let x := { x with granted := true, last := true }
        if mine then
          if x.remote then
            (s.askExporter x 4 0 x.req.data x.req.poison).map (fun s' => s'.setTxn { x with wr := true })
          else some ((s.sendMcWrite x 0 64 x.req.data x.req.poison).setTxn { x with wr := true })
        else some (s.setTxn x)
    | 9 =>
      if x.remote ∧ x.asked = false then s.ask x
      else if !x.last then
        if x.remote then some (s.setTxn { x with last := true })
        else
          let off := bitsOf x.req.operand 0 6
          let n := bitsOf x.req.operand 6 6 + 1
          some ((s.sendMcWrite x off n ((x.req.data.drop off).take n) x.req.poison).setTxn { x with last := true, wr := true })
      else some ((s.grant x).closeTxn x)
    | 10 =>
      if x.asked = false then s.ask x
      else if x.mem then none
      else some ((s.grant x).closeTxn x)
    | _ =>
      if x.granted then none
      else if x.req.op = 3 then some (s.grant { x with served := true })
      else if x.served ∨ x.answers.testBit 1 then some (s.grant { x with served := true })
      else if x.lost then some ((s.passData x (leBytes 64 0, true)).grant { x with served := true, reply := some (leBytes 64 0, true) })
      else if x.remote then
        (match x.reply with
          | some d => some ((s.passData x d).grant { x with served := true })
          | none =>
            if x.req.op = 2 ∧ x.own.isSome ∧ x.own = reqOwner x.req then some (s.grant { x with served := true })
            else (s.askExporter x (if x.req.op = 8 then 8 else 1) 0 [] false).map (fun s' => s'.setTxn { x with asked := true, mem := true }))
      else if x.req.op = 2 ∧ x.own.isSome ∧ x.own = reqOwner x.req then some (s.grant x)
      else s.ask x

/-- Opens a transaction for a request that its slice accepts, or refuses it (R257, R266, R292, R316); a writeback to a lost package is
discarded (R308). -/
def State.openTxn (s : State) (h : Nat) (p : Pkt) : State :=
  let a := 64 * p.line
  let s := s.count (sliceBank h) { code := 0x304, world := some p.world, tag := some p.tag, master := some p.src, addr := some a }
  let bad := match addrKind a with
    | .local_ => if !(s.populated a) then 1 else if s.addrSecure a != p.world then 2 else 0
    | .window w =>
      if w = s.fld CST_STATUS.NUMBER 0 ∨ s.is CST_STATUS.MEMBER 0 = false then 1
      else if s.is CST_STATUS.LEAVING 0 ∨ s.isMember w = false then 4
      else if (s.firstLink w).isNone then 1 else 0
    | _ => 1
  if bad = 2 then (s.worldRefused h p.line).refuse h p 2
  else if bad = 1 then (s.note41 (sliceColl h).unit a).refuse h p 1
  else if bad = 4 ∧ p.op = 4 then s.answer (sliceCode h) (p.cause 0 1 p.src 0)
  else if bad ≠ 0 then (s.note41 (sliceColl h).unit a).refuse h p bad
  else
    let e := s.shown h p.line
    let x : Txn := { slice := h, line := p.line, req := p, start := s.stb, had := e.1, own := e.2 }
    match p.table with
    | some dir =>
      if (s.sfEntry dir h p.line).isSome then
        let s' := s.touchSf dir h p.line
        { s' with fab := { s'.fab with txns := s'.fab.txns ++ [x] } }
      else
        let s' : State := { s with fab := { s.fab with txns := s.fab.txns ++ [{ x with parked := true }] } }
        if (s'.nextPlace dir h (sfKey dir p.line).1).isNone then
          s'.count (sliceBank h) { code := 0x306, world := some p.world, tag := some p.tag, master := some p.src, addr := some a }
        else s'
    | none => { s with fab := { s.fab with txns := s.fab.txns ++ [x] } }

/-! ### A tile that changes world (R314) -/

/-- Whether an address lies in a run of tiles. -/
def inTiles (lo hi a : Nat) : Bool :=
  match tileOf a with
  | some t => decide (lo ≤ t) && decide (t < hi)
  | none => false

/-- The SET_WORLD_TILES commands that run, with their mailboxes. -/
def State.tileMoves (s : State) : List (Nat × Taken) :=
  (s.keeper.boxes.map (fun q => (q.2.taken.filter (fun k => k.opcode == 0x0400 && k.ran && k.final.isNone)).map (fun k => (q.1, k)))).flatten

/-- The tiles that a SET_WORLD_TILES names: the first, and the one after the last. -/
def tileSpan (p : List Byte) : Nat × Nat := (leAt p 0 4, leAt p 0 4 + leAt p 4 4)

/-- R314, step 2: whether requests to a line are held because its tile changes world. -/
def State.tileHeld (s : State) (line : Nat) : Bool :=
  s.tileMoves.any (fun x => inTiles (tileSpan x.2.payload).1 (tileSpan x.2.payload).2 (64 * line))

/-- R314, step 2: whether a transaction that was accepted under the old world is open in a run of tiles. -/
def State.tilesBusy (s : State) (lo hi : Nat) : Bool := s.fab.txns.any (fun x => inTiles lo hi (64 * x.line))

/-- A request that waits at a slice, whose line has no transaction any more and is not held. -/
def State.nextWait (s : State) : Option (Nat × Pkt) :=
  s.fab.waits.find? (fun q => !(s.fab.txns.any (fun x => x.line == q.2.line)) && !(s.tileHeld q.2.line))

/-- R265: gives the requests that wait in a set what they can be given. -/
def State.placeOne (s : State) : Option State :=
  s.fab.txns.findSome? (fun y =>
    if !y.parked then none
    else
      match y.req.table with
      | none => none
      | some dir =>
        let k := (sfKey dir y.line).1
        match s.nextPlace dir y.slice k with
        | none => none
        | some (x, .way w) =>
          some ((s.takeWay dir x.slice x.line w (if dir then reqBit x.req / 2 ^ 12 else reqBit x.req)).setTxn
            { x with parked := false, way8 := w == sfWays dir })
        | some (x, .victim _ e) =>
          if 512 ≤ (s.fab.txns.filter (fun z => z.slice == x.slice)).length + (s.fab.waits.filter (fun z => z.1 == x.slice)).length then none
          else some (s.beginVictim dir x.slice e k))

/-- One thing that the home slices do next. -/
def State.homeStep (s : State) : Option State :=
  match s.fab.txns.findSome? s.stepTxn with
  | some t => some t
  | none =>
    match s.placeOne with
    | some t => some t
    | none =>
      match s.nextWait with
      | some q =>
        let s' : State := { s with fab := { s.fab with waits := s.fab.waits.erase q } }
        some (s'.openTxn q.1 q.2)
      | none => none

/-- The home slices do what they can. -/
def State.runHomes (s : State) : Nat → State
  | 0 => s
  | n + 1 =>
    match s.homeStep with
    | some t => t.runHomes n
    | none => s

/-- The steps the home slices may take after one event: several for each open or waiting request. -/
def State.homes (s : State) : State := s.runHomes (16 * (s.fab.txns.length + s.fab.waits.length) + 64)

/-- The entries of a slice's tracker in use: its transactions, and the requests that wait behind one of their line (log 46). -/
def State.trackerUsed (s : State) (h : Nat) : Nat :=
  (s.fab.txns.filter (fun x => x.slice == h)).length + (s.fab.waits.filter (fun q => q.1 == h)).length

/-- R257: whether a slice's tracker has an entry for a request: 32 of its 512 are kept for EVICT_DIRTY. -/
def State.trackerRoom (s : State) (h : Nat) (p : Pkt) : Bool := decide (s.trackerUsed h < (if p.op = 4 then 512 else 480))

/-- The place of the ARB_PORT of a slice's request intake, with the slice as its instance (R254). -/
def intakeKey (h : Nat) : Nat := 8 * (2 * (8 * (12 + h / 16) + 3 + h % 16 / 8) + 1) + h % 8

/-- The order in which requests come to a slice: by ring cycle, direction 0 first (R254). -/
def Flight.intakeRank (f : Flight) : Nat :=
  2 * ringCycles f.since + (match f.place with
    | .ejected _ _ d => d
    | _ => 0)

/-- R254: whether a request is the first to come of those at a slice that can have a tracker entry; the others wait in the ejection
buffer. -/
def State.intakeTurn (s : State) (h : Nat) (f : Flight) : Bool :=
  s.fab.net.all (fun g => !(g.arrived && g.pkt.cls == 3 && sliceOf g.pkt.dest == some h && s.trackerRoom h g.pkt &&
    decide (g.intakeRank < f.intakeRank)))

/-- A request comes to a home slice through its intake port: it opens a transaction, waits behind the line's, or stays where it is. -/
def State.acceptAt (s : State) (h : Nat) (p : Pkt) : State :=
  match (s.here p).bind (fun i => s.fab.net[i]?) with
  | none => s
  | some f =>
    if s.units.sliceDown.contains h ∨ s.trackerRoom h p = false ∨ s.intakeTurn h f = false then s
    else
      let s := (s.takePkt p).setTenure (intakeKey h) ⟨some (f.intakeRank % 2), !p.standing, s.cycle (12 + h / 16), 1, 1, s.cycle (12 + h / 16), 1, [], [], 0⟩
      let s := if s.fab.txns.any (fun x => x.line == p.line) ∨ s.fab.waits.any (fun q => q.2.line == p.line) ∨ s.tileHeld p.line then
          { s with fab := { s.fab with waits := s.fab.waits ++ [(h, p)] } }
        else s.openTxn h p
      s.homes

/-- R314, step 3: the lines of a run of tiles are back-invalidated, in this package's caches and in other members', and their entries
go. -/
def State.invalidateTiles (s : State) (lo hi : Nat) : State :=
  let mine := s.fab.lines.filter (fun q => inTiles lo hi (64 * q.1.2))
  (mine.foldl (fun (s : State) q => s.evictNow q.1.1 q.1.2 q.2) s).recallLines (fun line => inTiles lo hi (64 * line))

/-- R314, steps 3 and 4: the map changes, and the requests that were held go on and are checked against the new world. -/
def State.changeTiles (s : State) (p : List Byte) : State :=
  (s.invalidateTiles (tileSpan p).1 (tileSpan p).2).setTiles (leAt p 0 4) (leAt p 4 4) (leAt p 8 1 == 1)

/-- A SET_WORLD_TILES ends once no transaction of the old world is open in its tiles. -/
def State.endTiles (s : State) : State :=
  s.tileMoves.foldl (fun (s : State) x =>
    if s.tilesBusy (tileSpan x.2.payload).1 (tileSpan x.2.payload).2 then s
    else ((s.changeTiles x.2.payload).finish x.1 x.2.id ⟨stOk, 0, []⟩).homes) s

end Sys2Proof.Machine
end

