-- ==== Sys2Proof/Machine/PcieOps.lean ====
section
/-! DEFINITION. Ending a port's requests (R353 to R356), containment of root links (R352), and the safe-state reaction
at the ports. -/

namespace Sys2Proof.Machine

/-- The place of a link of a port. -/
def linkIdx (p j : Nat) : Nat := 4 * p + j

/-- A port's UNIT as a packet names it (R246). -/
def portCode (p : Nat) : Nat := unitCode (12 + p / 2) 5 (p % 2)

/-- The links of a root port (R335). -/
def State.linksOf (s : State) (p : Nat) : List Nat :=
  if s.portRole p = 1 then
    List.range (match s.fld PCIE_PORT_STATUS.BIFURCATION p with
      | 0 => 1
      | 1 => 2
      | _ => 4)
  else []

/-- PCIE_TAGS of a port. -/
def State.refreshTags (s : State) (p : Nat) : State :=
  let q := (s.pcie.holds.filter (fun h => h.port == p)).length
  (s.set PCIE_TAGS.OUTSTANDING p ((s.pcie.reads.filter (fun r => r.port == p)).length + q)).set PCIE_TAGS.QUARANTINED p q

/-- The offset of a root link's Downstream Port Containment capability (log 15): its status register is at + 8. -/
def dpcStatus : Nat := 0x198

/-- A hart's access that waits ends with a cause at the virtual address of the part that waits. -/
def State.failAccess (s : State) (h cause : Nat) : State :=
  match lookupKey h s.fab.misses with
  | none => s
  | some m =>
    let s : State := { s with fab := { s.fab with misses := dropKey h s.fab.misses } }
    s.except h cause (m.acc.vaddr + BitVec.ofNat 64 m.got.length)

/-- Takes a request off those outstanding; its tag is quarantined. -/
def State.holdTag (s : State) (r : PcieRead) (stop : Stamp) (silent : Bool) : State :=
  ({ s with pcie := { s.pcie with
      reads := s.pcie.reads.filter (fun x => !(x.port == r.port && x.tag == r.tag)),
      holds := s.pcie.holds ++ [TagHold.mk r.port r.tag r.fn stop silent] } }).refreshTags r.port

/-- Descriptors that an engine holds go; one that has not arrived is to be fetched again. -/
def State.dropDescs (s : State) (p : Desc → Bool) : State :=
  let gone := s.svc.descs.filter p
  let s := gone.foldl (fun (s : State) d =>
    let s := s.lessOutstanding d.engine d.ch
    match s.chan d.ch with
    | some k =>
      let i := chIdx d.engine d.ch
      if d.bytes.isEmpty then
        s.set IE_CH_STATE.SQ_HEAD i ((s.fld IE_CH_STATE.SQ_HEAD i + 2 ^ k.sqLog2 - 1) % 2 ^ k.sqLog2)
      else s
    | none => s) s
  { s with svc := { s.svc with descs := s.svc.descs.filter (fun d => !(p d)) } }

/-- R354: a channel's fetching stops or resumes. -/
def State.stopChannel (s : State) (ch : Nat) (stop : Bool) : State :=
  match s.chan ch with
  | some k =>
    s.setChan ch { k with stopped := stop }
  | none => s

/-- R354: a descriptor read has timed out: it is read again one frame later; after 3 successive timeouts the channel is
stopped, with a DEGRADE fault that names it. -/
def State.descTimeout (s : State) (ch : Nat) : State :=
  let s := s.dropDescs (fun d => d.ch == ch && d.bytes.isEmpty)
  let n := nget s.pcie.misses ch 0 + 1
  if n < 3 then
    { s with pcie := { s.pcie with misses := nput s.pcie.misses ch n, retry := nput s.pcie.retry ch (s.stb + 32768) } }
  else
    let s : State := { s with pcie := { s.pcie with misses := dropKey ch s.pcie.misses, retry := dropKey ch s.pcie.retry } }
    match s.chan ch with
    | some k => (s.stopChannel ch true).raise { coll := engineColl (k.engine ch), bit := 1, detail := leBytes 2 ch, addr := ch }
    | none => s

/-- R354: an outstanding read is answered as timed out and its tag quarantined. -/
def State.timeoutRead (s : State) (r : PcieRead) : State :=
  let s := s.holdTag r (s.stb + 4 * s.cplTicks r.port) false
  let s := (s.set PCIE_PORT_EVT.CPL_TIMEOUT r.port 1).portUnc r.port r.fn 14 1
  match r.asker with
  | .load h => s.failAccess h 5
  | .config h => s.failAccess h 5
  | .descriptor ch => s.descTimeout ch
  | .write => s

/-- R355: an op that a core holds when its access is answered as aborted is aborted, as far as no answer of it is due. -/
def State.abortHeld (s : State) (h result : Nat) : State :=
  if s.is DSP_CORE.HOLDING h ∧ s.fld DSP_CORE.ANSWERED h = 0 then
    match s.op (s.fld DSP_CORE.OP_ID h) with
    | some o => if o.due then s.abortOp o result else s
    | none => s
  else s

/-- R355: an outstanding read is answered as aborted; its completion will be discarded in silence. A core that holds an op of
an open completion path has it answered OP_ABORTED. -/
def State.abortRead (s : State) (r : PcieRead) (result : Nat) : State :=
  let s := s.holdTag r (r.issued + 5 * s.cplTicks r.port) true
  match r.asker with
  | .descriptor ch => s.dropDescs (fun d => d.ch == ch && d.bytes.isEmpty)
  | .config h => s.failAccess h 5
  | .load h =>
    (s.failAccess h 5).abortHeld h result
  | .write => s

/-- R352: a root link enters containment; reads through it are timed out. -/
def State.containLink (s : State) (p j : Nat) : State :=
  if s.fld PCIE_LINK.STATE (linkIdx p j) = 3 then s
  else
    let s := ((s.set PCIE_LINK.STATE (linkIdx p j) 3).set PCIE_PORT_STATUS.CONTAINED p 1).set PCIE_PORT_EVT.DPC p 1
    let s := s.setCfg (fnIdx p (linkFn j)) dpcStatus 2 (withBit (s.cfgNat (fnIdx p (linkFn j)) dpcStatus 2) 0)
    ((s.pcie.reads.filter (fun r => r.port == p && r.fn == linkFn j)).foldl State.timeoutRead s).rootIrq p

/-- R350 to R352: an uncorrectable error at a port, advisory or not; a root link that detects a fatal one enters containment. -/
def State.portFails (s : State) (advisory : Bool) (p fn b bit : Nat) : State :=
  let s := if advisory then s.aerAdvisory p fn b else s.aerUnc p fn b
  let s := s.raise { coll := portColl p, bit := bit, detail := s.headerDetail p fn }
  if s.fatalAt p fn b then s.containLink p (fn - 384) else s

/-- R352 and R354: a read that no other event ends times out; a root link that holds its timeout for fatal enters containment. -/
def State.readTimesOut (s : State) (r : PcieRead) : State :=
  let s := s.timeoutRead r
  if s.fatalAt r.port r.fn 14 then s.containLink r.port (r.fn - 384) else s

/-- R369: the safe-state reaction at the links and ports (steps 3 and 4). -/
def State.safeReaction (s : State) : State :=
  let s := (List.range 8).foldl (fun (s : State) l =>
    if s.fld LINK_STATUS.STATE l = 2 then (s.toPackage (s.fld LINK_STATUS.PEER l) 9 [l]).dropLink l 3 else s) s
  (List.range 8).foldl (fun (s : State) p =>
    if s.portRole p = 1 then (s.linksOf p).foldl (fun (s : State) j => (s.aerUnc p (linkFn j) 22).containLink p j) s
    else if s.portRole p = 2 then
      let s := (List.range (s.numVfs p)).foldl (fun (s : State) v => s.cfgBit (fnIdx p (v + 1)) 0x104 22) (s.aerUnc p 0 22)
      ({ s with pcie := { s.pcie with safe := if s.pcie.safe.contains p then s.pcie.safe else s.pcie.safe ++ [p] } }).set
        PCIE_PORT_STATUS.CONTAINED p 1
    else s) s

/-! ### The Barcen Service Table (R345 to R347) -/

/-- R331 and R356: whether a channel belongs to a function that is quiescing, quiesced or being reset. -/
def State.fnHeld (s : State) (k : Channel) : Bool :=
  k.srcKind == 1 && k.fn != 0 && decide (2 ≤ s.fld TNT_VF.STATE (vfIdx k.port k.fn)) && decide (s.fld TNT_VF.STATE (vfIdx k.port k.fn) ≤ 4)

/-- R346: whether fetching from a channel is stopped: by a rule about the channel (R144, R354), its function (R331, R355, R356), its group
(R67), its engine, or the package (R369). -/
def State.fetchStopped (s : State) (ch : Nat) (k : Channel) : Bool :=
  k.stopped || k.ended || s.fnHeld k || !(s.pathOpen ch) || s.releasing k.grp || s.fld IE_STATUS.ENABLED (k.engine ch) == 0 || s.is CHIP_SAFE.SAFE 0

/-- R346: a channel's entry as it stands. -/
def State.bstEntry (s : State) (ch : Nat) : List Byte :=
  match s.chan ch with
  | none => leBytes 32 0
  | some k =>
    let cl := lookupKey k.cls s.svc.classes
    let f := fun (g : SvcClass → Nat) => (cl.map g).getD 0
    let cap := if k.fn = 0 then f SvcClass.urgency else min (f SvcClass.urgency) (s.fld TNT_VF.MAX_URGENCY (vfIdx k.port k.fn))
    let eflags := (f SvcClass.cflags) % 2 + 2 * flag (s.svc.locked.any (fun q => q.1 == ch)) + 4 * flag (s.svc.locked.any (fun q => q.2 == ch)) +
      8 * flag (s.fetchStopped ch k)
    let db := ((s.fnChans k.port k.fn).idxOf? ch).getD 0
    leBytes 2 ch ++ leBytes 2 k.fn ++ leBytes 1 k.cls ++ leBytes 1 cap ++ leBytes 1 (f SvcClass.tag) ++ leBytes 1 eflags ++ leBytes 2 db ++
      leBytes 2 k.vector ++ leBytes 1 k.sqLog2 ++ leBytes 1 k.cqLog2 ++ leBytes 2 0 ++ leBytes 4 (f SvcClass.budget) ++
      leBytes 4 (f SvcClass.maxDeadline) ++ leBytes 2 (f SvcClass.jrecMax) ++ leBytes 6 0

/-- R346: the entries of an endpoint port as they stand, by function and then channel, each with its function. -/
def State.bstEntries (s : State) (p : Nat) : List (Nat × List Byte) :=
  let fns := ((s.svc.channels.filter (fun q => q.2.srcKind == 1 && q.2.port == p)).map (fun q => q.2.fn))
  ((List.range 257).filter fns.contains).flatMap (fun f => (s.fnChans p f).map (fun ch => (f, s.bstEntry ch)))

/-- R345: the header of a BST of `m` entries with CHECK 0. -/
def State.bstHeader (s : State) (p m : Nat) : List Byte :=
  let n := min m 2044
  let box := ((List.range 64).find? (fun m => s.fld MBX_CFG.PATH m == 1 && s.fld MBX_CFG.PORT m == p)).getD 255
  leBytes 4 0x31545342 ++ leBytes 2 1 ++ leBytes 2 64 ++ leBytes 4 (64 + 32 * n) ++ leBytes 4 (nget s.svc.bstGen p 0) ++ leBytes 1 p ++
    leBytes 1 box ++ leBytes 2 n ++ leBytes 2 64 ++ leBytes 2 32 ++ leBytes 4 s.fw.version ++ leBytes 4 0 ++
    leBytes 8 (s.word .CHIP_CAP_EFFECTIVE 0 0).toNat ++ leBytes 2 (s.fld CHIP_ID.CONST_NUMBER 0) ++
    leBytes 1 (flag (decide (2044 < m))) ++ leBytes 1 0 ++ leBytes 4 (s.fld PCIE_PORT_STATUS.CPL_TO_US p) ++
    leBytes 8 (nget s.svc.bstAt p 0) ++ leBytes 4 0 ++ leBytes 4 0

/-- The table that an endpoint port shows: the one of its last rebuild; before the first one, a table without entries. -/
def State.bstTable (s : State) (p : Nat) : BstTable := (lookupKey p s.svc.tables).getD ⟨s.bstHeader p 0, []⟩

/-- R347: the whole table of a port is replaced, and GENERATION advances. -/
def State.buildBst (s : State) (p : Nat) : State :=
  let es := s.bstEntries p
  let s : State := { s with svc := { s.svc with
    bstGen := nput s.svc.bstGen p ((nget s.svc.bstGen p 0 + 1) % 2 ^ 32), bstAt := nput s.svc.bstAt p s.stb } }
  { s with svc := { s.svc with tables := nput s.svc.tables p ⟨s.bstHeader p es.length, es⟩ } }

/-- R347: the endpoint ports that have or had a channel. -/
def State.bstPorts (s : State) : List Nat :=
  (s.svc.channels.filterMap (fun q => if q.2.srcKind = 1 then some q.2.port else none) ++ s.svc.tables.map Prod.fst).eraseDups

/-- R347: the keeper rebuilds the tables that are due, and those of which an entry has changed: by a command, or because fetching has
stopped or goes on. While it restarts, nothing is built. -/
def State.buildBsts (s : State) : State :=
  if s.keeper.restarting.isSome then s
  else
    let due := s.svc.due
    let s : State := { s with svc := { s.svc with due := [] } }
    (due ++ s.bstPorts.filter (fun p => !(due.contains p) && (s.bstTable p).entries != s.bstEntries p)).foldl State.buildBst s

/-! ### Core accesses to a port -/

/-- Whether a function's reset is in progress (R356). -/
def State.inReset (s : State) (p fn : Nat) : Bool := s.pcie.resets.any (fun r => r.port == p && r.fn == fn)

/-- What a port does with a core's access at an offset of its window (R337, R338, R355): a refusal by the reasons of ERR, a bus address of
a function or link, a configuration register of a link, or nothing there. -/
inductive PortTarget where
  | refused (reason : Nat)
  | bus (fn addr : Nat)
  | config (link off : Nat)
  | absent

/-- R337 and R338: the target of an offset `o` of a port's window for a core access of a world and of `n` bytes. -/
def State.portTarget (s : State) (p o n : Nat) (world : Bool) : PortTarget :=
  let o := o % 2 ^ 43
  if s.portRole p = 1 then
    let links := (s.linksOf p).length
    let share := 2 ^ 43 / links
    let j := o / share
    let u := o % share
    if world ≠ s.is WLD_PORT.SECURE p then .refused 2
    else if share - 0x10000000 ≤ u then
      let e := u - (share - 0x10000000)
      let bus := bitsOf e 20 8
      let i := fnIdx p (linkFn j)
      if !([1, 2, 4].contains n) ∨ e % n ≠ 0 then .refused 3
      else if e < 0x1000 then .config j e
      else if 0 < bus ∧ s.cfgNat i 0x19 1 ≤ bus ∧ bus ≤ s.cfgNat i 0x1A 1 then .config j e
      else .absent
    else .bus (linkFn j) ((s.fld RP_OUT.BASE (linkIdx p j) * 4096 + u) % 2 ^ 64)
  else if s.portRole p = 2 then
    let f := o / 2 ^ 34
    let u := o % 2 ^ 34
    let i := 512 * p + f
    if 256 < f ∨ s.fld EP_APERTURE.VALID i = 0 ∨ s.fld EP_APERTURE.PAGES i * 4096 ≤ u then .refused 1
    else if world ≠ s.is EP_APERTURE.WORLD i then .refused 2
    else if s.bme p f = false ∨ s.inReset p f then .refused 4
    else .bus f ((s.fld EP_APERTURE.BASE i * 4096 + u) % 2 ^ 64)
  else .refused (if s.units.portDown.contains p then 4 else 1)

/-- Whether a link is contained (R352). -/
def State.contained (s : State) (p fn : Nat) : Bool := decide (384 ≤ fn) && s.fld PCIE_LINK.STATE (linkIdx p (fn - 384)) == 3

/-- The data units of a transfer of bytes. -/
def dataUnits (n : Nat) : Nat := ceilDiv n 64

/-- Payload leaves or enters a port: event 0x30A or 0x309, and the captures (R417, R425). -/
def State.portUnits (s : State) (p : Nat) (outward world : Bool) (addr n : Nat) : State :=
  (s.count (portBank p) { code := if outward then 0x30A else 0x309, world := some world, addr := some addr } (dataUnits n)).carry
    (portBank p) (flag outward) false (dataUnits n)

end Sys2Proof.Machine
end

