-- ==== Sys2Proof/Machine/JournalOps.lean ====
section
/-! DEFINITION. Journal records (R162 to R166) and the drain (R167, R168). -/

namespace Sys2Proof.Machine

/-! ### Records -/

/-- The attempt of a record's JFLAGS, and the flags. -/
def JRec.flags (r : JRec) : Nat :=
  flag r.confirmed + 2 * flag r.void + 4 * flag r.ack + 8 * flag r.lost + 32 * (r.attempt % 4)

/-- R164: a record of a length with its header and body; the CRC covers it with its own field at 0. -/
def recordBytes (len bodyLen journal flags seq stamp info : Nat) (body : List Byte) : List Byte :=
  let head := leBytes 2 len ++ leBytes 2 bodyLen ++ leBytes 1 journal ++ leBytes 1 flags ++ leBytes 2 0 ++ leBytes 8 seq ++
    leBytes 8 stamp ++ leBytes 4 info
  let pad := body ++ leBytes (len - 32 - body.length) 0
  head ++ leBytes 4 (crc32c (head ++ leBytes 4 0 ++ pad)) ++ pad

/-- A record as it came from another package, with its marks as they are now (R306). -/
def markedBytes (raw : List Byte) (flags : Nat) : List Byte :=
  let head := raw.take 5 ++ leBytes 1 flags ++ (raw.drop 6).take 22
  let tail := raw.drop 32
  head ++ leBytes 4 (crc32c (head ++ leBytes 4 0 ++ tail)) ++ tail

/-- R164: the bytes of a record. -/
def JRec.bytes (r : JRec) : List Byte :=
  if r.raw.isEmpty then recordBytes (64 * r.units) r.body.length r.journal r.flags r.seq r.stamp (r.op + r.tag % 64 * 2 ^ 17) r.body
  else r.raw

/-- A mirror slot's record as the drain takes it. -/
def MirRec.toRec (r : MirRec) (j : Nat) : JRec :=
  { journal := j, seq := r.seq, body := [], stamp := 0, op := 0, tag := 0, attempt := 0, confirmed := r.flags.testBit 0,
    void := r.flags.testBit 1, ack := true, lost := false, mirrored := false, closed := true,
    raw := markedBytes r.body (leAt r.body 5 1 ||| r.flags % 4) }

/-- The records of a journal, or 64 up those of a mirror slot, in sequence order. -/
def State.recsOf (s : State) (j : Nat) : List JRec :=
  if j < 64 then s.jnl.recs.filter (fun r => r.journal == j)
  else (s.cst.mirrored.filter (fun r => r.slot == j - 64)).map (fun r => r.toRec (s.fld CST_MIRROR_SLOT.JOURNAL (j - 64)))

/-- R167: `n` filler records of 64 bytes. The spec gives a filler no stamp (log 8). -/
def fillers (j : Nat) : Nat → State → List Byte × State
  | 0, s => ([], s)
  | n + 1, s =>
    let q := fillers j n s.free.2
    (recordBytes 64 0 j 16 0 s.free.1 0 [] ++ q.1, q.2)

/-- The partner and the acknowledgement timeout in ticks of a journal that is mirrored. -/
def State.mirrorTo (s : State) (j : Nat) : Option (Nat × Nat) := lookupKey j s.jnl.mirrors

/-- The partner of a journal that is mirrored, or whose mirroring has ended with records still to be drained (R305). -/
def State.partnerOf (s : State) (j : Nat) : Option Nat := ((s.mirrorTo j).map Prod.fst).or (lookupKey j s.jnl.parting)

/-- R305 and R306: a record is sent to the partner with the source's DRAINED_SEQ. -/
def State.sendRecord (s : State) (pkg : Nat) (r : JRec) : State :=
  s.toPackage pkg 1 [r.journal, r.seq, s.fld JNL_SEQ.DRAINED_SEQ r.journal] r.bytes

/-- R166 and R306: confirm and void marks, and DRAINED_SEQ, go to the partner. -/
def State.sendMark (s : State) (pkg : Nat) (r : JRec) : State :=
  s.toPackage pkg 2 [r.journal, r.seq, r.flags % 4, s.fld JNL_SEQ.DRAINED_SEQ r.journal]

/-- Replaces the record of a journal with a sequence number. -/
def State.mapRec (s : State) (j seq : Nat) (f : JRec → JRec) : State :=
  { s with jnl := { s.jnl with recs := s.jnl.recs.map (fun r => if r.journal = j ∧ r.seq = seq then f r else r) } }

/-! ### The drain -/

/-- A drain channel's progress. -/
def State.drain (s : State) (d : Nat) : DrainState := nget s.jnl.drains d ⟨0, [], 0, 0⟩

/-- Sets a drain channel's progress. -/
def State.setDrain (s : State) (d : Nat) (x : DrainState) : State :=
  { s with jnl := { s.jnl with drains := nputd s.jnl.drains d x ⟨0, [], 0, 0⟩ } }

/-- Whether a drain channel runs: enabled, not halted, and its engine in the quadrant of its port (R167). -/
def State.drainRuns (s : State) (d : Nat) : Bool :=
  s.is JNL_DRAIN.ENABLE d && !((s.fld JNL_STATUS.DRAIN_HALTED 0).testBit d) &&
    s.fld JNL_DRAIN.ENGINE d / 4 == s.fld JNL_DRAIN.PORT d / 2

/-- Whether a record may be drained (R167); those of an orphaned slot carry the marks they have (R306). -/
def JRec.drainable (r : JRec) : Bool := !r.raw.isEmpty || (r.closed && (r.confirmed || r.void) && (!r.mirrored || r.ack || r.lost))

/-- The bytes that records of a block fill. -/
def State.blockUsed (s : State) (j : Nat) (seqs : List Nat) : Nat :=
  (((s.recsOf j).filter (fun r => seqs.contains r.seq)).map (fun r => 64 * r.units)).sum

/-- Whether a block's command has been issued: `issued` is its stamp plus 1. -/
def DrainBlock.sent (b : DrainBlock) : Bool := b.issued != 0

/-- The commands of a drain channel that have not completed. -/
def DrainState.busy (x : DrainState) : Nat := (x.blocks.filter (fun b => b.sent && !b.done)).length

/-- A drain channel rings a doorbell of its controller: a posted write of four bytes in the window of its port (log 48). -/
def State.ringController (s : State) (d addr v : Nat) : State :=
  let p := s.fld JNL_DRAIN.PORT d
  let o := addr - 0x4000000000000
  if addr < 0x4000000000000 ∨ o / 2 ^ 44 ≠ p then s
  else
    match s.portTarget p (o % 2 ^ 44) 4 (s.is WLD_PORT.SECURE p) with
    | .bus fn a =>
      if s.contained p fn then s
      else (s.postWrite p fn a 0 (leBytes 4 v)).portUnits p true (s.is WLD_PORT.SECURE p) addr 4
    | _ => s

/-- R167: the NVMe Write command of one block with Force Unit Access. The spec gives neither the command identifier nor where the
controller finds the data (log 48). -/
def writeCommand (id nsid prp lba : Nat) : List Byte :=
  leBytes 1 0x01 ++ leBytes 1 0 ++ leBytes 2 id ++ leBytes 4 nsid ++ leBytes 16 0 ++ leBytes 8 prp ++ leBytes 8 0 ++ leBytes 8 lba ++
    leBytes 4 (2 ^ 30) ++ leBytes 12 0

/-- The traffic of a drain channel's engine: tag 0, urgency 2 (R109), secure (R311). -/
def State.drainUses (s : State) (d : Nat) : Traffic := engineTraffic (s.fld JNL_DRAIN.ENGINE d) 0 2 true

/-- R109, R167 and R316: a command enters the submission queue of a drain channel in memory, which lies in a secure tile, and the tail
doorbell is rung. -/
def State.submitDrain (s : State) (d lba : Nat) : State :=
  let x := s.drain d
  let addr := s.fld JNL_DRAIN.SQ_ADDR d + 64 * x.tail
  let tail := (x.tail + 1) % 2 ^ s.fld JNL_DRAIN.QLOG2 d
  let f := s.free
  let g := f.2.free
  let s := g.2.setDrain d { x with tail := tail }
  let s := if s.populated addr ∧ s.addrSecure addr = true then
      (s.traffic (s.drainUses d) true addr 64).storeNow addr (writeCommand f.1 (s.fld JNL_DRAIN.NSID d) g.1 lba)
    else s.homeRefused addr
  s.ringController d (s.fld JNL_DRAIN.SQ_DOORBELL d) tail

/-- R167: a drain channel takes a completion from its queue and rings the head doorbell. -/
def State.takeDrained (s : State) (d : Nat) : State :=
  let x := s.drain d
  let head := (x.head + 1) % 2 ^ s.fld JNL_DRAIN.QLOG2 d
  let addr := s.fld JNL_DRAIN.CQ_ADDR d + 16 * x.head
  let s := s.setDrain d { x with head := head }
  let s := if s.populated addr ∧ s.addrSecure addr = true then s.traffic (s.drainUses d) false addr 16 else s.homeRefused addr
  s.ringController d (s.fld JNL_DRAIN.CQ_DOORBELL d) head

/-- The Write command of a block is given to the controller, with Force Unit Access (R167). -/
def State.issueWrite (s : State) (d : Nat) (b : DrainBlock) : State :=
  let s := s.submitDrain d b.lba
  let body := (((s.recsOf b.journal).filter (fun r => b.seqs.contains r.seq)).map JRec.bytes).flatten
  let q := fillers (if b.journal < 64 then b.journal else s.fld CST_MIRROR_SLOT.JOURNAL (b.journal - 64)) ((4096 - body.length) / 64) s
  q.2.emit .nvme [d, s.fld JNL_DRAIN.PORT d, s.fld JNL_DRAIN.QID d, s.fld JNL_DRAIN.NSID d, b.lba, 1] (body ++ q.1)

/-- The LBA after `n` blocks of the log (R167). -/
def State.drainLba (s : State) (d n : Nat) : Nat :=
  s.fld JNL_DRAIN.LBA_START d + (if s.fld JNL_DRAIN.LBA_COUNT d = 0 then 0 else n % s.fld JNL_DRAIN.LBA_COUNT d)

/-- Replaces the first block of a channel that satisfies `p`. -/
def DrainState.modify (x : DrainState) (p : DrainBlock → Bool) (f : DrainBlock → DrainBlock) : DrainState :=
  match x.blocks.findIdx? p with
  | some i => { x with blocks := x.blocks.modify i f }
  | none => x

/-- Whether a drain channel's next command can be written to its submission queue now (R126). -/
def State.submitFree (s : State) (d : Nat) : Bool :=
  s.mayTraffic (s.drainUses d) true (s.fld JNL_DRAIN.SQ_ADDR d + 64 * (s.drain d).tail) 64

/-- Whether a drain channel's next completion can be read from its completion queue now (R126). -/
def State.drainedFree (s : State) (d : Nat) : Bool :=
  s.mayTraffic (s.drainUses d) false (s.fld JNL_DRAIN.CQ_ADDR d + 16 * (s.drain d).head) 16

/-- R167: writes the block that a journal is filling, if the queue has room and the write is not held. -/
def State.writeBlock (s : State) (d j : Nat) : State :=
  let x := s.drain d
  match x.blocks.find? (fun b => b.journal == j && !b.sent) with
  | none => s
  | some b =>
    if 2 ^ s.fld JNL_DRAIN.QLOG2 d ≤ x.busy + 1 ∨ s.submitFree d = false then s
    else
      let b' := { b with lba := s.drainLba d x.next, issued := s.stb + 1 }
      let y := x.modify (fun c => c.journal == j && !c.sent) (fun _ => b')
      (s.setDrain d { y with next := x.next + 1 }).issueWrite d b'

/-- The next record of a journal for a drain channel: the one after those in its blocks, if it may be drained. -/
def State.nextRecord (s : State) (d j : Nat) : Option JRec :=
  let taken := ((s.drain d).blocks.filter (fun b => b.journal == j)).map DrainBlock.seqs
  match (s.recsOf j).find? (fun r => !(taken.any (fun q => q.contains r.seq))) with
  | some r => if r.drainable then some r else none
  | none => none

/-- R167: packs a journal's records into blocks, writing each block that is full. -/
def State.packJournal (s : State) (d j : Nat) : Nat → State
  | 0 => s
  | n + 1 =>
    match s.nextRecord d j with
    | none => s
    | some r =>
      let x := s.drain d
      match x.blocks.find? (fun b => b.journal == j && !b.sent) with
      | none =>
        (s.setDrain d { x with blocks := x.blocks ++ [⟨0, j, [r.seq], s.stb, 0, 0, false⟩] }).packJournal d j n
      | some b =>
        let used := s.blockUsed j b.seqs
        if 4096 < used + 64 * r.units then
          let t := s.writeBlock d j
          if (t.drain d).next = x.next then s else t.packJournal d j n
        else
          let t := s.setDrain d (x.modify (fun c => c.journal == j && !c.sent) (fun c => { c with seqs := c.seqs ++ [r.seq] }))
          (if used + 64 * r.units = 4096 then t.writeBlock d j else t).packJournal d j n

/-- R167: the block a journal is filling is written as soon as the queue has room, where it is full. -/
def State.writeFull (s : State) (d j : Nat) : State :=
  if (s.drain d).blocks.any (fun b => b.journal == j && !b.sent && s.blockUsed j b.seqs == 4096) then s.writeBlock d j else s

/-- R167: every running drain channel packs what may be drained. -/
def State.pumpDrains (s : State) : State :=
  (List.range 8).foldl (fun s d =>
    if s.drainRuns d then
      (List.range 72).foldl (fun (s : State) j => if s.drainOf j = some d then (s.writeFull d j).packJournal d j (s.recsOf j).length else s) s
    else s) s

/-- The units that a mirror slot holds. -/
def State.slotUnits (s : State) (m : Nat) : Nat := ((s.cst.mirrored.filter (fun r => r.slot == m)).map (fun r => r.body.length / 64)).sum

/-- R306: a mirror slot's records that satisfy `p` are freed; an orphaned slot without records is free. -/
def State.dropMirrored (s : State) (m : Nat) (p : MirRec → Bool) : State :=
  let s : State := { s with cst := { s.cst with mirrored := s.cst.mirrored.filter (fun r => !(r.slot == m && p r)) } }
  let s := s.set CST_MIRROR_SLOT.UNITS m (s.slotUnits m)
  if s.slotUnits m = 0 ∧ (s.is CST_MIRROR_SLOT.ORPHAN m ∨ s.cst.ended.contains m) then
    ({ s with cst := { s.cst with ended := s.cst.ended.erase m } } : State).set CST_MIRROR_SLOT.VALID m 0 |>.set CST_MIRROR_SLOT.ORPHAN m 0
  else s

/-- R167: frees the blocks of a journal that have completed with all before them, their records' units, and advances
DRAINED_SEQ. -/
def State.freeBlocks (s : State) (d j : Nat) : Nat → State
  | 0 => s
  | n + 1 =>
    let x := s.drain d
    match x.blocks.find? (fun b => b.journal == j) with
    | none => s
    | some b =>
      if !b.done then s
      else
        let s := s.setDrain d { x with blocks := x.blocks.erase b }
        if j < 64 then
          let s : State := { s with jnl := { s.jnl with recs := s.jnl.recs.filter (fun r => !(r.journal == j && b.seqs.contains r.seq)) } }
          (s.set JNL_SEQ.DRAINED_SEQ j (b.seqs.foldl max (s.fld JNL_SEQ.DRAINED_SEQ j))).freeBlocks d j n
        else (s.dropMirrored (j - 64) (fun r => b.seqs.contains r.seq)).freeBlocks d j n

/-- R168: a drain command failed: it is retried up to three times while the drain runs; when the third retry has failed the channel halts
(DEDUCED, log 48: "the third failure" is that of the third retry). A drain that is not enabled issues it again when it resumes. -/
def State.drainFailed (s : State) (d : Nat) (b : DrainBlock) : State :=
  let x := s.drain d
  let b' := { b with fails := b.fails + 1, issued := s.stb + 1 }
  let s := s.setDrain d (x.modify (fun c => c == b) (fun _ => b'))
  if s.drainRuns d = false then s
  else if b'.fails ≤ 3 then s.issueWrite d b'
  else
    let s := (s.set JNL_STATUS.DRAIN_HALTED 0 (withBit (s.fld JNL_STATUS.DRAIN_HALTED 0) d)).set JNL_EVT.DRAIN_ERROR 0 1
    s.raise { coll := engineColl (s.fld JNL_DRAIN.ENGINE d), bit := 2, detail := leBytes 1 d }

/-- R168: the drain goes on from the first block that was not acknowledged. -/
def State.resumeDrain (s : State) (d : Nat) : State :=
  let s := s.set JNL_STATUS.DRAIN_HALTED 0 (withoutBit (s.fld JNL_STATUS.DRAIN_HALTED 0) d)
  let x := s.drain d
  let again := x.blocks.filter (fun b => b.sent && !b.done)
  let s := s.setDrain d { x with blocks := x.blocks.map (fun b =>
    if b.sent && !b.done then { b with fails := 0, issued := s.stb + 1 } else b) }
  if s.drainRuns d then (again.foldl (fun s b => s.issueWrite d b) s).pumpDrains else s

/-! ### JCOMMIT -/

/-- An instruction retires with a value in rd. -/
def State.retire (s : State) (h rd : Nat) (v : Word) : State := (s.setX h rd v).nextPc h 4

/-- R162: whether the op that a core holds may write a record of `n` bytes of body. -/
def State.mayCommit (s : State) (h n : Nat) : Option Op :=
  if s.fld DSP_CORE.HOLDING h = 0 ∨ s.is DSP_CORE.ANSWERED h then none
  else
    match s.op (s.fld DSP_CORE.OP_ID h) with
    | some o =>
      let journalled := ((lookupKey o.cls s.svc.classes).map (fun c => c.cflags.testBit 0)).getD false
      if journalled ∧ o.used + ceilDiv (32 + n) 64 ≤ o.units ∧ ¬ ((s.run h).dispatched + o.budget ≤ s.stb) then some o else none
    | none => none

/-- R162, R163, R166 and R401: the record enters the store; a mirrored one waits for its acknowledgement unless the journal has
lost its mirror or Nightfall has begun. -/
def State.commit (s : State) (h rd : Nat) (o : Op) (body : List Byte) : State :=
  let j := o.cls
  let seq := s.fld JNL_SEQ.NEXT_SEQ j
  let m := s.mirrorTo j
  let waits := m.isSome && !(s.is JNL_SEQ.MIRROR_LOST j) && !s.nf.triggered
  let r : JRec := { journal := j, seq := seq, body := body, stamp := s.stampIn (h / 24), op := o.id, tag := o.tag, attempt := o.attempt,
                    confirmed := false, void := false, ack := false, lost := m.isSome && !waits, mirrored := m.isSome, closed := false }
  let s := s.count (coreBank h) { code := 0x0D, world := some (s.hartSecure h), tag := some o.tag }
  let s := (({ s with jnl := { s.jnl with recs := s.jnl.recs ++ [r] } }).setOp { o with used := o.used + r.units }).set
    JNL_SEQ.NEXT_SEQ j (seq + 1)
  match m with
  | some q =>
    if waits then (s.sendRecord q.1 r).setRun h { s.run h with jcommit := some (rd, j, seq, s.stb + q.2) }
    else s.retire h rd (BitVec.ofNat 64 (seq + 2 ^ 63))
  | none => s.retire h rd (BitVec.ofNat 64 seq)

end Sys2Proof.Machine
end

