-- ==== Sys2Proof/Machine/WalkOps.lean ====
section
/-! DEFINITION. What a core's requests carry (R109, R110), physical memory protection, first-touch pools (R210 to R214) and the
table walks (R199 to R213). The formats of entries and of the protection registers are those of the RISC-V Privileged
Architecture, which R170 names (log 14). -/

namespace Sys2Proof.Machine

/-! ### Tags -/

/-- R110: whether a core's tag override is valid. -/
def State.btagOk (s : State) (h tag : Nat) : Bool :=
  tag == 0 || (s.is ALM_TAG_CFG.ENABLED tag && s.is ALM_TAG_CFG.CORE_OK tag && (!(s.is ALM_TAG_CFG.SECURE tag) || s.hartSecure h))

/-- The highest urgency a tag carries; 3 for tag 0. -/
def State.urgencyCap (s : State) (tag : Nat) : Nat := if tag = 0 then 3 else s.fld ALM_TAG_CFG.MAX_URGENCY tag

/-- R156: whether a core's op overran its budget. -/
def State.overran (s : State) (c : Nat) : Bool :=
  let r := s.run c
  match r.answer with
  | some a => a.1 == 2 && decide (r.dispatched + r.budget ≤ a.2)
  | none => false

/-- R109 and R156: the tag and urgency of a core's requests. -/
def State.hartTraffic (s : State) (h : Nat) : Nat × Nat :=
  let op := if s.is DSP_CORE.HOLDING h then s.op (s.fld DSP_CORE.OP_ID h) else none
  let base : Nat × Nat := match op with
    | some o => if s.overran h then (0, 0) else (o.tag, o.urgency)
    | none => (0, 0)
  let b := s.fld BTAG.TAG h
  let tag := if s.is BTAG.TAG_VALID h ∧ s.btagOk h b ∧ s.overran h = false then b else base.1
  (tag, min (if s.is BTAG.URG_VALID h then s.fld BTAG.URGENCY h else base.2) (s.urgencyCap tag))

/-- R124: `n` units of a hart's tag pass the write meter of a node; what the meter does not hold is demoted. -/
def State.meterUnits (s : State) (h node dir n : Nat) : State :=
  let tag := (s.hartTraffic h).1
  if tag = 0 then s
  else
    let m := meterIdx (h / 24) node dir tag
    let have_ := s.fld ALM_METER.REMAINING m
    let s := s.set ALM_METER.REMAINING m (have_ - n)
    { s with alm := { s.alm with demoted := nadd s.alm.demoted m (n - have_) } }

/-! ### Kinds of access -/

/-- The access-fault cause of an access. -/
def Want.access : Want → Nat
  | .fetch => 1
  | .load => 5
  | .store => 7

/-- The page-fault cause. -/
def Want.page : Want → Nat
  | .fetch => 12
  | .load => 13
  | .store => 15

/-- The guest-page-fault cause. -/
def Want.guest : Want → Nat
  | .fetch => 20
  | .load => 21
  | .store => 23

/-- The kind of translation of an access of a core: an AMO, an SC and a zeroing are stores; a management op of a cache block needs
what a load or store does and is checked as a store. -/
def AccKind.want : AccKind → Want
  | .fetch => .fetch
  | .load => .load
  | .lr => .load
  | _ => .store

/-! ### Physical memory protection -/

/-- The configuration byte of a PMP entry. -/
def State.pmpCfg (s : State) (h i : Nat) : Nat := wbits (s.csr h (0x3A0 + 2 * (i / 8))) (8 * (i % 8)) 8

/-- The count of ones at the bottom of a number, up to a limit. -/
def trailingOnes : Nat → Nat → Nat
  | 0, _ => 0
  | n + 1, x => if x % 2 = 1 then 1 + trailingOnes n (x / 2) else 0

/-- The range of a PMP entry: base and end; granularity 4 KiB (R170). -/
def State.pmpRange (s : State) (h i : Nat) : Option (Nat × Nat) :=
  let a := (s.csr h (0x3B0 + i)).toNat % 2 ^ 54
  match bitsOf (s.pmpCfg h i) 3 2 with
  | 1 =>
    let lo := if i = 0 then 0 else (s.csr h (0x3B0 + i - 1)).toNat % 2 ^ 54 / 1024 * 4096
    some (lo, a / 1024 * 4096)
  | 3 =>
    let x := a ||| 511
    let k := trailingOnes 54 x
    some (x / 2 ^ (k + 1) * 2 ^ (k + 3), x / 2 ^ (k + 1) * 2 ^ (k + 3) + 2 ^ (k + 3))
  | _ => none

/-- Whether the PMP admits an access of `n` bytes at a privilege. -/
def State.pmpOk (s : State) (h a n : Nat) (w : Want) (priv : Nat) : Bool :=
  match (List.range 16).find? (fun i => match s.pmpRange h i with
    | some q => decide (q.1 < a + n) && decide (a < q.2)
    | none => false) with
  | none => priv == 3
  | some i =>
    let c := s.pmpCfg h i
    let inside := match s.pmpRange h i with
      | some q => decide (q.1 ≤ a) && decide (a + n ≤ q.2)
      | none => false
    inside && ((priv == 3 && !(c.testBit 7)) || (match w with
      | .fetch => c.testBit 2
      | .load => c.testBit 0
      | .store => c.testBit 1 && c.testBit 0))

/-! ### Pools -/

/-- R214: whether a frame must be discarded: its tile has changed world, or it lies on a retired channel or pair. -/
def State.frameBad (s : State) (p a : Nat) : Bool :=
  s.addrSecure a != s.is POOL_STATE.WORLD p ||
    (List.range (s.frameSize p / 4096)).any (fun i => match s.memberAt (a + 4096 * i) with
      | some q => (s.server q.1).isNone
      | none => true)

/-- R214: the next frame of a pool and whether it is already zeroed; bad frames are discarded and counted. -/
def State.takeFrame (s : State) (p : Nat) : Nat → Option (Nat × Bool) × State
  | 0 => (none, s)
  | k + 1 =>
    let x := s.pool p
    match x.returned, x.ranges with
    | f :: r, _ =>
      let s := s.setPool p { x with returned := r }
      if s.frameBad p f then (s.bumpSat POOL_STATE.SKIPPED p 1).takeFrame p k else (some (f, true), s)
    | [], g :: r =>
      let f := g.next
      let g' : PoolRange := { g with next := f + s.frameSize p }
      let s := s.setPool p { x with ranges := if g'.next < g'.stop then g' :: r else r }
      if s.frameBad p f then (s.bumpSat POOL_STATE.SKIPPED p 1).takeFrame p k else (some (f, false), s)
    | [], [] => (none, s)

/-- R212, step 2: every line of a frame is zeroed, which clears poison, and metered. Copies of its lines on their way are of the zeros too,
and nothing of the old contents remains to be rewritten. -/
def State.zeroFrame (s : State) (h p f : Nat) : State :=
  let inside := fun (a : Nat) => decide (f ≤ a) && decide (a < f + s.frameSize p)
  let hit := fun (l : Nat) => inside (64 * l)
  let s : State := { s with
    mem := { s.mem with
      cells := s.mem.cells.filter (fun q => !(inside q.1)), poison := s.mem.poison.filter (fun l => !(hit l)),
      broken := s.mem.broken.filter (fun l => !(hit l)) },
    fab := { s.fab with lines := s.fab.lines.filter (fun q => !(hit q.1.2)) } }
  let s := (s.patchLines hit (leBytes 64 0, false)).mendLines hit
  match slotAt f with
  | some q => s.meterUnits h q.1 1 (s.frameSize p / 64)
  | none => s

/-! ### Walk errors -/

/-- R203: records the failing entry of a walk fault. -/
def State.walkError (s : State) (h kind stage level a : Nat) : State :=
  if s.is CORE_WALK_ERR.VALID h then s.set CORE_WALK_ERR.OVERFLOW h 1
  else
    let s := (((s.set CORE_WALK_ERR.VALID h 1).set CORE_WALK_ERR.KIND h kind).set CORE_WALK_ERR.STAGE h stage).set
      CORE_WALK_ERR.LEVEL h level
    s.set CORE_WALK_ADDR.ADDR h a

/-- A fault of a walk: its cause, the guest-physical address that htval or mtval2 names, and what htinst or mtinst holds (R203); or, with
`need`, that the walk waits for its block cache. -/
structure WFault where
  cause : Nat
  gpa : Nat
  tinst : Nat
  need : Option Need := none
deriving DecidableEq, Repr

/-- A leaf that a walk ends at: the physical base of its page, log2 of its size, its bits 7:0 and its memory type; and the non-leaf entries
that led to it. -/
structure Leaf where
  base : Nat
  log2 : Nat
  perms : Nat
  pbmt : Nat
  ptrs : List Ptr := []
deriving DecidableEq, Repr

/-- What a walk is made for: the hart, the access, the world, its stage (0 single, 1 VS, 2 G), and whether it only tries: a walk
is tried first, so that one that ends in an exception changes no entry (R204). -/
structure WalkCtx where
  hart : Nat
  want : Want
  secure : Bool
  stage : Nat
  dry : Bool
deriving DecidableEq, Repr

/-- The pseudoinstruction of a read of a VS-stage entry: the Hypervisor extension's for a 64-bit implicit read (R203, log 14). -/
def WalkCtx.pseudo (c : WalkCtx) : Nat := if c.stage = 1 then 0x3000 else 0

/-- The STAGE of CORE_WALK_ERR. -/
def WalkCtx.err (c : WalkCtx) : Nat := if c.stage = 2 then 1 else 0

/-- The fault of a walk's content checks: a page fault, or a guest-page fault in the G stage. -/
def WalkCtx.fault (c : WalkCtx) : Nat := if c.stage = 2 then c.want.guest else c.want.page

/-- R203: whether the memory of a line has been retired. -/
def State.lineGone (s : State) (a : Nat) : Bool :=
  match s.memberAt a with
  | some m => (s.server m.1).isNone
  | none => !(addrKind a matches .window _)

/-- R203: the KIND of a walk error on a line that reads as poisoned. -/
def State.poisonKind (s : State) (a : Nat) : Nat := if s.lineGone a then 5 else if s.mem.broken.contains (a / 64) then 2 else 3

/-- What a walk needs to read the entry at `a`. -/
def WalkCtx.needs (c : WalkCtx) (level a gpa : Nat) : Need := ⟨a, false, level, c.err, gpa, c.pseudo, none, none⟩

/-- R182, R199 and R202, checks 4 and 5: reads an entry of 8 bytes through the block cache of the core. -/
def State.readCached (s : State) (c : WalkCtx) (level a gpa : Nat) : (WFault ⊕ Nat) × State :=
  match s.held (c.hart / 4) (a / 64) with
  | some x =>
    if x.wb then (.inl ⟨0, 0, 0, some (c.needs level a gpa)⟩, s)
    else if x.world != c.secure then (.inl ⟨26, 0, 0, none⟩, s)
    else if x.poison then (.inl ⟨24, gpa, c.pseudo, none⟩, s.walkError c.hart (s.poisonKind a) c.err level a)
    else (.inr (leNat ((x.data.drop (a % 64)).take 8)), s.touchBlock (c.hart / 4) (a / 64) x.way)
  | none => (.inl ⟨0, 0, 0, some (c.needs level a gpa)⟩, s)

/-- R202: an entry whose address is unpopulated. -/
def State.noEntry (s : State) (c : WalkCtx) (level a gpa : Nat) : (WFault ⊕ Nat) × State :=
  (.inl ⟨24, gpa, c.pseudo, none⟩, (s.walkError c.hart 1 c.err level a).holeNote (coreColl c.hart).unit a)

/-- R202, checks 1 to 5: reads an entry of 8 bytes at a physical address. -/
def State.readEntry (s : State) (c : WalkCtx) (level a gpa : Nat) : (WFault ⊕ Nat) × State :=
  if !(s.pmpOk c.hart a 8 .load 1) then (.inl ⟨c.want.access, 0, 0, none⟩, s)
  else
    match addrKind a with
    | .hole => s.noEntry c level a gpa
    | .port _ => (.inl ⟨25, gpa, c.pseudo, none⟩, s.walkError c.hart 4 c.err level a)
    | .regs => (.inl ⟨25, gpa, c.pseudo, none⟩, s.walkError c.hart 4 c.err level a)
    | .window w =>
      if s.is CST_STATUS.MEMBER 0 = false ∨ w = s.fld CST_STATUS.NUMBER 0 then s.noEntry c level a gpa
      else s.readCached c level a gpa
    | .local_ =>
      if !(s.populated a) then (.inl ⟨24, gpa, c.pseudo, none⟩, (s.walkError c.hart 1 c.err level a).homeRefused a)
      else if s.addrSecure a != c.secure then (.inl ⟨26, 0, 0, none⟩, s.homeRefused a)
      else s.readCached c level a gpa

/-- R180: a block writes an entry in a line that it owns: no L1 of the block keeps a copy, and reservations on the line are lost. -/
def State.putEntry (s : State) (h a e : Nat) (x : CLine) : State :=
  (s.loseReservations (h / 4) (a / 64)).putLine (h / 4) (a / 64)
    { x with st := .m, data := splice x.data (a % 64) (leBytes 8 e), l1 := 0 }

/-- R205, steps 3 and 4: the entry at `a`, read as `e`, is to become `e'`. Where the block owns the line, nothing comes between the
read and the swap; else the walk asks for the line. `frame` is the frame of a first touch. -/
def State.swapEntry (s : State) (c : WalkCtx) (level a gpa e e' : Nat) (frame : Option (Nat × Nat)) : (WFault ⊕ Nat) × State :=
  if c.dry then (.inr e', s)
  else
    let need := { c.needs level a gpa with own := true, swap := some (e, e'), frame := frame }
    match s.held (c.hart / 4) (a / 64) with
    | some x => if x.st = .m ∨ x.st = .e then (.inr e', s.putEntry c.hart a e' x) else (.inl ⟨0, 0, 0, some need⟩, s)
    | none => (.inl ⟨0, 0, 0, some need⟩, s)

/-- The enabling bit of menvcfg or henvcfg for a stage: 61 for A and D updates (R205), 62 for memory types. -/
def State.stageEnv (s : State) (c : WalkCtx) (bit : Nat) : Bool :=
  (s.csr c.hart 0x30A).toNat.testBit bit && (c.stage != 1 || (s.csr c.hart 0x60A).toNat.testBit bit)

/-- R177: whether first touch is in effect for a walk's stage. -/
def State.firstTouch (s : State) (c : WalkCtx) : Bool :=
  match c.stage with
  | 0 => s.is SXBCFG.FT_S c.hart && s.is MXBCFG.FT_PERMIT c.hart
  | 1 => s.is SXBCFG.FT_VS c.hart && s.is MXBCFG.FT_PERMIT c.hart
  | _ => s.is MXBCFG.FT_G c.hart

/-- Whether R, W and X form a leaf encoding. -/
def leafBits (e : Nat) : Bool := (e.testBit 1 || e.testBit 3) && !(e.testBit 2 && !(e.testBit 1))

/-- R210 and R211 but for the world: whether an invalid entry is a template that starts an allocation. -/
def State.isTemplate (s : State) (c : WalkCtx) (level e : Nat) : Bool :=
  s.firstTouch c && e % 2 == 0 && bitsOf e 8 2 == 3 && bitsOf e 16 38 == 0 && bitsOf e 54 7 == 0 && bitsOf e 63 1 == 0 &&
    leafBits e && bitsOf e 61 2 != 3 &&
    ((level == 0 && !(s.is POOL_STATE.FSIZE (bitsOf e 10 6))) || (level == 1 && s.is POOL_STATE.FSIZE (bitsOf e 10 6)))

/-- A frame is allocated on first touch (CORE_WALK_STAT, R417). -/
def State.firstTouched (s : State) (h : Nat) (secure : Bool) : State :=
  (s.count (coreBank h) { code := 7, world := some secure }).bump CORE_WALK_STAT.FT_ALLOCS h

/-- R212, step 3: the leaf that takes the place of a template: the frame, A set, and D for a store. -/
def newLeaf (c : WalkCtx) (e frame : Nat) : Nat :=
  1 + (bitsOf e 1 7 * 2 ||| 0x40 ||| (if c.want = .store then 0x80 else 0)) + frame / 4096 * 2 ^ 10 + bitsOf e 61 2 * 2 ^ 61

/-- R212 and R213: an allocation for a template at `a`: answers the new leaf, or none where the pool is empty. A walk that only tries takes
no frame. -/
def State.allocate (s : State) (c : WalkCtx) (level a gpa e : Nat) : (WFault ⊕ Nat) × State :=
  let p := bitsOf e 10 6
  let q := s.takeFrame p (s.poolFree p + 1)
  match q.1 with
  | none => (.inl ⟨c.fault, gpa, 0, none⟩, q.2.bumpSat POOL_STATE.EMPTY_FAULTS p 1)
  | some f =>
    if c.dry then (.inr (newLeaf c e f.1), s)
    else
      let s := if f.2 then q.2 else q.2.zeroFrame c.hart p f.1
      let w := s.swapEntry c level a gpa e (newLeaf c e f.1) (some (p, f.1))
      match w.1 with
      | .inr l => (.inr l, w.2.firstTouched c.hart c.secure)
      | .inl x => (.inl x, w.2)

/-- The standard checks on a valid entry at a level: none where it is malformed, `some false` a pointer, `some true` a leaf. -/
def State.entryKind (s : State) (c : WalkCtx) (level e : Nat) : Option Bool :=
  if e % 2 = 0 ∨ (e.testBit 2 ∧ e.testBit 1 = false) ∨ bitsOf e 54 7 ≠ 0 ∨ bitsOf e 61 2 = 3 ∨
      (bitsOf e 61 2 ≠ 0 ∧ s.stageEnv c 62 = false) then none
  else if e.testBit 1 ∨ e.testBit 3 then
    if bitsOf e 10 (9 * level) ≠ 0 then none
    else if e.testBit 63 ∧ (level ≠ 0 ∨ bitsOf e 10 4 ≠ 8) then none
    else some true
  else if e.testBit 6 ∨ e.testBit 7 ∨ e.testBit 4 ∨ bitsOf e 61 3 ≠ 0 ∨ level = 0 then none
  else some false

/-- The leaf that an entry at a level describes. -/
def leafOf (level e : Nat) : Leaf :=
  if e.testBit 63 then ⟨bitsOf e 14 40 * 65536, 16, e % 256, bitsOf e 61 2, []⟩
  else ⟨bitsOf e 10 44 * 4096, 12 + 9 * level, e % 256, bitsOf e 61 2, []⟩

/-- Whether a leaf permits an access: `user` in U or VU mode, `sum` and `mxr` in force. A G-stage leaf is read as a user's. -/
def leafPermits (perms : Nat) (w : Want) (user sum mxr : Bool) : Bool :=
  let u := perms.testBit 4
  (match w with
    | .fetch => perms.testBit 3 && u == user
    | .load => (perms.testBit 1 || (mxr && perms.testBit 3)) && (u == user || (u && sum))
    | .store => perms.testBit 2 && (u == user || (u && sum)))

/-- R205: sets A, and D for a store, in a leaf entry at `a`, or faults where hardware updating is off. -/
def State.setAd (s : State) (c : WalkCtx) (level a e gpa : Nat) : (WFault ⊕ Nat) × State :=
  let need := (e.testBit 6 == false) || (c.want == .store && e.testBit 7 == false)
  if !need then (.inr e, s)
  else if s.stageEnv c 61 then s.swapEntry c level a gpa e (e ||| 0x40 ||| (if c.want = .store then 0x80 else 0)) none
  else (.inl ⟨c.fault, gpa, 0, none⟩, s)

/-- How a walk treats the permissions of its leaf. -/
structure Rights where
  user : Bool
  sum : Bool
  mxr : Bool
deriving DecidableEq, Repr

/-- The end of a walk at an entry that is a leaf. -/
def State.atLeaf (s : State) (c : WalkCtx) (r : Rights) (level a e gpa : Nat) : (WFault ⊕ Leaf) × State :=
  if !(leafPermits (e % 256) c.want r.user r.sum r.mxr) then (.inl ⟨c.fault, gpa, 0, none⟩, s)
  else
    let q := s.setAd c level a e gpa
    match q.1 with
    | .inl f => (.inl f, q.2)
    | .inr e' => (.inr (leafOf level e'), q.2)

/-- The end of a walk at an entry that is not valid: a first-touch allocation, whose new leaf passes the checks of R202 as if it had been
read, or a fault (R211 to R213). -/
def State.atInvalid (s : State) (c : WalkCtx) (r : Rights) (level a e gpa : Nat) : (WFault ⊕ Leaf) × State :=
  if s.isTemplate c level e then
    let p := bitsOf e 10 6
    if s.is POOL_STATE.WORLD p != c.secure then (.inl ⟨c.fault, gpa, 0, none⟩, s.bumpSat POOL_STATE.WORLD_MISS p 1)
    else if !(leafPermits (e % 256) c.want r.user r.sum r.mxr) then (.inl ⟨c.fault, gpa, 0, none⟩, s)
    else
      let q := s.allocate c level a gpa e
      match q.1 with
      | .inr leaf => (if q.2.entryKind c level leaf = some true then .inr (leafOf level leaf) else .inl ⟨c.fault, gpa, 0, none⟩, q.2)
      | .inl f => (.inl f, q.2)
  else (.inl ⟨c.fault, gpa, 0, none⟩, s)

/-! ### Paging-structure caches (R200) -/

/-- The ASID and VMID that the entries of a walk's stage are cached under. -/
def State.walkSpace (s : State) (c : WalkCtx) : Nat × Nat :=
  (if c.stage = 2 then 0 else wbits (s.csr c.hart (if c.stage = 1 then 0x280 else 0x180)) 44 16,
   if c.stage = 0 then 0 else wbits (s.csr c.hart 0x680) 44 14)

/-- The non-leaf entry at a level for an address as a paging-structure cache would hold it. -/
def State.ptrOf (s : State) (c : WalkCtx) (level va e : Nat) : Ptr :=
  ⟨c.hart, c.stage, level, va / 2 ^ (12 + 9 * level), (s.walkSpace c).1, (s.walkSpace c).2, c.secure, e.testBit 5, bitsOf e 10 44⟩

/-- The table that a cached non-leaf entry at a level points to, for an address (R207: it is used as long as it is held). -/
def State.cachedPtr (s : State) (c : WalkCtx) (level va : Nat) : Option Nat :=
  (s.fab.ptrs.find? (fun p => p.hart == c.hart && p.stage == c.stage && p.level == level && p.top == va / 2 ^ (12 + 9 * level) &&
    (p.global || p.asid == (s.walkSpace c).1) && p.vmid == (s.walkSpace c).2 && p.world == c.secure)).map Ptr.next

/-- The cache that holds a non-leaf entry: one for each level of the single or VS stage, and one for each of the G stage. -/
def Ptr.cache (p : Ptr) : Nat × Bool × Nat := (p.hart, p.stage == 2, p.level)

/-- Adds a non-leaf entry to its cache of 32; the oldest goes first (log 22). -/
def State.addPtr (s : State) (p : Ptr) : State :=
  if s.fab.ptrs.contains p then s
  else
    let mine := s.fab.ptrs.filter (fun x => x.cache == p.cache)
    let all := if mine.length < 32 then s.fab.ptrs else mine.head?.elim s.fab.ptrs (fun x => s.fab.ptrs.erase x)
    { s with fab := { s.fab with ptrs := all ++ [p] } }

/-- The result of a walk below a non-leaf entry, with the entry. -/
def withPtrs (ps : List Ptr) (q : (WFault ⊕ Leaf) × State) : (WFault ⊕ Leaf) × State :=
  match q.1 with
  | .inr l => (.inr { l with ptrs := l.ptrs ++ ps }, q.2)
  | .inl f => (.inl f, q.2)

/-! ### Walks -/

/-- A walk of the G stage, or of the single stage, from a table at physical `base`: levels `k` − 1 down to 0. `bits` is the width
of the index at the top. -/
def State.walkFlat (s : State) (c : WalkCtx) (r : Rights) (va gpa : Nat) : Nat → Nat → Nat → (WFault ⊕ Leaf) × State
  | 0, _, _ => (.inl ⟨c.fault, gpa, 0, none⟩, s)
  | level + 1, bits, base =>
    match s.cachedPtr c level va with
    | some n => s.walkFlat c r va gpa level 9 (n * 4096)
    | none =>
      let a := base + 8 * bitsOf va (12 + 9 * level) bits
      let q := s.readEntry c level a gpa
      match q.1 with
      | .inl f => (.inl f, q.2)
      | .inr e =>
        match q.2.entryKind c level e with
        | some true => q.2.atLeaf c r level a e gpa
        | some false => withPtrs [s.ptrOf c level va e] (q.2.walkFlat c r va gpa level 9 (bitsOf e 10 44 * 4096))
        | none => if e % 2 = 0 then q.2.atInvalid c r level a e gpa else (.inl ⟨c.fault, gpa, 0, none⟩, q.2)

/-- The levels of a translation mode: Sv39, Sv48, Sv57. -/
def modeLevels (m : Nat) : Nat := if m = 8 then 3 else if m = 9 then 4 else if m = 10 then 5 else 0

/-- What a translation that changes nothing gives. -/
def Leaf.same : Leaf := ⟨0, 64, 0xFF, 0, []⟩

/-- The G stage of a hart: translates a guest-physical address; none of hgatp.MODE leaves it as it is. -/
def State.gStage (s : State) (c : WalkCtx) (w : Want) (gpa : Nat) : (WFault ⊕ Leaf) × State :=
  let g := s.csr c.hart 0x680
  let n := modeLevels (wbits g 60 4)
  if n = 0 then (.inr Leaf.same, s)
  else if 2 ^ (14 + 9 * n) ≤ gpa then (.inl ⟨w.guest, gpa, 0, none⟩, s)
  else s.walkFlat { c with want := w, stage := 2 } ⟨true, false, (s.csr c.hart csrMstatus).toNat.testBit 19⟩ gpa gpa n 11 (wbits g 0 44 * 4096)

/-- The physical address that a leaf gives. -/
def Leaf.at (l : Leaf) (a : Nat) : Nat := l.base + a % 2 ^ l.log2

/-- A G-stage fault of an implicit access to a VS-stage entry keeps the cause of the access that it is made for (R202), with the
pseudoinstruction of the implicit read or write (R203). -/
def recast (w : Want) (write : Bool) (f : WFault) : WFault :=
  let t := if write then 0x3020 else 0x3000
  if f.need.isSome then { f with need := f.need.map (fun n => { n with tinst := t }) }
  else if f.cause = Want.guest .load ∨ f.cause = Want.guest .store then { f with cause := w.guest, tinst := t }
  else if f.cause = 24 ∨ f.cause = 25 then { f with tinst := t }
  else if f.cause = Want.access .load ∨ f.cause = Want.access .store then { f with cause := w.access, tinst := 0 }
  else { f with tinst := 0 }

/-- A walk of the VS stage: the address of every entry goes through the G stage. -/
def State.walkVs (s : State) (c : WalkCtx) (r : Rights) (va : Nat) : Nat → Nat → (WFault ⊕ Leaf) × State
  | 0, _ => (.inl ⟨c.fault, 0, 0, none⟩, s)
  | level + 1, base =>
    match s.cachedPtr c level va with
    | some n => s.walkVs c r va level (n * 4096)
    | none =>
      let ga := base + 8 * bitsOf va (12 + 9 * level) 9
      let q := s.gStage c .load ga
      match q.1 with
      | .inl f => (.inl (recast c.want false f), q.2)
      | .inr l =>
        let a := l.at ga
        let q := q.2.readEntry c level a ga
        match q.1 with
        | .inl f => (.inl f, q.2)
        | .inr e =>
          match q.2.entryKind c level e with
          | some false => withPtrs (s.ptrOf c level va e :: l.ptrs) (q.2.walkVs c r va level (bitsOf e 10 44 * 4096))
          | some true =>
            let writes := e.testBit 6 == false || (c.want == .store && e.testBit 7 == false)
            let g := if writes ∧ q.2.stageEnv c 61 then q.2.gStage c .store ga else (.inr l, q.2)
            match g.1 with
            | .inl f => (.inl (recast c.want true f), g.2)
            | .inr _ => withPtrs l.ptrs (g.2.atLeaf c r level a e 0)
          | none =>
            if e % 2 = 0 then
              let g := if q.2.isTemplate c level e then q.2.gStage c .store ga else (.inr l, q.2)
              match g.1 with
              | .inl f => (.inl (recast c.want true f), g.2)
              | .inr _ => withPtrs l.ptrs (g.2.atInvalid c r level a e 0)
            else (.inl ⟨c.fault, 0, 0, none⟩, q.2)

/-! ### Translation -/

/-- The privilege and virtualisation that an access of a hart is made with: MPRV takes them from mstatus for data, in debug
mode where dcsr.mprven says so. -/
def State.accPriv (s : State) (h : Nat) (w : Want) : Nat × Bool :=
  let x := s.hart h
  let st := s.csr h csrMstatus
  if x.priv = 3 ∧ w ≠ .fetch ∧ wbits st 17 1 = 1 ∧ (x.halted = false ∨ (s.csr h 0x7B0).toNat.testBit 4) then (wbits st 11 2, wbits st 39 1 = 1 && wbits st 11 2 != 3)
  else (x.priv, x.virt)

/-- Whether an address is canonical for `n` levels. -/
def canonical (n va : Nat) : Bool :=
  let top := va / 2 ^ (11 + 9 * n)
  top == 0 || top == 2 ^ (53 - 9 * n) - 1

/-- What a translation gives: the physical address and the memory type. -/
structure Phys where
  pa : Nat
  pbmt : Nat
deriving DecidableEq, Repr

/-- Whether a cached translation serves an access (R200, R205, R317): same address space, its world, and D set for a store in the leaves of
both stages. -/
def TlbEntry.serves (e : TlbEntry) (h va asid vmid : Nat) (virt secure : Bool) (w : Want) : Bool :=
  e.hart == h && e.vbase == va / 2 ^ e.log2 * 2 ^ e.log2 && e.virt == virt && (e.global || e.asid == asid) &&
    (!virt || e.vmid == vmid) && e.world == secure && (w != .store || (e.perms.testBit 7 && (!e.g || e.gperms.testBit 7)))

/-- The first-level cache of an access (R200). -/
def Want.tlb (w : Want) : TlbCache := if w = .fetch then .itlb else .dtlb

/-- R200: the set of the L2 TLB that an entry falls in: the low bits of its page number at its own size (log 22). -/
def TlbEntry.l2Set (e : TlbEntry) : Nat := e.vbase / 2 ^ e.log2 % 256

/-- Whether two entries take room from each other: in one fully associative cache of a hart, or in one set of its L2 TLB. -/
def TlbEntry.rivals (e x : TlbEntry) : Bool := e.hart == x.hart && e.cache == x.cache && (e.cache != .l2 || e.l2Set == x.l2Set)

/-- R200: the room of a translation cache, or of a set of the L2 TLB. -/
def TlbCache.room : TlbCache → Nat
  | .itlb => 32
  | .dtlb => 48
  | .l2 => 8

/-- Whether two entries translate the same page of the same space in the same cache. -/
def TlbEntry.samePage (e x : TlbEntry) : Bool :=
  e.hart == x.hart && e.cache == x.cache && e.vbase == x.vbase && e.log2 == x.log2 && e.asid == x.asid && e.vmid == x.vmid &&
    e.virt == x.virt && e.world == x.world

/-- Adds a translation to a cache, in place of one of the same page; the oldest goes first where there is no room (log 22). -/
def State.addTlb (s : State) (e : TlbEntry) (k : TlbCache) : State :=
  let e := { e with cache := k }
  let old := s.fab.tlb.filter (fun x => !(e.samePage x))
  let mine := old.filter e.rivals
  let all := if mine.length < k.room then old else mine.head?.elim old (fun x => old.erase x)
  { s with fab := { s.fab with tlb := all ++ [e] } }

/-- The root registers and rights of an access: the address space, its levels and root, and the rights of the mode. -/
def State.spaceOf (s : State) (h : Nat) (priv : Nat) (virt : Bool) : Word × Rights :=
  let st := s.csr h csrMstatus
  if virt then
    let v := s.csr h csrVsstatus
    (s.csr h 0x280, ⟨priv == 0, wbits v 18 1 == 1, wbits v 19 1 == 1 || wbits st 19 1 == 1⟩)
  else (s.csr h 0x180, ⟨priv == 0, wbits st 18 1 == 1, wbits st 19 1 == 1⟩)

/-- One pass of a walk from the root: the translation and its cache entry, where there is one. -/
def State.walkPass (s : State) (h va : Nat) (w : Want) (dry : Bool) : (WFault ⊕ (Phys × Option (TlbEntry × List Ptr))) × State :=
  let m := s.accPriv h w
  let sec := s.hartSecure h
  let sp := s.spaceOf h m.1 m.2
  let n := modeLevels (wbits sp.1 60 4)
  let vmid := wbits (s.csr h 0x680) 44 14
  let c : WalkCtx := ⟨h, w, sec, if m.2 then 1 else 0, dry⟩
  let q : (WFault ⊕ Leaf) × State :=
    if n = 0 then (.inr Leaf.same, s)
    else if m.2 then s.walkVs c sp.2 va n (wbits sp.1 0 44 * 4096)
    else s.walkFlat c sp.2 va 0 n 9 (wbits sp.1 0 44 * 4096)
  match q.1 with
  | .inl f => (.inl f, q.2)
  | .inr l =>
    let ga := if n = 0 then va else l.at va
    let g := if m.2 then q.2.gStage c w ga else (.inr Leaf.same, q.2)
    match g.1 with
    | .inl f => (.inl f, g.2)
    | .inr gl =>
      let log2 := min l.log2 gl.log2
      let pa := if gl.log2 = 64 then ga else gl.at ga
      let mt := if l.pbmt ≠ 0 then l.pbmt else gl.pbmt
      let e : TlbEntry :=
        { hart := h, vbase := va / 2 ^ log2 * 2 ^ log2, log2 := log2, asid := wbits sp.1 44 16, vmid := vmid, virt := m.2,
          global := l.perms.testBit 5, pbase := pa / 2 ^ log2 * 2 ^ log2, perms := if n = 0 then 0x1FF else l.perms, gperms := gl.perms,
          pbmt := mt, world := sec, gpage := ga / 2 ^ log2 * 2 ^ log2, g := gl.log2 != 64, vlog2 := l.log2, glog2 := gl.log2 }
      (.inr (⟨pa, mt⟩, if log2 = 64 then none else some (e, l.ptrs ++ gl.ptrs)), g.2)

/-- A walk from the root (R199 to R213): tried first, so that an exception leaves every entry and cache as it was (R204), then made; what
it finds enters the hart's translation caches. A walk that ends counts as one miss of the L2 TLB (R417). -/
def State.walkBy (s : State) (h va : Nat) (w : Want) : (WFault ⊕ Phys) × State :=
  let m := s.accPriv h w
  let n := modeLevels (wbits (s.spaceOf h m.1 m.2).1 60 4)
  if m.1 = 3 ∨ (n = 0 ∧ m.2 = false) then (.inr ⟨va, 0⟩, s)
  else if n ≠ 0 ∧ canonical n va = false then (.inl ⟨w.page, 0, 0, none⟩, s)
  else
    let missed := fun (s : State) => s.count (coreBank h) { code := 5, world := some (s.hartSecure h) }
    let fails := fun (f : WFault) (s : State) => (((.inl f, if f.need.isSome then s else missed s)) : (WFault ⊕ Phys) × State)
    let d := s.walkPass h va w true
    match d.1 with
    | .inl f => fails f d.2
    | .inr _ =>
      let q := s.walkPass h va w false
      match q.1 with
      | .inl f => fails f q.2
      | .inr (p, none) => (.inr p, missed q.2)
      | .inr (p, some (e, ps)) => (.inr p, ((ps.foldl State.addPtr (missed q.2)).addTlb e w.tlb).addTlb e .l2)

/-- Translates an access: by a cached translation that serves it, which the first-level cache then holds, else by a walk. -/
def State.translateBy (s : State) (h va : Nat) (w : Want) : (WFault ⊕ Phys) × State :=
  let m := s.accPriv h w
  let sp := s.spaceOf h m.1 m.2
  let n := modeLevels (wbits sp.1 60 4)
  let ok := fun (k : TlbCache) (e : TlbEntry) =>
    e.cache == k && e.serves h va (wbits sp.1 44 16) (wbits (s.csr h 0x680) 44 14) m.2 (s.hartSecure h) w
  let use := fun (e : TlbEntry) (s : State) =>
    let a := va % 2 ^ e.log2
    if e.perms < 0x100 ∧ leafPermits e.perms w sp.2.user sp.2.sum sp.2.mxr = false then ((.inl ⟨w.page, 0, 0, none⟩, s) : (WFault ⊕ Phys) × State)
    else if e.g ∧ leafPermits e.gperms w true false ((s.csr h csrMstatus).toNat.testBit 19) = false then
      (.inl ⟨w.guest, e.gpage + a, 0, none⟩, s)
    else (.inr ⟨e.pbase + a, e.pbmt⟩, s)
  if m.1 = 3 ∨ (n = 0 ∧ m.2 = false) then (.inr ⟨va, 0⟩, s)
  else
    match s.fab.tlb.find? (ok w.tlb), s.fab.tlb.find? (ok .l2) with
    | some e, _ => use e s
    | none, some e => use e (s.addTlb e w.tlb)
    | none, none => s.walkBy h va w

/-- Pointer masking of a data access (R170; Supm and Ssnpm of RVA23): the high bits of the address are replaced (log 14). -/
def State.maskedAddr (s : State) (h : Nat) (va : Nat) : Nat :=
  let m := s.accPriv h .load
  let pmm := if m.1 = 0 then wbits (s.csr h 0x10A) 32 2 else if m.2 then wbits (s.csr h 0x60A) 32 2 else 0
  let mxr := (s.csr h csrMstatus).toNat.testBit 19
  let w := 64 - (if pmm = 2 then 7 else if pmm = 3 then 16 else 0)
  if w = 64 ∨ mxr then va
  else
    let low := va % 2 ^ w
    if wbits (s.spaceOf h m.1 m.2).1 60 4 = 0 ∨ low.testBit (w - 1) = false then low else low + (2 ^ 64 - 2 ^ w)

/-- The exception of a walk's fault at a virtual address (R202, R203): htval or mtval2 holds the guest-physical address shifted
right by 2, htinst or mtinst the pseudoinstruction. -/
def State.walkTrap (s : State) (h : Nat) (va : Nat) (f : WFault) : State :=
  s.except h f.cause (BitVec.ofNat 64 va) (BitVec.ofNat 64 (f.gpa / 4)) (BitVec.ofNat 64 f.tinst)

end Sys2Proof.Machine
end

