-- ==== Sys2Proof/Machine/AccessOps.lean ====
section
/-! DEFINITION. The accesses of cores (R25 to R31, R170, R179 to R182, R216, R255, R263, R264, R317, R318): their parts, the block caches they
go through, the requests they send, and their ends. -/

namespace Sys2Proof.Machine

/-! ### Kinds -/

/-- Whether an access needs write ownership of a cached line (R255). -/
def AccKind.owns : AccKind → Bool
  | .store | .amo _ | .sc | .cboZero | .tnext => true
  | _ => false

/-- Whether an access only stores, or moves nothing to its core: it goes on where its target discards what it stores (R266). -/
def AccKind.writes : AccKind → Bool
  | .store | .cboZero | .tnext | .cboClean | .cboFlush | .cboInval => true
  | _ => false

/-- Whether an access is a management operation of a cache block that moves no data to or from the core. -/
def AccKind.manages : AccKind → Bool
  | .cboClean | .cboFlush | .cboInval => true
  | _ => false

/-- Whether an access is atomic: an AMO, an LR or an SC. -/
def AccKind.atomic : AccKind → Bool
  | .amo _ | .lr | .sc => true
  | _ => false

/-- The cause of an access that reads poison (R182). -/
def AccKind.poisonCause : AccKind → Nat
  | .fetch => 1
  | .amo _ => 7
  | _ => 5

/-- An access as it is made: an operation on a cache block covers its 64 bytes. -/
def Access.block (a : Access) : Access :=
  match a.kind with
  | .cboZero | .cboClean | .cboFlush | .cboInval => { a with vaddr := a.vaddr &&& ~~~ (63 : Word), size := 64 }
  | _ => a

/-- Whether an access is aligned: to its size, or to the size of its elements for a vector access. -/
def Access.aligned (a : Access) : Bool := a.vaddr.toNat % (if a.dst = .v then a.esize else a.size) == 0

/-- The bytes that an access stores. -/
def Access.stores (a : Access) : List Byte :=
  match a.kind with
  | .cboZero => leBytes 64 0
  | _ => a.data

/-! ### Ends -/

/-- A hart's waiting access. -/
def State.setMiss (s : State) (h : Nat) (m : Miss) : State := { s with fab := { s.fab with misses := nput s.fab.misses h m } }

/-- A hart waits for no access. -/
def State.dropMiss (s : State) (h : Nat) : State := { s with fab := { s.fab with misses := dropKey h s.fab.misses } }

/-- An access ends with an exception at a virtual address. -/
def State.accessTrap (s : State) (h cause va : Nat) : State := (s.dropMiss h).except h cause (BitVec.ofNat 64 va)

/-- A value of `n` bytes extended with its sign to 64 bits. -/
def signExtend (n v : Nat) : Nat := if 8 * n < 64 ∧ v.testBit (8 * n - 1) then v + (2 ^ 64 - 2 ^ (8 * n)) else v

/-- What a load writes: an integer register, a floating-point register, where narrower values are boxed, or the bytes of vector registers
(R170; the conventions are those of RVA23, log 14). -/
def State.writeDst (s : State) (h : Nat) (a : Access) (bytes : List Byte) : State :=
  let v := leNat bytes
  match a.dst with
  | .x => s.setX h a.rd (BitVec.ofNat 64 (if a.signed ∨ a.kind.atomic then signExtend a.size v else v))
  | .f =>
    let x : Word := BitVec.ofNat 64 (if a.size < 8 then v + (2 ^ 64 - 2 ^ (8 * a.size)) else v)
    { s with fregs := if x = 0 then dropKey (h, a.rd) s.fregs else putBy pairLt (h, a.rd) x s.fregs }.dirtyUnit h 1
  | .v =>
    let put := fun (s : State) (r : Nat) (bs : List Byte) =>
      let old : BitVec 256 := (lookupKey (h, r) s.vregs).getD 0
      let x : BitVec 256 := BitVec.ofNat 256 (leNat (splice (leBytes 32 old.toNat) 0 bs))
      ({ s with vregs := if x = 0 then dropKey (h, r) s.vregs else putBy pairLt (h, r) x s.vregs } : State)
    let s := put s (a.rd % 32) (bytes.take 32)
    (if 32 < bytes.length then put s ((a.rd + 1) % 32) (bytes.drop 32) else s).dirtyUnit h 8

/-- R154: the descriptor of the op that a TNEXT was offered stands in its buffer, and the op is granted; the wait goes on where it can be
granted no more. -/
def State.granted (s : State) (h : Nat) : State :=
  let s := s.fireGuards
  match (s.run h).tnext, (s.run h).offer.bind s.op with
  | some q, some o =>
    if s.mayHold h ∧ o.state = .queued ∧ o.due then ((s.grantOp h o).setX h q.1 (opWord o)).nextPc h 4
    else s.setRun h { s.run h with offer := none }
  | _, _ => s.setRun h { s.run h with offer := none }

/-- R162: the body of a JCOMMIT has been read: its record enters the store, where it still may. -/
def State.bodyRead (s : State) (h rd : Nat) (body : List Byte) : State :=
  match s.mayCommit h body.length with
  | some o => s.commit h rd o body
  | none => s.retire h rd 0

/-- An access ends: its register is written and the hart goes on. -/
def State.finishAccess (s : State) (h : Nat) (a : Access) (bytes : List Byte) : State :=
  let s := s.dropMiss h
  match a.kind with
  | .fetch => s
  | .load => (s.writeDst h a bytes).nextPc h a.ilen
  | .lr => (s.writeDst h a bytes).nextPc h a.ilen
  | .amo _ => (s.writeDst h a bytes).nextPc h a.ilen
  | .sc => ((s.setHart h { s.hart h with resv := none }).setX h a.rd 0).nextPc h a.ilen
  | .tnext => s.granted h
  | .jbody => s.bodyRead h a.rd bytes
  | _ => s.nextPc h a.ilen

/-- An SC that fails writes 1 and loses the reservation. -/
def State.failSc (s : State) (h : Nat) (a : Access) : State :=
  let s := s.dropMiss h
  ((s.setHart h { s.hart h with resv := none }).setX h a.rd 1).nextPc h a.ilen

/-! ### Requests -/

/-- R190: a core has a request at its block cache in this frame. -/
def State.askBlock (s : State) (h : Nat) : State :=
  if s.fab.asked.contains h then s else { s with fab := { s.fab with asked := s.fab.asked ++ [h] } }

/-- R110: a request that leaves while the core's tag override is ignored is counted. -/
def State.countOverride (s : State) (h : Nat) : State :=
  if s.is BTAG.TAG_VALID h ∧ s.btagOk h (s.fld BTAG.TAG h) = false then
    s.count (coreBank h) { code := 0x0A, world := some (s.hartSecure h), tag := some (s.hartTraffic h).1 }
  else s

/-- R109 and R110: a core sends a request and waits. Accesses to Device ranges and remote windows have standing 0 (R124). -/
def State.issue (s : State) (h : Nat) (a : Access) (got : List Byte) (pa pbmt op dest operand : Nat) (data : List Byte) : State :=
  let n := nget s.fab.nextTxn (h / 4) 0
  let t := s.hartTraffic h
  let p : Pkt := { cls := 3, op := op, txn := n, dest := dest, src := coreCode h, line := pa / 64, tag := t.1, urgency := t.2,
                   standing := t.1 != 0 && (slotAt pa).isSome, world := s.hartSecure h, operand := operand, data := data }
  let s := s.countOverride h
  let s := if op ≤ 10 ∧ op ≠ 3 then
      s.count (coreBank h) { code := 0x0B, world := some p.world, tag := some p.tag, addr := some pa }
    else s
  let s : State := { s with fab := { s.fab with nextTxn := nput s.fab.nextTxn (h / 4) ((n + 1) % 2 ^ 15) } }
  ((s.askBlock h).setMiss h ⟨a, pa, pbmt, op, n, pa / 64, none, none, got⟩).sendFrom (coreCode h) p

/-- The events of a block cache (R417). -/
def State.countBlock (s : State) (h code line : Nat) : State :=
  s.count (blockBank (h / 24) (h % 24 / 4)) { code := code, world := some (s.hartSecure h), tag := some (s.hartTraffic h).1,
                                              master := some (coreCode h), addr := some (64 * line) }

/-- R264: a block gives up a line for a core's request: a dirty line waits in the writeback buffer until its GRANT, with an EVICT_DIRTY
sent, which carries the tag and the urgency `t` of the request that caused it (R109); a clean one is dropped. A dirty line that no home can
be reached for is dropped (R308). -/
def State.evictTo (s : State) (h : Nat) (t : Nat × Nat) (line : Nat) (x : CLine) : State :=
  if !x.dirty then s.dropLine (h / 4) line
  else
    match s.lineHome line with
    | none => s.dropLine (h / 4) line
    | some d =>
      let s := s.countBlock h 0x103 line
      let s := (s.putLine (h / 4) line { x with wb := true, way := 16, l1 := 0, fill := none }).loseReservations (h / 4) line
      let n := nget s.fab.nextTxn (h / 4) 0
      let s : State := { s with fab := { s.fab with nextTxn := nput s.fab.nextTxn (h / 4) ((n + 1) % 2 ^ 15) } }
      s.sendFrom (coreCode h) { cls := 3, op := 4, txn := n, dest := sliceCode d, src := coreCode h, line := line, tag := t.1,
                                urgency := t.2, standing := t.1 != 0 && (slotAt (64 * line)).isSome, world := x.world,
                                poison := x.poison, data := x.data }

/-- Whether a core must wait before its block can ask for a line: another request of the block for it is open, or its writeback is. -/
def State.lineBusy (s : State) (h line : Nat) : Bool :=
  s.fab.misses.any (fun q => q.1 != h && q.1 / 4 == h / 4 && q.2.line == line && q.2.op != 0) ||
    s.fab.walks.any (fun w => w.hart / 4 == h / 4 && w.need.addr / 64 == line && w.op != 0) ||
    (match s.held (h / 4) line with
      | some x => x.wb
      | none => false)

/-- An access waits until its block can ask for its line. -/
def State.waitLine (s : State) (h : Nat) (a : Access) (got : List Byte) (pa pbmt : Nat) : State :=
  (s.askBlock h).setMiss h ⟨a, pa, pbmt, 0, 0, pa / 64, none, none, got⟩

/-! ### The walker's requests (R199) -/

/-- The walk of the same hart and page as another, whose stage it shares. -/
def State.walkOver (s : State) (w : Walk) : Option Walk :=
  s.fab.walks.find? (fun x => x.hart == w.hart && x.va / 4096 == w.va / 4096)

/-- Replaces a walk in flight. -/
def State.setWalk (s : State) (w : Walk) (w' : Option Walk) : State :=
  { s with fab := { s.fab with walks := s.fab.walks.filterMap (fun x => if x = w then w' else some x) } }

/-- R266, R292 and R308: the reason of ERR that the route gives at the source's stop for a line that no home can be reached for: 4 for a
package that is no member any more, else 1. -/
def State.routeErr (s : State) (line : Nat) : Nat :=
  match lineWindow line with
  | some w => if s.is CST_STATUS.MEMBER 0 ∧ s.isMember w = false then 4 else 1
  | none => 1

/-- R202, R203: a walk that cannot read its entry ends: the access that waits for it traps, or, for the walker's own where the hart waits
for no access, the hart does. -/
def State.failWalk (s : State) (w : Walk) (cause kind : Nat) : State :=
  let s := w.need.frame.elim s (fun q => s.returnFrame q.1 q.2)
  let s := s.setWalk w none
  let s := if cause = 24 then s.walkError w.hart kind w.need.stage w.need.level w.need.addr else s
  let waits := (lookupKey w.hart s.fab.misses).isSome
  if w.own ∧ waits then s
  else
    (s.dropMiss w.hart).walkTrap w.hart w.va
      (if cause = 24 then ⟨24, w.need.gpa, w.need.tinst, none⟩ else ⟨cause, 0, 0, none⟩)

/-- A walk asks its block cache for the line it needs: a shared copy to read, ownership to swap. It waits while another request of the
block for the line is open; one whose line no home can be reached for ends as ERR has it (R202, R292, R294). -/
def State.issueWalk (s : State) (w : Walk) : State :=
  let line := w.need.addr / 64
  if s.lineBusy w.hart line then s
  else
    match s.lineHome line with
    | none =>
      (s.note41 (coreColl w.hart).unit (64 * line)).failWalk w 24 (if s.routeErr line = 4 then 5 else 1)
    | some d =>
      let n := nget s.fab.nextTxn (w.hart / 4) 0
      let t := s.hartTraffic w.hart
      let op := if w.need.own then 2 else 1
      let s := ((s.countOverride w.hart).askBlock w.hart).setWalk w (some { w with op := op, txn := n, granted := none, filled := none })
      let s := s.count (blockBank (w.hart / 24) (w.hart % 24 / 4))
        { code := 0x102, world := some (s.hartSecure w.hart), tag := some t.1, master := some (coreCode w.hart), addr := some (64 * line) }
      let s : State := { s with fab := { s.fab with nextTxn := nput s.fab.nextTxn (w.hart / 4) ((n + 1) % 2 ^ 15) } }
      s.sendFrom (coreCode w.hart)
        { cls := 3, op := op, txn := n, dest := sliceCode d, src := coreCode w.hart, line := line, tag := t.1, urgency := t.2,
          standing := t.1 != 0 && (slotAt w.need.addr).isSome, world := s.hartSecure w.hart }

/-- R199: a walk is merged with one of the same page that is in flight; a core has at most two in flight. -/
def State.askWalk (s : State) (w : Walk) : State :=
  if (s.walkOver w).isSome ∨ 2 ≤ (s.fab.walks.filter (fun x => x.hart == w.hart)).length then
    (w.need.frame.elim s (fun q => s.returnFrame q.1 q.2))
  else ({ s with fab := { s.fab with walks := s.fab.walks ++ [w] } }).issueWalk w

/-- R205, steps 3 and 4, and R212, steps 3 and 4: the block owns the line of the entry: it is swapped if it is as it was read; else the walk
is abandoned, and a frame taken for it goes back. -/
def State.swapNow (s : State) (w : Walk) : State :=
  match w.need.swap, s.held (w.hart / 4) (w.need.addr / 64) with
  | some (e, e'), some x =>
    if leNat ((x.data.drop (w.need.addr % 64)).take 8) = e ∧ x.poison = false then
      let s := s.putEntry w.hart w.need.addr e' x
      if w.need.frame.isSome then s.firstTouched w.hart (s.hartSecure w.hart) else s
    else
      let s := w.need.frame.elim s (fun q => s.returnFrame q.1 q.2)
      (s.count (coreBank w.hart) { code := 6, world := some (s.hartSecure w.hart) }).bump CORE_WALK_STAT.ABANDONS w.hart
  | _, _ => s

/-- TABLE_WALK (R199 to R213): the walker's own walk for an access of its hart; its exception is the hart's unless an access of the hart is in
progress. -/
def State.ownWalk (s : State) (h va : Nat) (w : Want) : State :=
  if s.fab.walks.any (fun x => x.hart == h && x.va / 4096 == va / 4096) then s
  else
    let q := s.walkBy h va w
    match q.1 with
    | .inr _ => q.2
    | .inl f =>
      match f.need with
      | some nd => q.2.askWalk ⟨h, va, w, true, nd, 0, 0, none, none⟩
      | none => if (lookupKey h s.fab.misses).isSome then s else q.2.walkTrap h va f

/-! ### The block cache -/

/-- R179 and R255: a filled line takes an empty enabled way of its set, or that of the least recently used line, which is given up for the
request whose tag and urgency are `t`. A set whose ways are all disabled keeps the line in none. -/
def State.install (s : State) (h : Nat) (t : Nat × Nat) (line : Nat) (st : Moesi) (data : List Byte) (poison world : Bool) : State :=
  let bb := h / 4
  match s.held bb line with
  | some x => s.putLine bb line { x with st := st, data := data, poison := poison, world := world, fill := some s.stb }
  | none =>
    let k := blockSet line
    let off := s.waysOff bb k
    let used := (s.blockLines bb).filter (fun q => blockSet q.1 == k)
    let isIn := fun (w : Nat) => used.find? (fun q => q.2.way == w)
    let free := (List.range 16).find? (fun w => !(off.testBit w) && (isIn w).isNone)
    let way := match free with
      | some w => w
      | none => (plruVictim 4 (fun w => decide (w < 16) && !(off.testBit w)) ((lookupKey (bb, k) s.fab.plru).getD 0)).getD 16
    let s := match isIn way with
      | some q => if way < 16 then s.evictTo h t q.1 q.2 else s
      | none => s
    (s.putLine bb line ⟨way, st, data, poison, world, 0, some s.stb, false, false⟩).touchBlock bb line way

/-- The reservations of a block's other harts on a line that one of them writes. -/
def State.loseOthers (s : State) (h line : Nat) : State :=
  { s with harts := s.harts.map (fun (q : Nat × Hart) =>
      if q.1 / 4 = h / 4 ∧ q.1 ≠ h ∧ q.2.resv = some line then (q.1, { q.2 with resv := none }) else q) }

/-- R180 and R255: an access is performed on a line its block holds; none where it reads poison. The hold of a line filled for it ends
(R263). -/
def State.perform (s : State) (h : Nat) (a : Access) (got : List Byte) (line off n : Nat) (x : CLine) : Option (List Byte) × State :=
  let b := l1Bit h (a.kind == .fetch)
  let filled := x.fill.isSome
  let x := { x with fill := none }
  let s := s.putLine (h / 4) line x
  let s := if x.l1.testBit b then s
    else
      let s := s.count (coreBank h) { code := if a.kind == .fetch then 3 else 4, world := some (s.hartSecure h), addr := some (64 * line) }
      (if filled then s else (s.askBlock h).countBlock h 0x101 line).touchBlock (h / 4) line x.way
  let s := s.useL1 h (a.kind != .fetch) line
  let l1 := (s.held (h / 4) line).elim x.l1 CLine.l1
  let old := (x.data.drop off).take n
  let wr := fun (d : List Byte) (poison : Bool) =>
    (s.putLine (h / 4) line { x with st := .m, data := splice x.data off d, poison := poison, l1 := l1 &&& 2 ^ (4 + h % 4) }).loseOthers h line
  if a.kind.owns then
    match a.kind with
    | .amo fn =>
      if x.poison then (none, s.accessTrap h 7 a.vaddr.toNat)
      else (some old, wr (leBytes n (atomicOp fn n (leNat old) (leNat a.data))) false)
    | _ => (some old, wr ((a.stores.drop got.length).take n) (x.poison && n != 64))
  else if x.poison then (none, s.accessTrap h a.kind.poisonCause (a.vaddr.toNat + got.length))
  else
    let s := s.putLine (h / 4) line { x with l1 := l1 }
    (some old, if a.kind = .lr then s.setHart h { s.hart h with resv := some line } else s)

/-! ### The parts of an access -/

/-- R266, R292 and R308: a part whose line no home can be reached for: an access fault, or, where the package has been lost, poison for a
load and nothing for a store. -/
def State.refusedPart (s : State) (h : Nat) (a : Access) (va n line : Nat) : Option (List Byte) × State :=
  let t := s.note41 (coreColl h).unit (64 * line)
  if s.routeErr line ≠ 4 then (none, t.accessTrap h a.kind.want.access va)
  else if a.kind = .sc then (none, t.failSc h a)
  else if a.kind.writes then (some (leBytes n 0), t)
  else (none, t.accessTrap h a.kind.poisonCause va)

/-- A part of an access to cacheable Memory (R179, R216, R255). An SC without its reservation asks for a line of another package that the
block does not hold, whose exporter says whether an SC is served there (R298). -/
def State.cachedPart (s : State) (h : Nat) (a : Access) (got : List Byte) (va n pa pbmt : Nat) : Option (List Byte) × State :=
  let line := pa / 64
  let lost := a.kind == .sc && (s.hart h).resv != some line
  let ask := fun (op : Nat) =>
    match s.lineHome line with
    | some d => (none, (s.countBlock h 0x102 line).issue h a got pa pbmt op (sliceCode d) 0 [])
    | none => s.refusedPart h a va n line
  if lost ∧ ((lineWindow line).isNone ∨ (s.held (h / 4) line).isSome) then (none, s.failSc h a)
  else if s.lineBusy h line then (none, s.waitLine h a got pa pbmt)
  else
    match s.held (h / 4) line with
    | some x =>
      if x.world != s.hartSecure h then (none, s.accessTrap h 26 va)
      else if a.kind.owns ∧ x.st ≠ .m ∧ x.st ≠ .e then ask 2
      else s.perform h a got line (pa % 64) n x
    | none => ask (if lost ∨ !a.kind.owns then 1 else if n = 64 then 3 else 2)

/-- Bytes at an offset of a data unit, the others 0 (R249). -/
def unitBytes (off : Nat) (data : List Byte) : List Byte := leBytes off 0 ++ data ++ leBytes (64 - off - data.length) 0

/-- A part of an access that its home performs: PBMT NC or IO, an AMO to a remote window (R298), or an operation on a cache block. The
block first gives up its own copy. CBO.CLEAN is sent as READ_UC, CBO.FLUSH and CBO.INVAL as an ATOMIC that changes nothing (log 23). -/
def State.uncachedPart (s : State) (h : Nat) (a : Access) (got : List Byte) (va n pa pbmt : Nat) : Option (List Byte) × State :=
  let line := pa / 64
  let off := pa % 64
  if s.lineBusy h line then (none, s.waitLine h a got pa pbmt)
  else
    match s.lineHome line with
    | none => s.refusedPart h a va n line
    | some d =>
      let go := fun (s : State) (op operand : Nat) (data : List Byte) => (none, s.issue h a got pa pbmt op (sliceCode d) operand data)
      let send := fun (s : State) =>
        match a.kind with
        | .store => go s 9 (off + 64 * (n - 1)) (unitBytes off ((a.data.drop got.length).take n))
        | .tnext => go s 9 (off + 64 * (n - 1)) (unitBytes off ((a.data.drop got.length).take n))
        | .cboZero => go s 9 (64 * 63) (leBytes 64 0)
        | .amo fn => go s 10 (off + 64 * (if n = 8 then 3 else 2) + 256 * fn) (unitBytes off (a.data.take n))
        | .cboFlush => go s 10 (64 * 2 + 256 * 4) (leBytes 64 0)
        | .cboInval => go s 10 (64 * 2 + 256 * 4) (leBytes 64 0)
        | _ => go s 8 0 []
      match s.held (h / 4) line with
      | some x =>
        if x.world != s.hartSecure h then (none, s.accessTrap h 26 va)
        else if x.dirty then (none, (s.evictTo h (s.hartTraffic h) line x).waitLine h a got pa pbmt)
        else send (s.dropLine (h / 4) line)
      | none => send s

/-- A part of an access to Memory: the limits of R216 and R298, and how it is served. -/
def State.memoryPart (s : State) (h : Nat) (a : Access) (got : List Byte) (va n pa pbmt : Nat) (remote : Option Nat) : Option (List Byte) × State :=
  let far : Bool := match remote with
    | some w => !(s.inGroup w)
    | none => false
  let reserved := a.kind == .lr || a.kind == .sc
  if (a.kind.atomic ∧ pbmt = 2) ∨ (reserved = true ∧ (pbmt ≠ 0 ∨ far = true)) ∨ (pbmt = 2 ∧ a.aligned = false) then
    (none, s.accessTrap h a.kind.want.access va)
  else if pbmt ≠ 0 ∨ a.kind.manages ∨ (remote.isSome ∧ a.kind.atomic ∧ reserved = false) then s.uncachedPart h a got va n pa pbmt
  else s.cachedPart h a got va n pa pbmt

/-- R246: the unit that a register access goes to; level registers stand at the brick controller, the spine stop of a quadrant, and C.0
(log 11). None where no level lies there. -/
def regUnit (pa : Nat) : Option Nat :=
  let o := pa - 0xFFF0000000000
  let l := o / 2 ^ 32
  let x := o % 2 ^ 32
  let slot := if x < 0x80000000 then x / 0x4000000 else (x - 0x80000000) / 0x10000
  let cell := if x < 0x80000000 then x % 0x4000000 / 0x100000 else x % 0x10000 / 0x400
  let r := if l = 0 then 16 else l - 1
  if 16 < l then none
  else if slot < 8 then
    some (unitCode r (if r = 16 then (4 + slot) % 12 else slot) (if (12 ≤ r ∧ r < 16 ∧ slot < 3) ∨ 8 ≤ cell then 0 else cell))
  else some (unitCode r (if r < 12 then 10 else if r < 16 then 11 else 4) 0)

/-- R34: the unit that answers an access to the registers of a level: the keeper for a brick that is not up. -/
def State.regDest (s : State) (pa : Nat) : Option Nat :=
  (regUnit pa).map (fun u => if unitRegion u < 12 ∧ s.brickUp (unitRegion u) = false then unitCode 16 4 0 else u)

/-- A part of an access to a Device range (R31, R216): one request, at its target. -/
def State.devicePart (s : State) (h : Nat) (a : Access) (got : List Byte) (va n pa : Nat) : Option (List Byte) × State :=
  let dest := match addrKind pa with
    | .regs => s.regDest pa
    | .port p => some (unitCode (12 + p / 2) 5 (p % 2))
    | _ => none
  let fits := match addrKind pa with
    | .regs => (n == 4 || n == 8) && pa % n == 0
    | _ => ([1, 2, 4, 8].contains n && pa % n == 0) || (n == 64 && pa % 64 == 0)
  let whole := got.isEmpty && n == a.size
  let refused := if dest.isNone then s.holeNote (coreColl h).unit pa else if addrKind pa = .regs then s.note41 (regPlaceUnit pa) pa else s
  match a.kind, dest with
  | .load, some d =>
    if fits && whole then (none, s.issue h a got pa 3 0x18 d (pa % 64 + 64 * (n - 1)) []) else (none, refused.accessTrap h 5 va)
  | .store, some d =>
    if fits && whole then (none, s.issue h a got pa 3 0x19 d (pa % 64 + 64 * (n - 1)) (unitBytes (pa % 64) a.data))
    else (none, refused.accessTrap h 7 va)
  | k, _ =>
    if k.manages then (some (leBytes n 0), s)
    else if k == .fetch && dest.isSome then (none, s.accessTrap h k.want.access va)
    else (none, refused.accessTrap h k.want.access va)

/-- The translation of an access; a management operation of a cache block needs what a load or what a store needs. -/
def State.translateAcc (s : State) (h va : Nat) (k : AccKind) : (WFault ⊕ Phys) × State :=
  if k.manages then
    let q := s.translateBy h va .load
    match q.1 with
    | .inr p => (.inr p, q.2)
    | .inl f => if f.need.isSome then q else q.2.translateBy h va .store
  else s.translateBy h va k.want

/-- The next part of an access: the bytes up to the end of the line. Answers its bytes where it is performed at once. -/
def State.startPart (s : State) (h : Nat) (a : Access) (got : List Byte) : Option (List Byte) × State :=
  let va := (a.vaddr.toNat + got.length) % 2 ^ 64
  let n := min (a.size - got.length) (64 - va % 64)
  let w := a.kind.want
  let q := s.translateAcc h va a.kind
  match q.1 with
  | .inl f =>
    match f.need with
    | some nd => (none, (q.2.setMiss h ⟨a, 0, 0, 0, 0, 2 ^ 52, none, none, got⟩).askWalk ⟨h, va, w, false, nd, 0, 0, none, none⟩)
    | none => (none, (q.2.dropMiss h).walkTrap h va f)
  | .inr p =>
    let s := q.2
    let priv := (s.accPriv h w).1
    let pmp := s.pmpOk h p.pa n w priv || (a.kind.manages && s.pmpOk h p.pa n .load priv)
    if !pmp then (none, s.accessTrap h w.access va)
    else
      match addrKind p.pa with
      | .hole => (none, (s.holeNote (coreColl h).unit p.pa).accessTrap h w.access va)
      | .local_ =>
        if (slotAt p.pa).isNone then (none, (s.holeNote (coreColl h).unit p.pa).accessTrap h w.access va) else s.memoryPart h a got va n p.pa p.pbmt none
      | .window x =>
        if x = s.fld CST_STATUS.NUMBER 0 ∨ s.is CST_STATUS.MEMBER 0 = false then
          (none, (s.holeNote (coreColl h).unit p.pa).accessTrap h w.access va)
        else s.memoryPart h a got va n p.pa p.pbmt (some x)
      | _ => s.devicePart h a got va n p.pa

/-- More than the lines that an access can touch. -/
def accessParts : Nat := 20

/-- Performs what it can of an access, and ends it when all its bytes are done. -/
def State.runAccess (s : State) (h : Nat) (a : Access) : Nat → List Byte → State
  | 0, _ => s
  | k + 1, got =>
    if a.size ≤ got.length then s.finishAccess h a got
    else
      match (s.dropMiss h).startPart h a got with
      | (some bytes, t) => t.runAccess h a k (got ++ bytes)
      | (none, t) => t

/-- An access goes on with the bytes of the parts already done. -/
def State.goOn (s : State) (h : Nat) (m : Miss) : State := s.runAccess h m.acc accessParts m.got

/-! ### The arbiters of cores and banks (R20, R189) -/

/-- The place of the turn of a block cache's bank, selected by address bits 8:6 (R179). -/
def bankKey (bb line : Nat) : Nat := 8000 + 8 * bb + line % 8

/-- The place of the turn of a core's request arbiter (R189). -/
def coreKey (h : Nat) : Nat := 9000 + h

/-- A request that waits at the arbiter of its core: the source (0 instruction fetch, 1 load and store unit, 2 table walker, 3 vector
unit), the line, and the walk where it is one. -/
structure CoreReq where
  source : Nat
  line : Nat
  walk : Option Walk

/-- The source of an access. -/
def Access.source (a : Access) : Nat := if a.kind = .fetch then 0 else if a.dst = .v ∧ a.kind ≠ .jbody then 3 else 1

/-- The requests of a core that can be made now. -/
def State.coreReqs (s : State) (h : Nat) : List CoreReq :=
  let walks := s.fab.walks.filter (fun w => w.hart == h && w.op == 0 && !(s.lineBusy h (w.need.addr / 64)))
  let mine := match lookupKey h s.fab.misses with
    | some m =>
      if m.op = 0 ∧ s.lineBusy h m.line = false ∧ (m.line ≠ 2 ^ 52 ∨ (s.fab.walks.any (fun w => w.hart == h && !w.own)) = false) then
        [CoreReq.mk m.acc.source m.line none]
      else []
    | none => []
  mine ++ walks.map (fun w => ⟨2, w.need.addr / 64, some w⟩)

/-- R189: the request that a core's arbiter presents to the block cache: its sources take turns (R21). -/
def State.coreNext (s : State) (h : Nat) : Option CoreReq :=
  firstBy (fun (r : CoreReq) => turnRank (s.turn (coreKey h)) r.source) (s.coreReqs h)

/-- R189: the banks of a block cache: the core whose request is granted next, under R111 and then in turn (R21); a request of a
binary pair is its first core's. -/
def State.bankNext (s : State) (bb : Nat) : Option (Nat × CoreReq) :=
  let ready := (blockCores bb).filterMap (fun h => (s.coreNext h).map (fun r => (h, r)))
  firstBy (fun (q : Nat × CoreReq) =>
    let t := s.hartTraffic q.1
    ((if t.1 ≠ 0 ∧ (slotAt (64 * q.2.line)).isSome then 0 else 1) * 4 + (3 - min t.2 3)) * 8192 + turnRank (s.turn (bankKey bb q.2.line)) (q.1 % 4))
    ready

/-- A request that has been granted is made. -/
def State.makeReq (s : State) (bb h : Nat) (r : CoreReq) : State :=
  let s := (s.setTurn (bankKey bb r.line) (h % 4)).setTurn (coreKey h) r.source
  match r.walk, lookupKey h s.fab.misses with
  | some w, _ => s.issueWalk w
  | none, some m => s.goOn h m
  | none, none => s

/-- The cores of a block that wait for a line try again, one grant of the bank at a time. -/
def State.retryCores (s : State) (bb : Nat) : Nat → State
  | 0 => s
  | n + 1 =>
    match s.bankNext bb with
    | none => s
    | some q => (s.makeReq bb q.1 q.2).retryCores bb n

/-- The walkers and cores of a block that wait for a line try again. -/
def State.retryBlock (s : State) (bb : Nat) : State := s.retryCores bb 16

/-- A walk goes on from the root once its line is there: the access that waits for it is made again. -/
def State.resumeWalk (s : State) (w : Walk) : State :=
  let s := s.setWalk w none
  if w.own then s.ownWalk w.hart w.va w.want
  else
    match lookupKey w.hart s.fab.misses with
    | some m => if m.op = 0 then s.goOn w.hart m else s
    | none => s

/-! ### Answers -/

/-- GRANT_SEEN (R263). -/
def State.grantSeen (s : State) (h : Nat) (p : Pkt) : State :=
  match s.lineHome p.line with
  | some d => s.sendFrom (coreCode h) { p.cause 0 2 (sliceCode d) 0 with src := coreCode h }
  | none => s

/-- The state that a GRANT names (R248). -/
def moesiOf (g : Nat) : Moesi :=
  match g with
  | 4 => .m
  | 3 => .o
  | 2 => .e
  | _ => .s

/-- A part that its target has performed: its bytes, and the rest of the access. -/
def State.partDone (s : State) (h : Nat) (m : Miss) (data : List Byte) : State :=
  let off := m.paddr % 64
  let n := min (m.acc.size - m.got.length) (64 - off)
  s.goOn h { m with got := m.got ++ (data.drop off).take n }

/-- R263: what a core does with the answers it has: a transaction with all of them is finished with GRANT_SEEN, and the access
goes on. DESIGN CHOICE (log 34): a GRANT that says no data follow, for a line that the block no longer holds, is answered with GRANT_SEEN, and
the line asked for again as FETCH_SHARE. -/
def State.answered (s : State) (h : Nat) (m : Miss) (p : Pkt) : State :=
  let s := s.setMiss h m
  match m.op with
  | 8 =>
    match m.filled with
    | some d =>
      let s := s.grantSeen h p
      if d.2 ∧ m.acc.kind.manages = false then s.failAccess h m.acc.kind.poisonCause else s.partDone h m d.1
    | none => s
  | 9 => if m.granted.isSome then s.partDone h m (leBytes 64 0) else s
  | 10 =>
    match m.granted, m.filled with
    | some _, some d => if d.2 ∧ m.acc.kind.manages = false then s.failAccess h 7 else s.partDone h m d.1
    | _, _ => s
  | _ =>
    match m.granted with
    | none => s
    | some g =>
      let bare := g.testBit 3
      if bare = false ∧ m.filled.isNone then s
      else
        let held := s.held (h / 4) m.line
        let s := s.grantSeen h p
        let put := fun (st : Moesi) (d : List Byte × Bool) => (s.install h (p.tag, p.urgency) m.line st d.1 d.2 p.world).goOn h m
        match m.filled, held with
        | some d, _ => if bare then s.goOn h m else put (moesiOf (g % 8)) d
        | none, some x => put (moesiOf (g % 8)) (x.data, x.poison)
        | none, none =>
          if m.op = 3 then put .m (leBytes 64 0, false)
          else
            match s.lineHome m.line with
            | some d => (s.dropMiss h).issue h m.acc m.got m.paddr m.pbmt 1 (sliceCode d) 0 []
            | none => (s.refusedPart h m.acc (m.acc.vaddr.toNat + m.got.length) (min (m.acc.size - m.got.length) (64 - m.paddr % 64)) m.line).2

/-- R199 and R263: what a walk does with the answers to its request: the block takes the line, an entry is swapped, and the walk goes on. -/
def State.walkAnswered (s : State) (w w' : Walk) (p : Pkt) : State :=
  let s := s.setWalk w (some w')
  match w'.granted with
  | none => s
  | some g =>
    let bare := g.testBit 3
    if bare = false ∧ w'.filled.isNone then s
    else
      let h := w'.hart
      let line := w'.need.addr / 64
      let s := s.grantSeen h p
      let st := moesiOf (g % 8)
      match w'.filled, s.held (h / 4) line with
      | some d, _ =>
        if bare then s.resumeWalk w' else ((s.install h (p.tag, p.urgency) line st d.1 d.2 p.world).swapNow w').resumeWalk w'
      | none, some x => ((s.install h (p.tag, p.urgency) line st x.data x.poison p.world).swapNow w').resumeWalk w'
      | none, none => (s.setWalk w' (some { w' with op := 0 })).issueWalk { w' with op := 0 }

/-- The core that a packet is for. -/
def Pkt.core (p : Pkt) : Option Nat := codeCore p.dest

/-- The access of a core that a packet answers. -/
def State.missOf (s : State) (h : Nat) (p : Pkt) : Option Miss :=
  match lookupKey h s.fab.misses with
  | some m => if m.op ≠ 0 ∧ m.txn = p.txn ∧ m.line = p.line then some m else none
  | none => none

/-- The walk that a packet answers. -/
def State.walkOf (s : State) (h : Nat) (p : Pkt) : Option Walk :=
  s.fab.walks.find? (fun w => w.hart == h && w.op != 0 && w.txn == p.txn && w.need.addr / 64 == p.line)

/-- R264: a writeback's GRANT frees its buffer. -/
def State.freeBuffer (s : State) (bb line : Nat) : State :=
  match s.held bb line with
  | some x => if x.wb then s.dropLine bb line else s
  | none => s

/-- GRANT at a core (R263, R264). A grant of a core that waits for none is answered, so that its home goes on. -/
def State.coreGrant (s : State) (h : Nat) (p : Pkt) : State :=
  let s := match s.missOf h p, s.walkOf h p with
    | some m, _ => s.answered h { m with granted := some p.operand, filled := if p.poison then some (leBytes 64 0, true) else m.filled } p
    | none, some w =>
      s.walkAnswered w { w with granted := some p.operand, filled := if p.poison then some (leBytes 64 0, true) else w.filled } p
    | none, none => if p.operand % 8 ≠ 0 then s.grantSeen h p else s.freeBuffer (h / 4) p.line
  s.retryBlock (h / 4)

/-- LINE_DATA or ATOMIC_OLD at a core. -/
def State.coreData (s : State) (h : Nat) (p : Pkt) : State :=
  let s := match s.missOf h p, s.walkOf h p with
    | some m, _ => s.answered h { m with filled := some (p.data, p.poison) } p
    | none, some w => s.walkAnswered w { w with filled := some (p.data, p.poison) } p
    | none, none => if p.op = 1 ∧ p.operand % 8 = 0 then s.grantSeen h p else s
  s.retryBlock (h / 4)

/-- ERR at a core (R28, R266, R318): an access fault, cause 26, or for a retired target poison and a store discarded; of a walk the cause of
R202. -/
def State.coreErr (s : State) (h : Nat) (p : Pkt) : State :=
  let s := match s.missOf h p, s.walkOf h p with
    | none, some w =>
      let r := p.operand % 16
      s.failWalk w (if r = 2 then 26 else 24) (if r = 4 then 5 else if r = 1 then 1 else 2)
    | some m, _ =>
      let k : AccKind := m.acc.kind
      match p.operand % 16 with
      | 2 => s.failAccess h 26
      | 4 =>
        if k == AccKind.sc then s.failSc h m.acc
        else if k.writes then s.partDone h m (leBytes 64 0)
        else s.failAccess h k.poisonCause
      | _ => s.failAccess h k.want.access
    | none, none => s.freeBuffer (h / 4) p.line
  s.retryBlock (h / 4)

/-- DEV_DATA or DEV_ACK at a core (R256): the access is performed. -/
def State.coreDevice (s : State) (h : Nat) (p : Pkt) : State :=
  match s.missOf h p with
  | some m => if p.poison then s.failAccess h m.acc.kind.poisonCause else s.partDone h m (if p.op = 3 then p.data else leBytes 64 0)
  | none => s

/-! ### The row -/

/-- Whether an operation on a cache block is enabled (Zicbom, Zicboz): the cause it raises where it is not. -/
def State.cboCause (s : State) (h : Nat) (k : AccKind) : Option Nat :=
  let x := s.hart h
  let off := fun (e : Nat) => match k with
    | .cboZero => wbits (s.csr h e) 7 1 == 0
    | .cboInval => wbits (s.csr h e) 4 2 == 0
    | _ => wbits (s.csr h e) 6 1 == 0
  if (k.manages = false ∧ k ≠ .cboZero) ∨ x.priv = 3 then none
  else if off 0x30A then some 2
  else if x.virt ∧ off 0x60A then some 22
  else if x.priv = 0 ∧ off 0x10A then (if x.virt then some 22 else some 2)
  else none

/-- Whether the unit that an access loads into or stores from is off. -/
def State.unitOff (s : State) (h : Nat) (a : Access) : Bool :=
  let lo := if a.dst = .f then 13 else 9
  a.dst != .x && (wbits (s.csr h csrMstatus) lo 2 == 0 || ((s.hart h).virt && wbits (s.csr h csrVsstatus) lo 2 == 0))

/-- Whether an access is one that a core can make: its size, and as many bytes as it stores. -/
def Access.legal (a : Access) : Bool :=
  decide (0 < a.size) && decide (a.size ≤ 64) && (a.dst == .v || [1, 2, 4, 8].contains a.size || a.kind.manages || a.kind == .cboZero) &&
    (!a.kind.atomic || a.size == 4 || a.size == 8) && [1, 2, 4, 8].contains a.esize && (a.ilen == 2 || a.ilen == 4) && decide (a.rd < 32) &&
    (match a.kind with
      | .store => a.data.length == a.size
      | .tnext => false
      | .jbody => false
      | .sc => a.data.length == a.size
      | .amo fn => a.data.length == a.size && decide (fn ≤ 8)
      | _ => true)

/-- The bits of an address trigger that select a kind of access. -/
def AccKind.trigBits : AccKind → List Nat
  | .fetch => [2]
  | .load => [0]
  | .lr => [0]
  | .amo _ => [0, 1]
  | _ => [1]

/-- An access of a core begins (R28, R31, R170): an address trigger comes before it; a misaligned atomic raises cause 4 or 6. -/
def State.beginAccess (s : State) (h : Nat) (a : Access) : State :=
  let a := if a.kind = .fetch then a else { a with vaddr := BitVec.ofNat 64 (s.maskedAddr h a.vaddr.toNat) }
  match s.cboCause h a.kind, s.addressTrigger h a.vaddr.toNat a.size a.kind.trigBits with
  | some c, _ => s.free.2.except h c (BitVec.ofNat 64 s.free.1)
  | none, some i => s.fireTrigger h i (bitsOf (s.trig h i 0x7A1) 12 4) a.vaddr
  | none, none =>
    if s.unitOff h a then s.free.2.except h 2 (BitVec.ofNat 64 s.free.1)
    else if a.kind.atomic ∧ a.aligned = false then s.except h (if a.kind = .lr then 4 else 6) a.vaddr
    else s.runAccess h a.block accessParts []

/-- R162 and R174: a JCOMMIT reads its body through the core's own translation and checks. -/
def State.readBody (s : State) (h rd va n : Nat) : State :=
  s.runAccess h { kind := .jbody, vaddr := BitVec.ofNat 64 (s.maskedAddr h va), size := n, rd := rd, dst := .v } accessParts []

end Sys2Proof.Machine
end

