-- ==== Sys2Proof/Machine/IrqOps.lean ====
section
/-! DEFINITION. Interrupts of a hart (R170, R178, R323; priorities and enables are those of the RISC-V Privileged and Advanced
Interrupt Architectures, which R170 names, log 14), the memory operands of the Xbcn instructions (R174), and waiting TNEXTs
(R153, R154). -/

namespace Sys2Proof.Machine

/-! ### Interrupts -/

/-- The place of an IMSIC register of a hart's interrupt file among its CSRs. -/
def imsicReg (file guest sel : Nat) : Nat := 0x100000 * (file + 1) + 0x1000 * guest + sel

/-- Whether an interrupt file signals: delivery is on, and an identity that is enabled and below the threshold is pending. -/
def State.external (s : State) (h file guest : Nat) : Bool :=
  let thr := (s.csr h (imsicReg file guest 0x72)).toNat
  (s.csr h (imsicReg file guest 0x70)).toNat == 1 &&
    s.imsic.any (fun q => q.1 == h && q.2.1 == file && q.2.2.1 == guest &&
      (s.csr h (imsicReg file guest (0xC0 + q.2.2.2 / 64 * 2))).toNat.testBit (q.2.2.2 % 64) &&
      (thr == 0 || decide (q.2.2.2 < thr)))

/-- The guest files that signal, as hgeip has them. -/
def State.guestIrqs (s : State) (h : Nat) : Nat :=
  ((List.range 7).map (fun g => if s.external h 2 (g + 1) then 2 ^ (g + 1) else 0)).sum

/-- The interrupts pending at a hart, as mip reads. -/
def State.pendingIrqs (s : State) (h : Nat) : Nat :=
  let g := s.guestIrqs h
  let on := fun (b : Nat) (p : Bool) => if p then 2 ^ b else 0
  (s.csr h csrMip).toNat ||| on 11 (s.external h 0 0) ||| on 9 (s.external h 1 0) |||
    on 10 (g.testBit (wbits (s.csr h csrHstatus) 12 6)) ||| on 12 ((g &&& (s.csr h 0x607).toNat) != 0)

/-- The order in which pending interrupts are taken. -/
def irqOrder : List Nat := [21, 20, 11, 3, 7, 9, 1, 5, 12, 10, 2, 6, 13]

/-- The first interrupt of a mask. -/
def firstIrq (x : Nat) : Option Nat := irqOrder.find? (fun b => x.testBit b)

/-- Where an enabled pending interrupt of a hart is taken: its mode (3 M, 1 HS or S, 0 VS) and its number. -/
def State.dueIrq (s : State) (h : Nat) : Option (Nat × Nat) :=
  let x := s.hart h
  let p := s.pendingIrqs h &&& (s.csr h csrMie).toNat
  let md := (s.csr h csrMideleg).toNat ||| 0x1444
  let hd := (s.csr h 0x603).toNat &&& 0x444
  let mOn := x.priv < 3 ∨ wbits (s.csr h csrMstatus) 3 1 = 1
  if s.is CORE_WFRAME.OPEN h then
    if mOn then (firstIrq p).map (fun b => (3, b)) else none
  else
    let pick := fun (mask : Nat) (on : Bool) (m : Nat) => if on then (firstIrq (irqOrder.foldl (fun a b =>
      if p.testBit b && mask.testBit b then a + 2 ^ b else a) 0)).map (fun b => (m, b)) else none
    let inv := fun (a : Nat) => 2 ^ 64 - 1 - a
    match pick (inv md) (decide mOn) 3 with
    | some q => some q
    | none =>
      match pick (md &&& inv hd) (decide (x.priv < 3) && (x.priv == 0 || x.virt || wbits (s.csr h csrMstatus) 1 1 == 1)) 1 with
      | some q => some q
      | none => pick (md &&& hd) (x.virt && (x.priv == 0 || wbits (s.csr h csrVsstatus) 1 1 == 1)) 0

/-- Takes an interrupt. -/
def State.takeIrq (s : State) (h mode b : Nat) : State :=
  (match mode with
    | 3 => s.trapM h b true 0 0 0
    | 1 => s.trapS h b true 0 0 0
    | _ => s.trapVS h (if b = 10 ∨ b = 6 ∨ b = 2 then b - 1 else b) true 0).trapTriggers h (s.hart h) true b

/-- Whether a hart can execute an instruction now: it runs, it waits for nothing, and no access of it is in flight. -/
def State.ready (s : State) (h : Nat) : Bool :=
  s.hartRuns h && !(s.hart h).waiting && !(s.hart h).stalled && (s.run h).tnext.isNone && (s.run h).jcommit.isNone && (lookupKey h s.fab.misses).isNone

/-- Whether a hart can carry out an instruction: one of its program, or of a debugger. -/
def State.mayAct (s : State) (h : Nat) : Bool := s.ready h || s.debugRuns h

/-- A TNEXT that waits ends with rd = 0, but for one whose buffer is being written. -/
def State.endWait (s : State) (h : Nat) : State :=
  match (s.run h).tnext with
  | some q => if (lookupKey h s.fab.misses).isSome then s else ((s.setRun h { s.run h with tnext := none }).setX h q.1 0).nextPc h 4
  | none => s

/-- R175: an enabled pending interrupt is taken between instructions; it ends a TNEXT that waits. -/
def State.irqs (s : State) (h : Nat) : State :=
  if s.hartRuns h ∧ ¬ ((s.hart h).step = 1 ∧ (s.csr h 0x7B0).toNat.testBit 11 = false) ∧ (s.hart h).waiting = false ∧ (s.run h).jcommit.isNone ∧ (lookupKey h s.fab.misses).isNone then
    match s.dueIrq h with
    | some q => (s.endWait h).takeIrq h q.1 q.2
    | none => s
  else s

/-- Whether an enabled interrupt is pending at a hart. -/
def State.wakes (s : State) (h : Nat) : Bool := s.pendingIrqs h &&& (s.csr h csrMie).toNat != 0

/-- R170: WRS.NTO waits until the reservation is lost or an interrupt is pending. -/
def State.unstall (s : State) : State :=
  (s.harts.filter (fun q => q.2.stalled && (q.2.resv.isNone || s.wakes q.1))).foldl (fun (s : State) q =>
    s.setHart q.1 { s.hart q.1 with stalled := false }) s

/-- The harts with an interrupt pending. -/
def State.irqHarts (s : State) : List Nat :=
  ((s.csrs.filter (fun q => q.1.2 == csrMip)).map (fun q => q.1.1) ++ s.imsic.map (fun q => q.1)).eraseDups

/-! ### TNEXT -/

/-- The place of a group's turn (R153) beside the engines'. -/
def groupTurn (g : Nat) : Nat := 16 + g

/-- R154: the descriptor of an op is written into the buffer of a core's TNEXT, through the core's own translation and checks; the op is
granted when it has been (`State.granted`). -/
def State.offerOp (s : State) (c buf : Nat) (o : Op) : State :=
  (s.setRun c { s.run c with offer := some o.id }).runAccess c
    { kind := .tnext, vaddr := BitVec.ofNat 64 (s.maskedAddr c buf), size := 64, data := o.bytes.take 64 } accessParts []

/-- Offers a core whose TNEXT waits an op, if there is one for it. -/
def State.serveCore (s : State) (c : Nat) : State :=
  match (s.run c).tnext with
  | none => s
  | some q =>
    if !(s.mayHold c) || (lookupKey c s.fab.misses).isSome then s
    else
      let s := s.fireGuards
      match s.nextOp c with
      | none => s
      | some o =>
        let s := if o.core.isNone then
            { s with svc := { s.svc with turns := nput s.svc.turns (groupTurn o.grp) (c + 1) } }
          else s
        s.offerOp c q.2.1 o

/-- The cores whose TNEXT waits, in round-robin order of global core number within each group (R153). -/
def State.waiters (s : State) : List Nat :=
  let cs := (s.svc.runs.filter (fun q => q.2.tnext.isSome)).map Prod.fst
  let turn := fun (c : Nat) => nget s.svc.turns (groupTurn (s.fld DSP_CORE.GROUP c)) 0
  cs.filter (fun c => decide (turn c ≤ c)) ++ cs.filter (fun c => decide (c < turn c))

/-! ### Debug halts (R329, R381) -/

/-- A pending debug halt is taken at an instruction boundary of a hart whose world's invasive enable applies: the core returns to RUN,
and dcsr (0x7B0) and dpc (0x7B1) hold what the Debug architecture puts there (log 14). -/
def State.takeHalt (s : State) (h : Nat) : State :=
  if !(s.hart h).haltPend || !(s.debugApplies h) || !(s.coreUp h) || (s.run h).jcommit.isSome || (lookupKey h s.fab.misses).isSome ||
      s.nf.triggered then s
  else
    (if s.fld CORE_PWR.STATE h = 3 then s.startCore h false else (s.endWait h).setCorePwr h 0).enterDebug h 3

/-- The harts with a debug halt pending. -/
def State.haltHarts (s : State) : List Nat := (s.harts.filter (fun q => q.2.haltPend)).map Prod.fst

/-- R329: a single step ends: the hart enters debug mode, once it is in a world whose invasive enable applies. -/
def State.endStep (s : State) (h : Nat) : State :=
  if (s.hart h).step = 2 && s.debugApplies h && s.coreUp h && !s.nf.triggered then s.enterDebug h 4 else s

/-- The harts whose single step has been made. -/
def State.steppers (s : State) : List Nat := (s.harts.filter (fun q => q.2.step == 2)).map Prod.fst

/-- What harts do at once: debug halts are taken, single steps end, waiting TNEXTs served, and enabled interrupts taken. -/
def State.runHarts (s : State) : State :=
  let s := s.steppers.foldl State.endStep (s.haltHarts.foldl State.takeHalt s)
  let s := (s.counters.foldl State.fireCount s).unstall
  let s := s.waiters.foldl State.serveCore s
  s.irqHarts.foldl State.irqs s

end Sys2Proof.Machine
end

