-- ==== Sys2Proof/Machine/TimeOps.lean ====
section
/-! DEFINITION. The Sidereal Time Base: discipline (R97 to R101), forward steps (R100), re-sync (R106) and the replicas (R93 to
R96). -/

namespace Sys2Proof.Machine

/-! ### Signed fields -/

/-- A number as `w` bits of two's complement. -/
def twos (w : Nat) (x : Int) : Nat := (x % (2 ^ w : Int)).toNat

/-- The number that `w` bits of two's complement spell. -/
def ofTwos (w x : Nat) : Int := if x < 2 ^ (w - 1) then x else (x : Int) - 2 ^ w

/-! ### State of the discipline -/

/-- Whether an op is held in the op table: every entry but the records of aborted ops. -/
def State.opHeld (s : State) : Bool := s.svc.ops.any (fun q => q.2.state != .aborted)

/-- A change of the discipline state writes EV_STB_STATE (R101) and starts the counts anew. -/
def State.setDisc (s : State) (v : Nat) : State :=
  if s.fld STB_STATE.STATE 0 = v then s
  else
    let since := if v = 3 then s.stb else s.clock.holdAt
    let s : State := { s with clock := { s.clock with near := 0, far := 0, back := 0, seen := 0, mayStep := v == 1, holdAt := since } }
    let s := s.set STB_STATE.STATE 0 v
    let s := if v = 3 then s else s.set STB_OFFSET.HOLDOVER_MS 0 0
    s.event 0x08 s.stb (leBytes 1 v)

/-- R101: the discipline fails: STB free on the last trim, a DEGRADE fault. -/
def State.discFault (s : State) : State := (s.setDisc 4).raise { coll := .chip, bit := 28 }

/-- HOLDOVER_MS at the present stamp. -/
def State.holdoverMs (s : State) : Nat :=
  if s.fld STB_STATE.STATE 0 = 3 then (s.stb - s.clock.holdAt) / msTicks 1 else 0

/-- R101: the trims of the last 64 s and the one in force before them, with a new one. -/
def trimsWith (ts : List (Stamp × Int)) (now : Stamp) (v : Int) : List (Stamp × Int) :=
  let old := ts.filter (fun q => decide (q.1 + 256000000000 ≤ now))
  let young := ts.filter (fun q => decide (now < q.1 + 256000000000))
  old.getLast?.toList ++ young ++ [(now, v)]

/-- A rate trim in ppb comes into force. -/
def State.setTrim (s : State) (v : Int) : State :=
  ({ s with clock := { s.clock with trims := trimsWith s.clock.trims s.stb v } }).set STB_TRIM.TRIM_PPB 0 (twos 24 v)

/-- R98: the rate trim after a valid pulse: within ±20 ppm; the spec gives no formula (a free value). -/
def State.slew (s : State) : State :=
  let q := s.free
  q.2.setTrim ((q.1 % 40001 : Nat) - 20000)

/-- The time that each trim was in force from `from_` on, times its value, and that time, up to `now`. -/
def trimSum (from_ now : Stamp) : List (Stamp × Int) → Int × Int
  | [] => (0, 0)
  | [q] =>
    let d : Int := (now : Int) - max from_ q.1
    (d * q.2, d)
  | q :: r :: rest =>
    let x := trimSum from_ now (r :: rest)
    let d : Int := (r.1 - max from_ q.1 : Nat)
    (x.1 + d * q.2, x.2 + d)

/-- R101: the trim of a holdover: the mean over the last 64 s before the loss, or over what there is of them (rounded down; log 45). -/
def State.holdTrim (s : State) : State :=
  let x := trimSum (s.stb - 256000000000) s.stb s.clock.trims
  s.setTrim (if x.2 ≤ 0 then ofTwos 24 (s.fld STB_TRIM.TRIM_PPB 0) else x.1 / x.2)

/-- R100: a forward step of the STB. The ticks skipped are not counted between pulses (R99, R101). -/
def State.stepTo (s : State) (v : Stamp) : State :=
  let d := v - s.stb
  let k := { s.clock with
    lastEdge := s.clock.lastEdge.map (fun e => e + 25 * d), lastGood := s.clock.lastGood + d,
    trims := s.clock.trims.map (fun q => (q.1 + d, q.2)) }
  (({ s with stb := v, clock := k }).set STB_STATE.STEPPED 0 1).set STB_EVT.STEPPED 0 1

/-- R100: whether a step is permitted at all. -/
def State.stepsAllowed (s : State) : Bool := !s.opHeld && s.fld CST_STATUS.MEMBER 0 == 0

/-- R100: the steps that a valid pulse may bring: to EPOCH, which is cleared, or to the next grid point at the second valid
pulse of a LOCKING that was entered from another state. -/
def State.pulseStep (s : State) : State :=
  let e := s.fld STB_EPOCH.EPOCH 0
  if e ≠ 0 then
    let s' := s.setWord .STB_EPOCH 0 0 0
    if s.stepsAllowed ∧ s.stb < e then
      let t := s'.stepTo e
      { t with clock := { t.clock with epoch := e, mayStep := false } }
    else s'
  else if s.clock.mayStep ∧ s.clock.seen = 2 ∧ s.fld STB_STATE.STATE 0 = 1 then
    let s' : State := { s with clock := { s.clock with mayStep := false } }
    let g := s.clock.epoch + ceilDiv (s.stb - s.clock.epoch) 4000000000 * 4000000000
    if s.stepsAllowed ∧ s.clock.epoch ≤ s.stb ∧ s.stb < g then s'.stepTo g else s'
  else s

/-- R106, steps 3 to 5: a valid pulse of the new source; the second ends the re-sync. -/
def State.resyncPulse (s : State) : State :=
  match s.clock.resync with
  | none => s
  | some r =>
    if r.pulses = 0 then { s with clock := { s.clock with resync := some { r with pulses := 1 } } }
    else
      let s := ({ s with clock := { s.clock with resync := none } }).set STB_STATE.RESYNC 0 0
      s.closeAct r.act 2 stOk

/-- R101: a valid pulse in HOLDOVER or FAULT: the second in succession with a valid reference goes back to LOCKING. -/
def State.regained (s : State) (ref : Bool) : State :=
  let n := if ref then s.clock.back + 1 else 0
  let s : State := { s with clock := { s.clock with back := n } }
  if 2 ≤ n then
    let s := s.setDisc 1
    { s with clock := { s.clock with seen := 2 } }
  else s

/-- R99: whether a frequency of STB_REF lies within ±50 ppm of 10 MHz. -/
def refValid (hz : Nat) : Bool := decide (9999500 ≤ hz) && decide (hz ≤ 10000500)

/-- R99 and R101: the frame that has ended counts for or against STB_REF. -/
def State.refFrame (s : State) (hz : Nat) : State :=
  { s with clock := { s.clock with refBad := if refValid hz then 0 else s.clock.refBad + 1 } }

/-- R101: the changes of state that a valid pulse with offset `off` (ps) brings; `ref` says whether STB_REF is valid where it is used. -/
def State.discNext (s : State) (off : Int) (ref : Bool) : State :=
  let k := s.clock
  match s.fld STB_STATE.STATE 0 with
  | 1 =>
    let n := if off.natAbs ≤ 1000 then k.near + 1 else 0
    let s : State := { s with clock := { k with near := n } }
    if 4 ≤ n then s.setDisc 2 else s
  | 2 =>
    let n := if 10000 < off.natAbs then k.far + 1 else 0
    let s : State := { s with clock := { k with far := n } }
    if 2 ≤ n then s.setDisc 1 else s
  | 3 => s.regained ref
  | 4 => s.regained ref
  | _ => s

/-- A valid pulse of the source in use, with its offset in ps. The first of a re-sync gives its stamp alone; the offset is valid and slewing
begins with the second (R106), and not with a pulse at which the STB steps (R100). In HOLDOVER and FAULT the trim stays (R101). -/
def State.disciplinePulse (s : State) (off : Int) (ref : Bool) : State :=
  if s.fld STB_STATE.SOURCE 0 = 0 then s
  else
    let first := s.clock.resync.any (fun r => r.pulses == 0)
    let s := s.setWord .STB_PPS_STAMP 0 0 (BitVec.ofNat 64 s.stb)
    let s : State := { s with clock := { s.clock with seen := s.clock.seen + 1, lastGood := s.stb } }
    if first then s.pulseStep.resyncPulse
    else
      let p := ((s.set STB_OFFSET.OFFSET_PS 0 (twos 32 off)).discNext off ref).pulseStep
      let t := p.resyncPulse
      if p.stb = s.stb ∧ (t.fld STB_STATE.STATE 0 = 1 ∨ t.fld STB_STATE.STATE 0 = 2) then t.slew else t

/-- R99: a pulse on STB_PPS that is not valid; it breaks every run of valid pulses where the source is 1. -/
def State.badPulse (s : State) : State :=
  let s : State := if s.fld STB_STATE.SOURCE 0 = 1 then { s with clock := { s.clock with near := 0, far := 0, back := 0 } } else s
  s.set STB_EVT.PULSE_INVALID 0 1

/-! ### Re-sync (R106) -/

/-- PARAM of a re-sync: source, link, flags, holdover limit and epoch. -/
def resyncParam (src link fl hold epoch : Nat) : Nat := src + link * 2 ^ 8 + fl * 2 ^ 16 + hold * 2 ^ 32 + epoch * 2 ^ 64

/-- The holdover settings and EPOCH of STB_CONFIG. -/
def State.setHoldover (s : State) (p : Nat) : State :=
  let en := bitsOf p 16 1
  let s := (s.set STB_STATE.HOLDOVER_EN 0 en).set STB_CTRL.HOLDOVER_EN 0 en
  let hold := bitsOf p 32 32
  let s := if 1 ≤ hold ∧ hold ≤ 86400 then s.set STB_CTRL.HOLDOVER_S 0 hold else s
  if bitsOf p 64 64 = 0 then s else s.set STB_EPOCH.EPOCH 0 (bitsOf p 64 64)

/-- R106, steps 1 and 2: the re-sync begins in LOCKING, and the PLL reference is switched; a change to source 0 is then done. A step is
permitted where LOCKING is entered from another state (R100). -/
def State.beginResync (s : State) (id p : Nat) : State :=
  if !s.units.retiring.isEmpty then s.closeAct id 4 stConflict
  else
    let st := s.fld STB_STATE.STATE 0
    let start := match s.activity id with
      | some a => if a.cmd.isSome then a.asked else s.stb
      | none => s.stb
    let r : Resync := ⟨id, start, st, s.fld STB_STATE.SOURCE 0, s.fld STB_STATE.LINK 0, true, 0, s.clock.mayStep, s.clock.seen⟩
    let src := bitsOf p 0 2
    let link := bitsOf p 8 3
    let may := st != 1 || s.clock.mayStep
    let s := (s.setHoldover p).setDisc 1
    let s := ((s.set STB_STATE.SOURCE 0 src).set STB_STATE.LINK 0 link)
    let s := ((s.set STB_CTRL.SOURCE 0 src).set STB_CTRL.LINK 0 link)
    let s : State := { s with clock := { s.clock with seen := 0, mayStep := src != 0 && may, marks := 0, thetas := 0 } }
    if src = 0 then (s.setDisc 0).closeAct id 2 stOk
    else ({ s with clock := { s.clock with resync := some r } }).set STB_STATE.RESYNC 0 1

/-! ### Replicas -/

/-- Changes a region's replica; what it reads does not fall by it (R88). -/
def State.moveReplica (s : State) (r : Nat) (x : Replica) : State := s.setReplica r { x with floor := s.regionStb r }

/-- R93 and R94: how far a region's replica may be from the master: a tick on the optical path, 2 on the fallback. -/
def State.agreement (s : State) (r : Nat) : Nat := if s.is STB_REPLICA.PATH r then 2 else 1

/-- R95: C.7 sets the coarse delay of a region's path in ticks to half the round trip measured at start, in 10 ps, and the fine trim to
what is left of it. -/
def State.pathDelay (s : State) (r path : Nat) : Nat × Nat :=
  match s.board with
  | some b =>
    let half := (lookupKey (2 * r + path) b.trips).getD 0 / 2
    (half / 25, half % 25)
  | none => (0, 0)

/-- R94: a region switches to the electrical fallback; a brick whose lane 0 has failed has none, and its replica fails (R96, R283). `quiet`
is the switch of a package without CAP_OPTICAL_TIME, which raises no fault. A step that the optical path asked for is dropped with it. -/
def State.toFallback (s : State) (r : Nat) (quiet : Bool) : State :=
  if s.is STB_REPLICA.PATH r then s
  else if r < 12 ∧ (s.fld SB_STATUS.FAILED r).testBit 0 then (s.raise { coll := .region r, bit := 24 }).beginBrick r
  else
    let d := s.pathDelay r 1
    let s := s.moveReplica r { s.replica r with step := 0, missed := 0 }
    let s := ((s.set STB_REPLICA.PATH r 1).set STB_REPLICA.COARSE_DELAY r d.1).set STB_REPLICA.FINE_TRIM r d.2
    let s := s.set STB_STATE.FALLBACK 0 (withBit (s.fld STB_STATE.FALLBACK 0) r)
    if quiet then s else s.raise { coll := .region r, bit := 20, action := 11 }

/-- R95: the fine trim moves by one step, within its range. -/
def State.moveTrim (s : State) (r : Nat) (d : Int) : State :=
  let v : Int := (s.fld STB_REPLICA.FINE_TRIM r : Int) + d
  s.set STB_REPLICA.FINE_TRIM r (if v < 0 then 0 else if 255 < v then 255 else v.toNat)

/-- R95: the trim of a region moves at the meridian after the marker that asked for it. -/
def State.trimDue (s : State) (r : Nat) : State :=
  let x := s.replica r
  if x.step = 0 ∨ x.checked.any (fun f => decide (frameOf s.stb ≤ f)) then s
  else (s.moveTrim r x.step).moveReplica r { x with step := 0, trimmed := true }

end Sys2Proof.Machine
end

