-- ==== Sys2Proof/Machine/MaintOps.lean ====
section
/-! DEFINITION. The maintenance sequencer (R371 to R377, R448): estimates, requests, starting and ending an activity. -/

namespace Sys2Proof.Machine

/-! ### Estimates (R371, R374) -/

/-- The lines of a node. -/
def State.nodeLines (s : State) (n : Nat) : Nat := s.nodeBytes n / 64

/-- R226: the ticks of a full patrol pass of a node. -/
def State.passTicks (s : State) (n : Nat) : Nat :=
  (if s.fld MEM_NODE.PATROL_H n = 0 then 24 else s.fld MEM_NODE.PATROL_H n) * 14400000000000

/-- R371: the estimate of an activity, in ticks. A running patrol pass counts the lines it has not read. -/
def State.estimate (s : State) (a : Activity) : Nat :=
  match a.code with
  | 0 => match a.node with
    | some n => s.passTicks n * (s.nodeLines n - a.param) / max 1 (s.nodeLines n)
    | none => 0
  | 1 => usTicks (2 * bitsOf a.param 40 24)
  | 2 => msTicks 2
  | 3 => match a.node with
    | some n => min (msTicks 60000) (s.nodeBytes n / max 1 (s.nodeSet n).length * 4 / 5)
    | none => 0
  | 4 => msTicks 5
  | 5 => usTicks 2 + (if a.courses.any s.stalledNow then nextMeridian s.stb - s.stb else 0)
  | 6 => usTicks 100
  | 7 => msTicks 5
  | 8 => msTicks 1
  | 9 => msTicks 3000
  | 10 => msTicks 200
  | 11 => msTicks 1
  | _ => if a.restore then msTicks 25 else if ((unitRef a.unit).bind UnitRef.core).isSome then msTicks 1 else msTicks 5

/-- The estimated end of a running activity; one that is over its estimate counts the present frame. -/
def State.runEnd (s : State) (a : Activity) : Nat :=
  if a.code = 0 then meridianOf (frameOf s.stb) + s.estimate a else max (a.start + s.estimate a) (meridianOf (frameOf s.stb))

/-- R374: the frame that opens at the first meridian at or after the latest of some ends. -/
def frameAfter (ends : List Nat) : Nat := ceilDiv (ends.foldl max 0) 32768

/-- R374: the activities in the order in which they are judged, each with its estimated end. -/
def State.estEnds (s : State) : List (Activity × Nat) :=
  s.queued.foldl (fun (xs : List (Activity × Nat)) a =>
    xs ++ [(a, meridianOf (frameAfter ((xs.filter (fun x => meets a x.1 == .q)).map Prod.snd)) + s.estimate a)])
    (s.running.map (fun a => (a, s.runEnd a)))

/-- R374: EST_START of an activity. -/
def State.estStart (s : State) (a : Activity) : Nat :=
  frameAfter ((s.estEnds.filter (fun x => meets a x.1 == .q)).map Prod.snd)

/-! ### What a retirement would revoke (R71, R448) -/

/-- Whether an activity would have a booking revoked: the capacities after it are compared with what is booked. -/
def State.revokes (s : State) (a : Activity) : Bool :=
  if a.restore then false
  else
    let brick := fun (s : State) b => (List.range 4).foldl (fun (s : State) c => s.set CRS_STATUS.WIDTH (4 * b + c) 2)
      (s.set DIE_ID.UP (1 + b) 0)
    let brickRes := fun b => (8 + b) :: (((List.range 4).map (fun c => dirRes (4 * b + c))).flatten ++
      ((List.range 24).map (fun k => s.coreRes (24 * b + k))).flatten.eraseDups)
    match a.code, unitRef a.unit with
    | 3, some u => match u.mc with
      | some c => State.wouldRevoke ((((s.set MC_STATUS.STATE c 7).set MC_STATUS.STATE a.pair 7).set MC_STATUS.PARTNER c
          a.pair).set MC_STATUS.PARTNER a.pair c) [mcNode c]
      | none => false
    | 6, some (.course b c) =>
      let i := 4 * b + c
      if a.pair = 1 then
        if (s.coursesUp b).length ≤ 2 ∧ s.courseUp i then State.wouldRevoke (brick s b) (brickRes b)
        else State.wouldRevoke (s.set CRS_STATUS.WIDTH i 2) (dirRes i)
      else a.param == 0 && s.fld CRS_STATUS.WIDTH i == 0 && State.wouldRevoke (s.set CRS_STATUS.WIDTH i 1) (dirRes i)
    | 7, some (.region b) => State.wouldRevoke (brick s b) (brickRes b)
    | 8, some u => match u.mc with
      | some c =>
        let st := s.fld MC_STATUS.STATE c
        let gone := ((nodeMembers (mcNode c)).filter (fun x => s.fld MC_STATUS.STATE x == 5)).length
        let s' := if 16 ≤ c ∧ 7 ≤ gone
          then (nodeMembers (mcNode c)).foldl (fun (s : State) x => s.set MC_STATUS.STATE x 5) s
          else s.set MC_STATUS.STATE c 5
        !(st == 2 || st == 3) && State.wouldRevoke s' [mcNode c]
      | none => false
    | 12, some u =>
      let cs := match u.core, u.coreBlock with
        | some c, _ => [c]
        | none, some bb => blockCores bb
        | none, none => []
      State.wouldRevoke ({ s with units := { s.units with coreDown := s.units.coreDown ++ cs } })
        ((cs.map s.coreRes).flatten.eraseDups)
    | _, _ => false

/-! ### Starting (R223, R226, R228, R277, R279) -/

/-- The lane of an activity, as course, direction and number. -/
def Activity.lane (a : Activity) : Option (Nat × Nat × Nat) :=
  match unitRef a.unit with
  | some (.lane b c n d) => some (4 * b + c, d, n)
  | _ => none

/-- R223: the copy starts: the granules of CHAN_B become unpopulated, cached lines of them go, and the pair counts as one. -/
def State.startCopy (s : State) (a b : Nat) : State :=
  let mine := fun (l : Nat) => (s.memberAt (64 * l)).map Prod.fst == some b
  let s := (s.fab.lines.filter (fun (q : (Nat × Nat) × CLine) => mine q.1.2)).foldl (fun (s : State) q => s.dropLine q.1.1 q.1.2) s
  let s : State := { s with mem := { s.mem with mirrors := nput s.mem.mirrors a b, unmapped := s.mem.unmapped ++ [b],
                                                locks := nput s.mem.locks a (lockMeridian s.stb) } }
  let s := (((s.set MC_STATUS.STATE a 7).set MC_STATUS.STATE b 7).set MC_STATUS.PARTNER a b).set MC_STATUS.PARTNER b a
  s.trigger [mcNode a] false (mcUnit a)

/-- R71: a unit is retired, unless it is out of service already. -/
def State.retireUnit (s : State) (u : UnitRef) : State :=
  if s.unitOut u then s
  else
    match u with
    | .course b c => s.retireCourse (4 * b + c)
    | .region b => s.beginBrick b
    | _ =>
      match u.core, u.coreBlock, u.mc with
      | some c, _, _ => (s.retireCore (s.hartOn c)).retiredEvent (coreColl c).unit
      | _, some bb, _ => (s.retireBlock bb).retiredEvent (blockUnit bb)
      | _, _, some m => s.retireMc m
      | _, _, _ => s

/-- R277: what keeps a fabric activity from starting. -/
def State.fabricFails (s : State) (a : Activity) : Option Nat :=
  match a.code, unitRef a.unit, a.lane with
  | 4, _, some (i, d, n) =>
    if !s.courseUp i then some stDegraded
    else if (s.courseDir i d).map.contains n ∧ (s.spares i d).isEmpty then some stInsufficient else none
  | 5, _, some (i, d, _) =>
    if !s.courseUp i then some stDegraded else if (s.spares i d).isEmpty then some stInsufficient else none
  | 6, some (.course b c), _ =>
    let i := 4 * b + c
    if a.pair = 1 then none
    else if !s.courseUp i then some stDegraded
    else if a.param = 1 ∧ s.fld CRS_STATUS.WIDTH i = 1 ∧ s.fullOk i = false then some stDegraded else none
  | _, _, _ => none

/-- R284: RESTORE_UNIT raises a brick's sideband, and the keeper sends a capability request. -/
def State.askBrick (s : State) (b : Nat) : State :=
  ({ s with crs := { s.crs with fenced := nput s.crs.fenced b (nget s.crs.fenced b 0 % 16), asked := nput s.crs.asked b 7 } }).sendSide b 0x10 0

/-- What an activity does at its start. -/
def State.startEffect (s : State) (a : Activity) : State :=
  if a.restore then
    match unitRef a.unit with
    | some (.region b) => s.askBrick b
    | _ => s
  else if a.code ≠ 7 ∧ a.starter = .silicon then s
  else
    match a.code, unitRef a.unit with
    | 1, _ => s.scrubRange a.param
    | 3, some u => match u.mc with
      | some c => s.startCopy c a.pair
      | none => s
    | 4, _ => match a.lane with
      | some (i, d, n) =>
        let s : State := { s with units := { s.units with retrain := nput s.units.retrain a.unit a.id } }
        let s := s.refreshSpares i
        if (s.courseDir i d).map.contains n then s.requestStall ⟨i, .remap d n, some a.id, false⟩ else s
      | none => s
    | 5, _ => match a.lane with
      | some (i, d, n) => s.requestStall ⟨i, .remap d n, some a.id, false⟩
      | none => s
    | 6, some (.course b c) =>
      let i := 4 * b + c
      if a.pair = 1 then (s.passed (some a.id)).retireCourse i
      else if a.param = s.fld CRS_STATUS.WIDTH i ∧ s.fld CRS_STATUS.WIDTH i = 0 then s.requestStall ⟨i, .width true, some a.id, false⟩
      else if a.param = 1 ∧ s.fld CRS_STATUS.WIDTH i = 1 then s.requestStall ⟨i, .width false, some a.id, false⟩
      else s.closeAct a.id 2 stOk
    | 7, some u => s.retireUnit u
    | 8, some u => s.retireUnit u
    | 9, _ => s.beginResync a.id a.param
    | 11, _ => s.calibrating a.unit true
    | 12, some u => s.retireUnit u
    | _, _ => s

/-- An activity starts at the current stamp: it ends in state 4 at once where it would revoke a booking without FORCE or
where its own rule fails it. -/
def State.startAct (s : State) (id : Nat) : State :=
  match s.activity id with
  | none => s
  | some a =>
    let a := { a with state := 1, start := s.stb, past := a.past || [7, 8, 12].contains a.code }
    let s := s.setAct a
    if (a.commanded && !a.force && s.revokes a) then s.closeAct id 4 stInsufficient
    else
      match s.fabricFails a with
      | some st => s.closeAct id 4 st
      | none => s.startEffect a

/-! ### Requests (R374) -/

/-- How a request was answered: its status, the MAINT_ID and EST_START, and the state. -/
structure Request where
  status : Nat
  id : Nat
  est : Nat
  state : State
deriving DecidableEq, Repr

/-- R373: the running activities for which a request's entry is P pause until it ends. -/
def State.pauseFor (s : State) (a : Activity) (id : Nat) : State :=
  s.running.foldl (fun (s : State) r =>
    if meets a r = .p ∧ s.isPast r = false then s.setAct { r with pausers := r.pausers ++ [id] } else s) s

/-- R374: a request is refused, queued or started. -/
def State.request (s : State) (a : Activity) (mayQueue : Bool) : Request :=
  let live := s.running ++ s.queued
  if live.any (fun r => meets a r == .x) then ⟨stConflict, 0, 0, s⟩
  else if live.any (fun r => meets a r == .q) then
    if !mayQueue then ⟨stConflict, 0, 0, s⟩
    else if 32 ≤ s.queued.length then ⟨stInsufficient, 0, 0, s⟩
    else
      let est := s.estStart a
      let q := s.addAct a
      ⟨stBusyDeferred, q.1, est, q.2⟩
  else
    let id := s.maint.nextId
    let q := (s.pauseFor a id).addAct a
    ⟨stOk, q.1, frameOf s.stb, q.2.startAct q.1⟩

/-! ### The queue walk (R374) -/

/-- Whether a queued activity may start: its entries against every running activity and every older queued one are C or P. -/
def State.mayStart (s : State) (a : Activity) : Bool :=
  (s.running ++ s.queued.filter (fun (x : Activity) => decide (x.id < a.id))).all (fun r => meets a r == .c || meets a r == .p)

/-- MAINT_QUEUE_WALK's effect: each queued activity in turn, oldest first. An activity of the keeper's that waits under R375
starts once nothing keeps it. -/
def State.walkQueue (s : State) : State :=
  s.queued.foldl (fun (s : State) a =>
    if a.commanded || a.code == 0 then (if s.mayStart a then (s.pauseFor a a.id).startAct a.id else s)
    else if s.keeperWaits a then s
    else (s.clearFor a a.id).startAct a.id) s

/-- R375: an activity that the keeper starts on a verdict. -/
def State.keeperAct (s : State) (a : Activity) : State :=
  if s.keeperWaits a then (s.addAct a).2
  else
    let q := s.faultAct a
    q.2.startAct q.1

/-! ### The end of an activity -/

/-- R228: the bank group that a row's PARAM names. -/
def rowGroup (p : Nat) : Nat := bitsOf p 36 3

/-- R228: the repairs that a controller's devices offer per bank group. -/
def State.repairsOf (s : State) (c : Nat) : Nat :=
  match s.board with
  | none => 0
  | some b =>
    if c < 16 then ((lookupKey c b.dimms).map Dimm.repairs).getD 0
    else ((lookupKey ((c - 16) / 16) b.hbmStacks).map Stack.repairs).getD 0

/-- R363: the DETAIL of a memory record that names a row by PARAM. -/
def rowDetail (p : Nat) : List Byte :=
  leBytes 1 (bitsOf p 39 3) ++ leBytes 1 (rowGroup p) ++ leBytes 1 (bitsOf p 32 4) ++ leBytes 1 0 ++ leBytes 4 (bitsOf p 0 32)

/-- R228: a row sparing ends: the row is recorded, or no repair was left and channel source 4 is latched. The address of the error record
is free (log 47). -/
def State.endSparing (s : State) (a : Activity) : State :=
  match (unitRef a.unit).bind UnitRef.mc with
  | none => s.closeAct a.id 2 stOk
  | some c =>
    let used := ((s.mem.spared ++ s.mem.hard).filter (fun q => q.1 == c && rowGroup q.2 == rowGroup a.param)).length
    if used < s.repairsOf c then
      let s : State := { s with mem := { s.mem with spared := s.mem.spared ++ [(c, a.param)] } }
      let v := s.free
      ((v.2.logMc c 4 (v.1 % 2 ^ 52)).bumpSat MC_STATUS.SPARED_ROWS c 1).closeAct a.id 2 stOk
    else
      (s.raise { coll := mcColl c, bit := 4, detail := rowDetail a.param }).closeAct a.id 4 stInsufficient

/-- R71: a course returns from retirement by training. -/
def State.restoreCourse (s : State) (i : Nat) : State := (s.trainCourse i).trigger (dirRes i) true (courseUnit i)

/-- R284 and R285: whether a brick may return: it has answered the capability request, its DIE_CAP has every bit that is effective, and every
shared workaround that its errata need is applied. -/
def State.brickFits (s : State) (b : Nat) : Bool :=
  let caps := s.fld CHIP_CAP_EFFECTIVE.CAPS 0
  let errata := s.fld DIE_ERRATA.ERRATA (1 + b) &&& 3
  nget s.crs.asked b 0 == 0 && (caps &&& s.fld DIE_CAP.CAPS (1 + b) == caps) && (errata &&& s.fld CHIP_WORKAROUND.ERRATA 0 == errata)

/-- R71, R284 and R285: a retired brick returns: its courses train from their bad sets, a local workaround it needs is
applied, its cores start at their reset vectors in no group, and the Almanac is told. -/
def State.restoreBrick (s : State) (b : Nat) : State :=
  let s := ({ s with crs := { s.crs with fenced := dropKey b s.crs.fenced, asked := dropKey b s.crs.asked, noBudget := nput s.crs.noBudget b (frameOf s.stb),
                                         noTele := nput s.crs.noTele b (frameOf s.stb) } }).set DIE_ID.UP (1 + b) 1
  let s := s.set CHIP_WORKAROUND.ERRATA 0 (s.fld CHIP_WORKAROUND.ERRATA 0 ||| (s.fld DIE_ERRATA.ERRATA (1 + b) &&& 4))
  let s := (List.range 4).foldl (fun (s : State) c => s.trainCourse (4 * b + c)) s
  let s := s.lostCourses b
  let s : State := { s with units := { s.units with
    coreDown := s.units.coreDown.filter (fun x => x / 24 != b), blockDown := s.units.blockDown.filter (fun x => x / 6 != b) } }
  let s := (List.range 6).foldl (fun (s : State) k => s.restoreBlock (6 * b + k)) s
  s.trigger ((8 + b) :: ((List.range 4).map (fun c => dirRes (4 * b + c))).flatten) true (Coll.region b).unit

/-- R71: a unit that passed its self-test returns to service; none where it cannot. -/
def State.restoreUnit (s : State) (u : UnitRef) : Option State :=
  match u with
  | .course b c =>
    let t := s.restoreCourse (4 * b + c)
    if t.fld CRS_STATUS.WIDTH (4 * b + c) = 2 then none else some t
  | .region b =>
    let t := s.restoreBrick b
    if s.brickFits b ∧ 2 ≤ (t.coursesUp b).length then some t else none
  | _ =>
    match u.core, u.coreBlock, u.mc with
    | some c, _, _ => some (s.restoreCore (s.hartOn c))
    | _, some bb, _ => some (s.restoreBlock bb)
    | _, _, some m => some (s.restoreMc m)
    | _, _, _ => some s

/-- R277: a retrain ends: the lane returns as a spare, or stays bad. -/
def State.endRetrain (s : State) (a : Activity) (ok : Bool) : State :=
  let s : State := { s with units := { s.units with retrain := dropKey a.unit s.units.retrain } }
  match a.lane with
  | none => s.closeAct a.id 2 stOk
  | some (i, d, n) =>
    let s := (if ok then s.laneBad i d n false else s.laneBad i d n true).refreshSpares i
    if ok then s.closeAct a.id 2 stOk else s.closeAct a.id 4 stDegraded

/-- R223: a mirroring copy ends: reads come from CHAN_A, writes go to both. -/
def State.endCopy (s : State) (a : Activity) : State :=
  match (unitRef a.unit).bind UnitRef.mc with
  | none => s
  | some c => ((s.set MC_STATUS.STATE c 2).set MC_STATUS.STATE a.pair 3).refreshNode (mcNode c)

/-- R223: mirroring ends: CHAN_B's granules return and the Almanac recomputes upward. -/
def State.unmirror (s : State) (a b : Nat) : State := (s.endMirror a b).trigger [mcNode a] true (mcUnit a)

/-- R284: a brick that does not return is fenced again. -/
def State.stayOut (s : State) (u : UnitRef) : State :=
  match u with
  | .region b => { s with crs := { s.crs with fenced := nput s.crs.fenced b 31, asked := dropKey b s.crs.asked } }
  | _ => s

/-- Whether an activity's end may come: it runs, is not paused, waits for no stall, has read every line of its patrol pass, a
mirroring copy has come to its meridian and no course holds it (R104, R377), a brick that it
restores has answered or let 10 ms pass (R284), and is not one whose end another command brings (a re-sync, a firmware staging, the retirement of a brick that is under way). -/
def State.mayEnd (s : State) (a : Activity) : Bool :=
  a.state == 1 && a.pausers.isEmpty && !(s.crs.stalls.any (fun x => x.act == some a.id)) &&
    !(a.code == 0 && a.node.any (fun n => decide (a.param < s.nodeLines n))) &&
    !([9, 10].contains a.code) &&
    !(a.code == 3 && !a.restore && (match (unitRef a.unit).bind UnitRef.mc with
      | some c => decide (s.stb < nget s.mem.locks c 0) || s.crs.holds.any (fun i => i % 4 == mcNode c % 4)
      | none => false)) &&
    !(a.code == 7 && (match unitRef a.unit with
      | some (.region b) => (lookupKey b s.units.retiring).isSome || (nget s.crs.asked b 0 != 0 && decide (s.stb < a.start + msTicks 10))
      | _ => false))

/-- The end of an activity whose work is done; `ok` is the outcome of a self-test or a training it makes. -/
def State.endAct (s : State) (a : Activity) (ok : Bool) : State :=
  if a.restore then
    if a.code = 3 then
      match (unitRef a.unit).bind UnitRef.mc with
      | some c => (s.unmirror c a.pair).closeAct a.id 2 stOk
      | none => s.closeAct a.id 2 stOk
    else
      match unitRef a.unit with
      | none => s.closeAct a.id 4 stDegraded
      | some u =>
        if ok then
          match s.restoreUnit u with
          | some t => t.closeAct a.id 2 stOk
          | none => (s.stayOut u).closeAct a.id 4 stDegraded
        else (s.stayOut u).closeAct a.id 4 stDegraded
  else
    match a.code with
    | 2 => s.endSparing a
    | 3 => (s.endCopy a).closeAct a.id 2 stOk
    | 4 => s.endRetrain a ok
    | 11 => ((banksIn a.unit).foldl State.measureLag (s.calibrating a.unit false)).closeAct a.id 2 stOk
    | _ => s.closeAct a.id 2 stOk

end Sys2Proof.Machine
end

