-- ==== Sys2Proof/Machine/Settle.lean ====
section
/-! DEFINITION. What follows an event at once: the actions of permanent verdicts (R367), the safe-state reaction (R369), and a
brick's retirement against a re-sync (R279, R378). -/

namespace Sys2Proof.Machine

/-! ### Verdicts on cores and caches (R183, R198) -/

/-- R198: the keeper retires a core or a core block on a verdict. -/
def State.keeperRetire (s : State) (unit : Nat) : State :=
  match unitRef unit with
  | some u => if s.unitOut u then s else s.keeperAct (newAct (if u.mc.isSome then 8 else 12) unit 0 .keeper)
  | none => s

/-- R183: a set-way of a core's L1 is disabled; a core with more than 8 in one L1 is retired. The set-way of bit 4 may lie in
either L1, which the spec leaves open (log 8). -/
def State.l1Verdict (s : State) (c b e : Nat) : State :=
  let q := if b = 4 then s.free else (b, s)
  let isD := if b = 4 then q.1 % 2 == 1 else b != 0
  let s := (q.2.dropL1Way c isD e).disableWay (l1Key c isD) e
  if 8 < s.offCount (l1Key c isD) then s.keeperRetire (coreColl c).unit else s

/-- R183: a set-way of a block cache is disabled, its line evicted; a block with more than 64 is retired with source 21. -/
def State.blockVerdict (s : State) (bb e : Nat) : State :=
  let s := match s.lineInWay bb (e / 16) (e % 16) with
    | some q => s.evictNow bb q.1 q.2
    | none => s
  let s := s.disableWay bb e
  if 64 < s.offCount bb then
    (s.raise { coll := .block (bb / 6) (bb % 6), bit := 21, action := 8 }).keeperRetire (blockUnit bb)
  else s

/-- The DETAIL of the record of a verdict. -/
def State.verdictDetail (s : State) (v : Verdict) : List Byte :=
  ((s.faults.pend.find? (fun r => r.verdict == 1 && r.evt.coll == v.coll && r.evt.bit == v.bit && r.evt.elem == v.elem)).map
    (fun r => r.evt.detail)).getD []

/-- R445: the action of the record of a verdict. -/
def State.verdictActs (s : State) (v : Verdict) (action : Nat) : State :=
  { s with faults := { s.faults with pend := s.faults.pend.map (fun (r : PendRec) =>
    if r.verdict = 1 ∧ r.evt.coll = v.coll ∧ r.evt.bit = v.bit ∧ r.evt.elem = v.elem then { r with action := action } else r) } }

/-- R448: PARAM of a row sparing from a memory record's DETAIL. -/
def rowParam (d : List Byte) : Nat :=
  leAt d 4 4 + leAt d 2 1 % 16 * 2 ^ 32 + leAt d 1 1 % 8 * 2 ^ 36 + leAt d 0 1 % 8 * 2 ^ 39

/-- R229 and R367: the verdicts of a memory channel or pair. -/
def State.mcVerdict (s : State) (c : Nat) (v : Verdict) : State :=
  match v.bit with
  | 2 => s.keeperAct (newAct 2 (mcUnit c) (rowParam (s.verdictDetail v)) .keeper)
  | 3 =>
    let s := s.logMc c 3 v.addr
    if s.fld MC_STATUS.FAILED_DEVICE c = 63 then (s.set MC_STATUS.FAILED_DEVICE c (v.elem.getD 0)).refreshNode (mcNode c)
    else (s.verdictActs v 8).keeperRetire (mcUnit c)
  | _ => s.keeperRetire (mcUnit c)

/-- R403: Nightfall is disarmed; chip source 38 is latched. -/
def State.disarm (s : State) : State :=
  if s.is NF_STATUS.ARMED 0 then (s.set NF_STATUS.ARMED 0 0).raise { coll := .chip, bit := 38 } else s

/-- The memory controller that a cell is. -/
def Coll.mc : Coll → Option Nat
  | .cell l b k => UnitRef.mc (.cell l b k)
  | _ => none

/-- R367: the action of a permanent verdict. -/
def State.actOn (s : State) (v : Verdict) : State :=
  let e := v.elem.getD 0
  match v.coll, v.coll.kind with
  | .cell l b k, .core => s.l1Verdict (24 * l + 4 * b + k) v.bit e
  | .block l b, .coreBlock => s.blockVerdict (6 * l + b) e
  | .cell l _ k, .engine =>
    s.engDisable (4 * (l - 12) + k) e
  | .cell l _ k, .link => s.waveVerdict (2 * (l - 12) + k) e
  | .region b, .brick => if v.bit = 8 then s else s.laneVerdict (4 * b + (v.bit - 11)) (e / 128) (e % 128)
  | .chip, _ => if v.bit = 39 then (s.set NF_STATUS.STORE_FAILED 0 1).disarm else s
  | c, _ =>
    match c.mc with
    | some m => s.mcVerdict m v
    | none => s

/-- R367: what a source without a bucket leads to: a core or block stopped and retired, training failed in service, a home
slice stopped, a brick's replica failed. -/
def State.sourceAction (s : State) (c : Coll) (b : Nat) : State :=
  match c, c.kind with
  | .cell _ _ _, .core => if b = 5 ∨ b = 7 then s.keeperRetire c.unit else s
  | .block _ _, .coreBlock => if b = 20 then s.keeperRetire c.unit else s
  | .region r, .brick => if b = 24 then s.beginBrick r else s
  | .cell l n k, .slice =>
    if b = 1 then
      let h := 16 * (l - 12) + 8 * (n - 3) + k
      { s with units := { s.units with sliceDown := if s.units.sliceDown.contains h then s.units.sliceDown else s.units.sliceDown ++ [h] } }
    else s
  | _, _ =>
    match c.mc with
    | some m => if b = 5 then s.keeperRetire (mcUnit m) else s
    | none => s

/-- R279, R375 and R378: a brick's retirement is an activity; it takes the lock and aborts the re-sync that runs. -/
def State.lockAbort (s : State) : State :=
  if s.units.retiring.isEmpty then s
  else
    let sync := s.running.find? (fun a => a.code == 9)
    let s := s.units.retiring.foldl (fun (s : State) q =>
      if s.running.any (fun a => a.code == 7 && a.unit == (Coll.region q.1).unit) then s
      else (s.faultAct (newAct 7 (Coll.region q.1).unit 0 .silicon)).2) s
    match sync with
    | some a => (if s.running.contains a then s.abortAct a else s).bump MNT_STATE.RESYNC_ABORTS 0
    | none => s

/-- Carries out the verdicts that wait, and what they lead to, as often as there can be any. -/
def settleVerdicts : Nat → State → State
  | 0, s => s
  | n + 1, s =>
    match s.faults.verdicts with
    | [] => s
    | v :: r => settleVerdicts n (({ s with faults := { s.faults with verdicts := r } }).actOn v)

/-! ### An activation (R79) -/

/-- R79: the keeper restarts into the staged image once every command in progress has finished; one whose maintenance activity runs goes
on (R39). -/
def State.tryActivate (s : State) : State :=
  match s.keeper.activate with
  | none => s
  | some (i, version) =>
    if s.keeper.restarting.isSome ∨ s.keeper.boxes.any (fun q => q.2.taken.any (fun k => k.final.isNone && k.maint.isNone && k.opcode != 0x0D01)) then s
    else
      let s : State := { s with fw := { s.fw with verified := false, version := version },
                                keeper := { s.keeper with restarting := some 1, restartAt := s.stb, activate := none } }
      (List.range 64).foldl (fun (s : State) m => s.set MBX_STATUS.KEEPER_RESTART m 1) (s.set BOOT_STATUS.IMAGE 0 i)

/-! ### The idle state (R386) -/

/-- Whether something runs that ends or prevents IDLE: a core in RUN, an op held or queued, a descriptor taken. -/
def State.busy (s : State) : Bool :=
  (List.range 288).any (fun c => s.fld CORE_PWR.STATE c == 0 && s.is PWR_DOMAIN.ON (8 * (c / 24) + c % 24 / 4) && (s.hart c).released &&
      (s.run c).tnext.isNone && !(s.blkGated (8 * (c / 24) + c % 24 / 4))) ||
    s.svc.ops.any (fun q => q.2.state == .queued || q.2.state == .running || q.2.state == .comparing) || !s.svc.descs.isEmpty

/-- What follows the events of a command at once. -/
def State.settle (s : State) : State :=
  let s := (settleVerdicts 64 s).lockAbort
  let s := if s.faults.reaction then ({ s with faults := { s.faults with reaction := false } }).safeReaction else s
  let s := s.runHarts.endTiles.tryActivate
  (if s.is PPM_STATUS.IDLE 0 && (s.busy || s.pow.active) then s.endIdle else s).buildBsts

/-- The effect of a command at stamp `t` on a package that runs, with what its events lead to. -/
def liveS (t : Stamp) (s : State) (f : State → State) : Res :=
  .next (if s.up then (s.advance t).bounded (f (s.advance t)).settle else s)

end Sys2Proof.Machine
end

