-- ==== Sys2Proof/Machine/MaintCmds.lean ====
section
/-! DEFINITION. The maintenance and fault commands (R69 to R72, R223, R359, R360, R374, R376, R448), and the rows of the
sequencer: the queue walk, the end of an activity, patrol reads and rewrites, holds and deferred stalls. -/

namespace Sys2Proof.Machine

/-! ### Maintenance commands -/

/-- R448: whether every granule of a range is populated memory of a node, a retired member's included. -/
def State.granulesIn (s : State) (n base count : Nat) : Bool :=
  match slotAt (base * 4096) with
  | none => false
  | some (m, o) =>
    decide (m = n) && decide (0 < count) && decide (o + count * 4096 ≤ s.nodeBytes n) &&
      (s.mem.unmapped.all (fun c => mcNode c != n) ||
        (List.range count).all (fun i => (s.memberAt ((base + i) * 4096)).isSome))

/-- R448 and R277: the field of MAINT_START that does not suit its activity: the offset of UNIT or PARAM. -/
def State.maintBad (s : State) (a : Activity) : Option Nat :=
  let one := ((unitRef a.unit).bind UnitRef.mc).isSome
  match a.code with
  | 0 => if a.node.isNone then some 4 else if a.param ≠ 0 then some 8 else none
  | 1 => match a.node with
    | none => some 4
    | some n => if s.granulesIn n (bitsOf a.param 0 40) (bitsOf a.param 40 24) then none else some 8
  | 2 =>
    if !one then some 4
    else if bitsOf a.param 42 22 ≠ 0 then some 8
    else none
  | 4 => if a.lane.isNone then some 4 else if a.param ≠ 0 then some 8 else none
  | 5 => match a.lane with
    | none => some 4
    | some (i, d, n) =>
      if s.courseUp i ∧ (s.courseDir i d).map.contains n = false then some 4 else if a.param ≠ 0 then some 8 else none
  | 6 => match unitRef a.unit with
    | some (.course _ _) => if 1 < a.param then some 8 else none
    | _ => some 4
  | 7 => match unitRef a.unit with
    | some (.region l) => if 12 ≤ l then some 4 else if a.param ≠ 0 then some 8 else none
    | _ => some 4
  | 8 => if !one then some 4 else if a.param ≠ 0 then some 8 else none
  | _ => if (unitRef a.unit).isNone then some 4 else if a.param ≠ 0 then some 8 else none

/-- R70: whether an activity's footprint includes a unit assigned to the secure world. -/
def State.footSecure (s : State) (a : Activity) : Bool :=
  (List.range 72).any (fun bb => s.blockSecure (bb / 6) (bb % 6) &&
    (unitWithin a.unit (blockUnit bb) || unitWithin (blockUnit bb) a.unit || a.code == 9 ||
      (bitsOf a.unit 24 8 != 0 && bitsOf a.unit 0 8 == bb / 6)))

/-- R61: whether a unit is another than the port of a mailbox on an endpoint path. -/
def State.otherUnit (s : State) (c : Caller) (unit : Nat) : Bool := (s.boxPort c.box).isSome && unitPort unit != s.boxPort c.box

/-- MAINT_START (R61, R70, R374, R448). Mirroring copies, re-syncs and firmware staging are started by their own commands. -/
def cmdMaintStart (c : Caller) (p : List Byte) (s : State) : Reply :=
  let a := newAct (leAt p 0 1) (leAt p 4 4) (leAt p 8 8) (.mailbox c.box)
  paramChecks s [(0, decide (11 < a.code) || [3, 9, 10].contains a.code), (1, decide (1 < leAt p 1 1)), rsv p 2 2] fun _ =>
    if s.otherUnit c a.unit ∨ (c.secure = false ∧ ([0, 1, 11].contains a.code = false ∨ s.footSecure a)) then .no s stDeniedWorld
    else
      match s.maintBad a with
      | some o => .bad s o
      | none =>
        if s.revokes a then .no s stInsufficient
        else
          let q := s.request (if a.code = 0 then { a with param := 0 } else a) (leAt p 1 1 == 1)
          if q.status = stOk ∨ q.status = stBusyDeferred then ⟨some ⟨q.status, 0, leBytes 4 q.id ++ leBytes 8 q.est⟩, q.state⟩
          else .no q.state q.status

/-- R70: whether a mailbox may learn of an activity. -/
def State.maySee (s : State) (c : Caller) (a : Activity) : Bool :=
  (c.secure || !(s.footSecure a)) && ((s.boxPort c.box).isNone || a.starter == .mailbox c.box)

/-- PERCENT of an activity: a patrol pass counts its lines; else the spec gives no measure of a running one (a free value). -/
def State.percent (s : State) (a : Activity) : Nat :=
  if a.state = 0 then 0
  else if a.state = 2 then 100
  else match a.code, a.node with
    | 0, some n => min 100 (100 * a.param / max 1 (s.nodeLines n))
    | _, _ => s.free.1 % 101

/-- MAINT_STATUS (R70, R376). -/
def cmdMaintStatus (c : Caller) (p : List Byte) (s : State) : Reply :=
  paramChecks s [rsv p 4 4] fun _ =>
    match s.activity (leAt p 0 4) with
    | none => .no s stNotFound
    | some a =>
      if s.maySee c a then
        let r := leBytes 1 a.state ++ leBytes 1 (s.percent a) ++ leBytes 1 (if a.code = 12 then s.free.1 % 256 else a.code) ++
          leBytes 1 a.result ++ leBytes 4 0 ++ leBytes 8 a.start ++ leBytes 8 a.stop
        .ok s.free.2 r
      else .no s stNotFound

/-- MAINT_ABORT (R70, R376). -/
def cmdMaintAbort (c : Caller) (p : List Byte) (s : State) : Reply :=
  paramChecks s [rsv p 4 4] fun _ =>
    match s.activity (leAt p 0 4) with
    | none => .no s stNotFound
    | some a =>
      if a.starter ≠ .mailbox c.box ∧ c.secure = false then .no s stNotFound
      else if 2 ≤ a.state ∨ (a.state = 1 ∧ s.isPast a) then .no s stConflict
      else if a.state = 0 then .ok (s.closeAct a.id 3 stConflict)
      else .ok (s.abortAct a)

/-- A request of a command that ends with its activity: it completes at once where the activity is refused, queued or has
ended. A site record goes on with the next; an activity of it that fails later raises what R84 asks. -/
def requestFor (c : Caller) (a : Activity) (s : State) : Reply :=
  let a := { a with cmd := c.cmd.map (fun q => (c.box, q)), asked := c.stamp, site := c.site }
  let q := s.request a true
  if q.status = stOk then
    match c.cmd with
    | some n => .later (q.state.mapTaken c.box (fun k => k.id == n) (fun k => { k with maint := some q.id }))
    | none => .ok q.state
  else if q.status = stBusyDeferred then
    let s := match q.state.activity q.id with
      | some b => q.state.setAct { b with cmd := none }
      | none => q.state
    ⟨some ⟨stBusyDeferred, 0, leBytes 4 q.id ++ leBytes 8 q.est⟩, s⟩
  else .no q.state q.status

/-- MIRROR_CHANNELS (R69, R223): two brought-up DDR5 channels of one node; the copy, or the end of mirroring. -/
def cmdMirrorChannels (c : Caller) (p : List Byte) (s : State) : Reply :=
  let a := leAt p 0 1
  let b := leAt p 1 1
  paramChecks s [(0, decide (15 < a)), (1, decide (15 < b) || a == b || a / 4 != b / 4), (2, decide (1 < leAt p 2 1)), rsv p 3 5]
    fun _ =>
    let act := { newAct 3 (mcUnit a) 0 (.mailbox c.box) with pair := b }
    let waits := s.queued.find? (fun x => x.code == 3 && x.unit == mcUnit a && x.pair == b && !x.restore)
    if leAt p 2 1 = 1 then
      match waits with
      | some x => .ok (s.closeAct x.id 3 stConflict)
      | none =>
        if lookupKey a s.mem.mirrors ≠ some b then .bad s 0
        else
          match s.running.find? (fun x => x.code == 3 && x.unit == mcUnit a && x.pair == b && !x.restore) with
          | some x => .ok (s.abortAct x)
          | none =>
            if s.fld MC_STATUS.STATE a ≠ 2 then .no s stDegraded
            else requestFor c { act with restore := true } s
    else if (s.mirrorOf a).isSome then .bad s 0
    else if (s.mirrorOf b).isSome then .bad s 1
    else if (s.nodeSet (mcNode a)).contains a = false then .bad s 0
    else if (s.nodeSet (mcNode b)).contains b = false then .bad s 1
    else if s.fld MC_STATUS.STATE a ≠ 1 ∨ s.fld MC_STATUS.STATE b ≠ 1 then .no s stDegraded
    else if s.revokes act then .no s stInsufficient
    else requestFor c act s

/-- SET_NODE_POLICY (R69, R226). A change of BOOKABLE is a trigger of R128. -/
def cmdSetNodePolicy (_ : Caller) (p : List Byte) (s : State) : Reply :=
  let n := leAt p 0 1
  paramChecks s [(0, decide (7 < n)), (1, decide (1 < leAt p 1 1)), (2, decide (168 < leAt p 2 2)), rsv p 4 4] fun _ =>
    let was := s.fld MEM_NODE.BOOKABLE n
    let s' := s.set MEM_NODE.BOOKABLE n (leAt p 1 1)
    if State.wouldRevoke s' [n] then .no s stInsufficient
    else
      let s' := s'.set MEM_NODE.PATROL_H n (leAt p 2 2)
      .ok ((if was = leAt p 1 1 then s' else s'.trigger [n] (leAt p 1 1 == 1)).nextPatrol n)

/-- The units that RETIRE and RESTORE_UNIT take (R71): the activity that runs them, or none where they act at once. -/
def retireCode (u : UnitRef) : Option (Option Nat) :=
  match u with
  | .course _ _ => some (some 6)
  | .region l => if l < 12 then some (some 7) else none
  | .cell l 5 _ => if 12 ≤ l ∧ l < 16 then some none else if l < 12 then some (some 12) else none
  | .cell l 6 _ => if 12 ≤ l ∧ l < 16 then some none else none
  | _ => if u.core.isSome ∨ u.coreBlock.isSome then some (some 12) else if u.mc.isSome then some (some 8) else none

/-- R71: a port or a package link is retired, or returns, at once. -/
def State.retireAtOnce (s : State) (u : UnitRef) (back : Bool) : State :=
  match u with
  | .cell l 5 k =>
    let p := 2 * (l - 12) + k
    if back then { s with units := { s.units with portDown := s.units.portDown.filter (fun x => x != p) } }
    else ({ s with units := { s.units with portDown := s.units.portDown ++ [p] } }).retiredEvent (portColl p).unit
  | .cell l _ k =>
    let j := 2 * (l - 12) + k
    if back then { s with units := { s.units with linkDown := s.units.linkDown.filter (fun x => x != j) } }
    else (({ s with units := { s.units with linkDown := s.units.linkDown ++ [j] } }).dropLink j 0).retiredEvent
      (linkColl j).unit
  | _ => s

/-- RETIRE (R71). -/
def cmdRetire (c : Caller) (p : List Byte) (s : State) : Reply :=
  let unit := leAt p 0 4
  paramChecks s [(0, ((unitRef unit).bind retireCode).isNone), (4, decide (1 < leAt p 4 1)), rsv p 5 3] fun _ =>
    match unitRef unit with
    | none => .bad s 0
    | some u =>
      if s.unitOut u then .ok s
      else
        match retireCode u with
        | some (some code) =>
          let a := { newAct code unit 0 (.mailbox c.box) with force := leAt p 4 1 == 1, pair := flag (code == 6) }
          if a.force = false ∧ s.revokes a then .no s stInsufficient else requestFor c a s
        | _ => .ok (s.retireAtOnce u false)

/-- RESTORE_UNIT (R71). -/
def cmdRestoreUnit (c : Caller) (p : List Byte) (s : State) : Reply :=
  let unit := leAt p 0 4
  paramChecks s [(0, ((unitRef unit).bind retireCode).isNone), rsv p 4 4] fun _ =>
    match unitRef unit with
    | none => .bad s 0
    | some u =>
      if s.unitOut u = false then .ok s
      else if s.containerOut u then .no s stDegraded
      else
        match retireCode u with
        | some (some code) =>
          requestFor c { newAct code unit 0 (.mailbox c.box) with restore := true, pair := flag (code == 6) } s
        | _ => .ok (s.retireAtOnce u true)

/-! ### Fault commands (R72, R359, R360, R366) -/

/-- R363: the 64 bytes of a fault record. -/
def FaultRec.bytes (r : FaultRec) : List Byte :=
  leBytes 8 r.seq ++ leBytes 8 r.stamp ++ leBytes 4 r.unit ++ leBytes 1 r.bit ++ leBytes 1 r.sev ++ leBytes 1 r.verdict ++
    leBytes 1 r.action ++ leBytes 2 r.level ++ leBytes 2 r.thr ++ leBytes 1 r.count ++ leBytes 1 r.rflags ++
    leBytes 2 r.elem ++ leBytes 8 r.addr ++ (r.detail ++ leBytes 24 0).take 24

/-- FAULT_LOG_READ (R72): NEXT_SEQ is the number to read on from. A normal-world mailbox reads no record of a unit that was or is
secure-assigned. DESIGN CHOICE (log 43): FIRST_SEQ 0 asks for the oldest record, so LOST reads 0. -/
def cmdFaultLogRead (c : Caller) (p : List Byte) (s : State) : Reply :=
  let first := leAt p 0 8
  let n := leAt p 8 1
  paramChecks s [(8, n == 0 || decide (3 < n)), rsv p 9 7] fun _ =>
    let oldest := (s.faults.recs.head?.map FaultRec.seq).getD s.faults.nextSeq
    let from_ := max first oldest
    let mine := (s.faults.recs.filter (fun r => decide (from_ ≤ r.seq) && (c.secure || (r.rflags % 2 == 0 && !s.unitSecure r.unit)))).take n
    let next := if mine.length = n then (mine.getLast?.map (fun r => r.seq + 1)).getD from_ else max from_ s.faults.nextSeq
    .ok s (leBytes 8 next ++ leBytes 1 mine.length ++ leBytes 1 (flag (decide (first < oldest) && first != 0)) ++ leBytes 6 0 ++
      (mine.map FaultRec.bytes).flatten ++ leBytes (192 - 64 * mine.length) 0)

/-- The bucket of a lane: its collector, source bit and element. -/
def laneBucket (u : Nat) : Option (Coll × Nat × Nat) :=
  match unitRef u with
  | some (.lane b c n d) => some (.region b, 11 + c, n + 128 * d)
  | _ => none

/-- R365: a bucket whose period changes takes the leaks that the old period set before this stamp and starts its schedule anew: one element's,
or the source's with those of the lanes that have no setting of their own. -/
def State.restartBucket (s : State) (c : Coll) (b : Nat) (e : Option Nat) (old : Nat) : State :=
  let now := s.stampIn c.home
  let i := srcIdx c b
  let anew := fun (q : ElemBucket) => { q.leak (now - 1) old with start := now }
  let mine := fun (q : ElemBucket) => q.coll == c && q.bit == b && (match e with
    | none => (lookupKey (i * 256 + q.elem) s.faults.lanes).isNone
    | some x => q.elem == x)
  let s := if e.isNone then s.leakSource c b (now - 1) old else s
  let starts := if e.isNone && s.fld FLT_SRC.LEVEL i != 0 then nput s.faults.starts i now else s.faults.starts
  let s : State := { s with faults := { s.faults with starts := starts, elems := s.faults.elems.map (fun q => if mine q then anew q else q) } }
  if (c.source b).map Source.elem = some .none then s else s.elemReport c b

/-- The record of a safe-state reaction that SET_SEVERITY starts (R360, R369, R445). -/
def State.raisedRecord (s : State) (c : Coll) (b : Nat) (d : Source) : State :=
  let e : FaultEvt := { coll := c, bit := b, action := if s.is CHIP_SAFE.SAFE 0 then 0 else 10 }
  s.addPend ⟨e, s.stb, 3, if d.thr = 0 then 2 else 0, e.action, s.fld FLT_SRC.LEVEL (srcIdx c b), s.fld FLT_SRC.THRESHOLD (srcIdx c b), 1,
    s.recFlags e, false⟩

/-- SET_SEVERITY (R72, R360, R366). A latched bit made FATAL is so at once, until it is cleared. -/
def cmdSetSeverity (_ : Caller) (p : List Byte) (s : State) : Reply :=
  let unit := leAt p 0 4
  let b := leAt p 4 1
  let sev := leAt p 5 1
  let thr := leAt p 6 2
  let leak := leAt p 8 4
  match laneBucket unit with
  | some (c, bit, e) =>
    paramChecks s [rsv p 12 4] fun _ =>
      let old := s.elemCfg c bit e
      let new := (if thr = 0 then old.1 else thr, if leak = 0 then old.2 else leak)
      let s := { s with faults := { s.faults with lanes := nput s.faults.lanes (srcIdx c bit * 256 + e) new } }
      .ok (if leak = 0 ∨ leak = old.2 then s else s.restartBucket c bit (some e) old.2)
  | none =>
    match (unitRef unit).bind UnitRef.coll with
    | none => .bad s 0
    | some c =>
      match c.source b with
      | none => .bad s 4
      | some d =>
        paramChecks s [(4, decide (63 < b) || d.fixed), (5, decide (3 < sev)), (6, d.thr == 0 && (thr != 0 || leak != 0)), rsv p 12 4]
          fun _ =>
          let fatal := s.latched c b && sev == 3 && s.latchSev c b != 3
          let s := s.setSev c b sev
          let s := if thr = 0 ∨ d.settable = false then s else s.set FLT_SRC.THRESHOLD (srcIdx c b) thr
          let was := s.fld FLT_SRC.LEAK_MS (srcIdx c b)
          let s := if leak = 0 ∨ leak = was ∨ d.settable = false then s
            else (s.set FLT_SRC.LEAK_MS (srcIdx c b) leak).restartBucket c b none was
          if s.latched c b then
            let s := if fatal then
                ({ s with faults := { s.faults with latched := nput s.faults.latched (srcIdx c b) 3 } }).raisedRecord c b d
              else s
            .ok (s.driveAll c s.stb)
          else .ok s

/-- FAULT_CLEAR (R61, R72, R359, R366, R370). -/
def cmdFaultClear (c : Caller) (p : List Byte) (s : State) : Reply :=
  let unit := leAt p 0 4
  let b := leAt p 4 1
  let empty := leAt p 5 1 % 2 == 1
  match laneBucket unit with
  | some (k, bit, e) =>
    paramChecks s [(5, decide (1 < leAt p 5 1)), rsv p 6 2] fun _ =>
      if s.otherUnit c unit then .no s stDeniedWorld
      else if empty then
        let s := { s with faults := { s.faults with elems := s.faults.elems.filter (fun q =>
          !(q.coll == k && q.bit == bit && q.elem == e)) } }
        .ok (s.elemReport k bit)
      else .ok s
  | none =>
    match (unitRef unit).bind UnitRef.coll with
    | none => .bad s 0
    | some k =>
      paramChecks s [(4, decide (63 < b) || (k.source b).isNone), (5, decide (1 < leAt p 5 1)), rsv p 6 2] fun _ =>
        if s.otherUnit c unit ∨ (c.secure = false ∧ ((s.latched k b ∧ s.latchSev k b = 3) ∨ (k = .chip ∧ b = 40) ∨ s.unitSecure unit)) then
          .no s stDeniedWorld
        else
          let s := if empty then s.emptyBucket k b else s
          .ok (s.unlatch k b)

/-! ### The commands' rows -/

/-- Runs a command core as a row. -/
def rowCommand (t : Stamp) (m op : Nat) (f : Caller → List Byte → State → Reply) (s : State) : Res :=
  liveS t s (runCommand m op (fun _ => true) f)

/-- SET_NODE_POLICY (R69). -/
def execSetNodePolicy (t : Stamp) (m : Nat) (s : State) : Res := rowCommand t m 0x0403 cmdSetNodePolicy s
/-- MIRROR_CHANNELS (R223). -/
def execMirrorChannels (t : Stamp) (m : Nat) (s : State) : Res := rowCommand t m 0x0404 cmdMirrorChannels s
/-- MAINT_START (R374). -/
def execMaintStart (t : Stamp) (m : Nat) (s : State) : Res := rowCommand t m 0x0500 cmdMaintStart s
/-- MAINT_STATUS (R70). -/
def execMaintStatus (t : Stamp) (m : Nat) (s : State) : Res := rowCommand t m 0x0501 cmdMaintStatus s
/-- MAINT_ABORT (R376). -/
def execMaintAbort (t : Stamp) (m : Nat) (s : State) : Res := rowCommand t m 0x0502 cmdMaintAbort s
/-- RETIRE (R71). -/
def execRetire (t : Stamp) (m : Nat) (s : State) : Res := rowCommand t m 0x0503 cmdRetire s
/-- RESTORE_UNIT (R71). -/
def execRestoreUnit (t : Stamp) (m : Nat) (s : State) : Res := rowCommand t m 0x0504 cmdRestoreUnit s
/-- FAULT_LOG_READ (R72). -/
def execFaultLogRead (t : Stamp) (m : Nat) (s : State) : Res := rowCommand t m 0x0600 cmdFaultLogRead s
/-- SET_SEVERITY (R360). -/
def execSetSeverity (t : Stamp) (m : Nat) (s : State) : Res := rowCommand t m 0x0601 cmdSetSeverity s
/-- FAULT_CLEAR (R359). -/
def execFaultClear (t : Stamp) (m : Nat) (s : State) : Res := rowCommand t m 0x0602 cmdFaultClear s

end Sys2Proof.Machine
end

