-- ==== Sys2Proof/Machine/AlmanacRows.lean ====
section
/-! DEFINITION. The rows of discovery (R63), bookings (R64 to R66) and service settings (R67), and the Almanac's own: recompute,
metering and queue levels (R124, R126, R129). -/

namespace Sys2Proof.Machine

/-! ### Discovery -/

/-- HBM of GET_INFO: the vendor, GiB and state of a stack. -/
def State.stackInfo (s : State) (q : Nat) : List Byte :=
  let v := match s.board with
    | some b => ((lookupKey q b.hbmStacks).map Stack.vendor).getD 0
    | none => 0
  leBytes 2 v ++ leBytes 1 (s.fld MEM_NODE.CAPACITY q / 4) ++ leBytes 1 (s.fld MEM_NODE.STATE q)

/-- DDR_PRESENT of GET_INFO. -/
def State.dimmMask (s : State) : Nat :=
  match s.board with
  | some b => ((List.range 16).map (fun c => if (lookupKey c b.dimms).isSome then 2 ^ c else 0)).sum
  | none => 0

/-- SAVE_DIE of GET_INFO: the save-store die's capacity and its state, retired once the store has failed (R367, R403). -/
def State.saveInfo (s : State) : List Byte :=
  let mib := if s.board.any Board.saveStore then 512 else 0
  leBytes 2 mib ++ leBytes 1 (if mib = 0 then 0 else if s.is NF_STATUS.STORE_FAILED 0 then 3 else 1) ++ leBytes 1 0

/-- GET_INFO (R63). -/
def cmdGetInfo (_ : Caller) (_ : List Byte) (s : State) : Reply :=
  .ok s (leBytes 8 (s.word .CHIP_ID 0 0).toNat ++ leBytes 8 (s.word .DIE_ID 0 0).toNat ++ leBytes 4 s.fw.version ++
    leBytes 1 (s.fld BOOT_STATUS.IMAGE 0) ++ leBytes 1 (flag s.fw.site) ++ leBytes 2 0 ++
    ((List.range 4).map s.stackInfo).flatten ++ s.saveInfo ++ leBytes 2 s.dimmMask ++ leBytes 2 0 ++ leBytes 8 s.stb)

/-- GET_CAPS (R63). -/
def cmdGetCaps (_ : Caller) (_ : List Byte) (s : State) : Reply :=
  .ok s (leBytes 8 (s.word .CHIP_CAP_EFFECTIVE 0 0).toNat ++
    ((List.range 13).map (fun d => leBytes 8 (s.word .DIE_CAP d 0).toNat)).flatten ++ leBytes 2 (s.fld CHIP_ID.BRICK_UP 0))

/-- A mask of the numbers below `n` that satisfy `p`, as `k` bytes. -/
def maskBytes (k n : Nat) (p : Nat → Bool) : List Byte :=
  leBytes k (((List.range n).map (fun i => if p i then 2 ^ i else 0)).sum)

/-- Section 0 of GET_TOPOLOGY: the cores in service, the secure blocks and the courses. -/
def State.coreTopology (s : State) : List Byte :=
  maskBytes 36 288 s.coreUp ++ maskBytes 9 72 (fun i => s.blockSecure (i / 6) (i % 6)) ++
    ((List.range 12).map (fun b =>
      leBytes 1 (((List.range 4).map (fun c => s.fld CRS_STATUS.WIDTH (4 * b + c) * 4 ^ c)).sum))).flatten

/-- Section 1: the memory nodes. -/
def State.nodeTopology (s : State) : List Byte :=
  ((List.range 8).map (fun n =>
    leBytes 1 (s.fld MEM_NODE.STATE n) ++ leBytes 1 0 ++ leBytes 2 (s.fld MEM_NODE.MASK n) ++
      leBytes 4 (s.fld MEM_NODE.CAPACITY n / 4) ++ leBytes 4 (s.fld ALM_CAP.BOOKABLE n) ++ leBytes 4 0)).flatten

/-- The lanes of a width code of PCIE_LINK. -/
def laneCount (w : Nat) : Nat := if w = 0 then 0 else 2 ^ (w - 1)

/-- GT/s of a speed code of PCIE_LINK. The spec does not say how 2.5 GT/s is told in a byte (log 8). -/
def rateByte (code : Nat) (s : State) : Nat × State :=
  match code with
  | 0 => (0, s)
  | 1 => s.free
  | 2 => (5, s)
  | 3 => (8, s)
  | 4 => (16, s)
  | 5 => (32, s)
  | _ => (64, s)

/-- Section 2: the ports. Width, rate and state are those of the port's first link; a retired port's link is down. -/
def portTopology : List Nat → State → List Byte × State
  | [], s => ([], s)
  | p :: r, s =>
    let link := fun (x : Fld) => if s.units.portDown.contains p then 0 else s.fld x (linkIdx p 0)
    let q := rateByte (link PCIE_LINK.SPEED) s
    let one := leBytes 1 (match s.portRole p with
      | 1 => 1
      | 2 => 2
      | _ => 0) ++ leBytes 1 (laneCount (link PCIE_LINK.WIDTH)) ++ leBytes 1 q.1 ++
      leBytes 1 (link PCIE_LINK.STATE) ++ leBytes 4 0
    let t := portTopology r q.2
    (one ++ t.1, t.2)

/-- Section 3: the package links. -/
def State.linkTopology (s : State) : List Byte :=
  ((List.range 8).map (fun l =>
    let w := s.fld LINK_STATUS.WIDTH l
    leBytes 1 (s.fld LINK_STATUS.STATE l) ++ leBytes 1 (if w = 0 then 0 else 2 ^ w) ++
      leBytes 2 (s.fld LINK_STATUS.PEER l) ++ leBytes 4 0)).flatten

/-- GET_TOPOLOGY (R63). -/
def cmdGetTopology (_ : Caller) (p : List Byte) (s : State) : Reply :=
  paramChecks s [(0, decide (3 < leAt p 0 1)), rsv p 1 7] fun _ =>
    match leAt p 0 1 with
    | 0 => .ok s s.coreTopology
    | 1 => .ok s s.nodeTopology
    | 2 =>
      let q := portTopology (List.range 8) s
      .ok q.2 q.1
    | _ => .ok s s.linkTopology

/-- GET_INFO (R63). -/
def execGetInfo (t : Stamp) (m : Nat) (s : State) : Res := rowCommand t m 0x0000 cmdGetInfo s
/-- GET_CAPS (R63). -/
def execGetCaps (t : Stamp) (m : Nat) (s : State) : Res := rowCommand t m 0x0001 cmdGetCaps s
/-- GET_TOPOLOGY (R63). -/
def execGetTopology (t : Stamp) (m : Nat) (s : State) : Res := rowCommand t m 0x0002 cmdGetTopology s

/-! ### Bookings and service settings -/

/-- BOOK (R116). -/
def execBook (t : Stamp) (m : Nat) (s : State) : Res := rowCommand t m 0x0100 cmdBook s
/-- UNBOOK (R65, R120). -/
def execUnbook (t : Stamp) (m : Nat) (s : State) : Res := rowCommand t m 0x0101 cmdUnbook s
/-- QUERY_BOOKINGS (R66). -/
def execQueryBookings (t : Stamp) (m : Nat) (s : State) : Res := rowCommand t m 0x0102 cmdQueryBookings s
/-- QUERY_CAPACITY (R446). -/
def execQueryCapacity (t : Stamp) (m : Nat) (s : State) : Res := rowCommand t m 0x0103 cmdQueryCapacity s
/-- SET_PRECEDENCE (R64). -/
def execSetPrecedence (t : Stamp) (m : Nat) (s : State) : Res := rowCommand t m 0x0104 cmdSetPrecedence s
/-- DEFINE_CLASS (R67). -/
def execDefineClass (t : Stamp) (m : Nat) (s : State) : Res := rowCommand t m 0x0200 cmdDefineClass s
/-- DEFINE_GROUP (R67). -/
def execDefineGroup (t : Stamp) (m : Nat) (s : State) : Res := rowCommand t m 0x0201 cmdDefineGroup s
/-- BIND_CHANNEL (R67). -/
def execBindChannel (t : Stamp) (m : Nat) (s : State) : Res := rowCommand t m 0x0202 cmdBindChannel s
/-- LOCK_CHANNELS (R67). -/
def execLockChannels (t : Stamp) (m : Nat) (s : State) : Res := rowCommand t m 0x0203 cmdLockChannels s
/-- RELEASE_GROUP (R67). -/
def execReleaseGroup (t : Stamp) (m : Nat) (s : State) : Res := rowCommand t m 0x0204 cmdReleaseGroup s

/-! ### The Almanac -/

/-- RECOMPUTE (R129 to R135): the recompute of the triggers that wait ends at T. -/
def execRecompute (t : Stamp) (s : State) : Res := liveS t s State.recompute

/-- R124: a request in flight passes its metering point: this is its issue stamp. -/
def State.meter (s : State) (i : Nat) (p : Pkt) (n : Nat) : State :=
  let q := s.takeUnits p n
  { q.2 with fab := { q.2.fab with net := q.2.fab.net.modify i (fun f =>
      { f with pkt := { f.pkt with standing := q.1, issued := some s.stb } }) } }

/-- R124: the requests of one tag that have come to a metering point in the ring cycle in which this one has, and are still to pass it. -/
def State.meterRivals (s : State) (f : Flight) : List Flight :=
  s.fab.net.filter (fun g => g.pkt.unmetered && g.point == f.point && g.pkt.tag == f.pkt.tag && ringCycles g.since == ringCycles f.since)

/-- METERING (R124): a packet of booked standing passes its metering point, in the order of R21 among those of its tag and cycle. -/
def execMetering (t : Stamp) (p : Pkt) (s : State) : Res :=
  live t s (fun s =>
    match meterNode p, s.fab.net.findIdx? (fun f => f.pkt == p && f.pkt.unmetered && f.point.isSome) with
    | some n, some i =>
      match s.fab.net[i]? with
      | none => s
      | some f =>
        let k := 2000 + f.point.getD 0
        let turn := turnRank (s.turn k) f.pointSource
        if (s.meterRivals f).any (fun g => decide (turnRank (s.turn k) g.pointSource < turn)) then s
        else (s.meter i p n).setTurn k f.pointSource
    | _, _ => s)

/-- QUEUE_LEVEL_CHANGE (R126): the new level of a controller's queue comes to the metering points, which hold and release by it (`heldBack`). -/
def execQueueLevelChange (t : Stamp) (c : Nat) (level : Nat) (s : State) : Res :=
  live t s (fun s =>
    if c < 80 ∧ level = s.queueLevel (queueOf c) then { s with mem := { s.mem with heard := nputd s.mem.heard c level 0 } } else s)

/-! ### Frames (R118 to R123) -/

/-- R120: an UNBOOK takes effect: its booking is honoured for the ops of its tag admitted before, or leaves at once. -/
def State.unbooked (s : State) (b : Booking) : Booking :=
  let os := s.opsBefore b.tag b.leave
  { b with honoured := !os.isEmpty, honourEnd := if os.isEmpty then 0 else nextMeridian (latestDeadline os) }

/-- R120 and R132: what becomes of a booking at the meridian that opens the present frame. -/
def State.bookingAt (s : State) (b : Booking) : Booking :=
  if b.revoked = 0 ∧ b.unbookFrame ≠ 0 ∧ b.unbookFrame ≤ frameOf s.stb ∧ b.honoured = false then s.unbooked b
  else if b.honoured ∧ b.honourEnd ≤ s.stb then { b with honoured := false }
  else b

/-- R118, R120 and R132: UNBOOKs take effect, and honoured bookings and moved shares leave; the capacities and tags that this changes are
written anew. -/
def State.turnBookings (s : State) : State :=
  let changed := s.alm.books.filter (fun b => s.bookingAt b != b || (b.unbookFrame != 0 && decide (b.unbookFrame ≤ frameOf s.stb)))
  let gone := s.alm.olds.filter (fun x => decide (x.leave ≤ s.stb))
  let s : State := { s with alm := { s.alm with books := s.alm.books.map s.bookingAt,
                                                olds := s.alm.olds.filter (fun x => decide (s.stb < x.leave)) } }
  let s := s.dropGone
  let res := ((changed.map Booking.touches).flatten ++ gone.map (fun x => 116 + s.fld DSP_CORE.GROUP x.core)).eraseDups
  (changed.map Booking.tag).eraseDups.foldl State.refreshTag (res.foldl State.refreshCap s)

/-- R104 and R118 to R123: locks, bookings, meters and slot masks as the present frame has them. -/
def State.turnFrame (s : State) : State := ((s.lockTwins.turnBookings).loadMeters).loadMasks

/-- R100: after a step of the STB that lands inside a frame, that frame's bookings are in force. -/
def State.landed (s before : State) : State :=
  if frameOf before.stb < frameOf s.stb ∧ s.stb % 32768 ≠ 0 then s.turnFrame else s

end Sys2Proof.Machine
end

