-- ==== Sys2Proof/Machine/PowerOps.lean ====
section
/-! DEFINITION. Power: committed ceilings and capping (R392, R394), rails (R389, R390), per-frame ceilings (R393), domains and their holds
(R384), and the idle state (R386). -/

namespace Sys2Proof.Machine

/-! ### Committed ceilings -/

/-- The bricks' core block domains: 6 × brick + block. -/
def domains : List Nat := List.range 72

/-- A temperature of 16 bits in 1/16 °C. -/
def celsius16 (v : Nat) : Int := if v % 65536 < 32768 then (v % 65536 : Nat) else ((v % 65536 : Nat) : Int) - 65536

/-- R392: f_c of LIMIT_W in steps of 25 MHz. -/
def limitSteps (w : Nat) : Nat := 16 + 2200 * (w - 200) / 20000

/-- The level that a cause of capping holds a domain at, if it does. -/
def State.capOf (s : State) (cause d : Nat) : Option Nat := lookupKey (72 * cause + d) s.pow.caps

/-- R392 and R394: f_c of a domain. -/
def State.fcOf (s : State) (d : Nat) : Nat :=
  (List.range 5).foldl (fun f c => match s.capOf c d with
    | some v => min f v
    | none => f) (limitSteps (s.fld PPM_STATUS.LIMIT_W 0))

/-- PPM_CEIL.COMMITTED and CAUSE bits 1 to 3 of every domain. -/
def State.refreshCeil (s : State) : State :=
  domains.foldl (fun (s : State) d =>
    let on := fun (c : Nat) => flag (s.capOf c d).isSome
    let cause := s.fld PPM_CEIL.CAUSE d % 2 + 2 * max (on 0) (on 4) + 4 * on 1 + 8 * on 2
    (s.set PPM_CEIL.COMMITTED d (s.fcOf d)).set PPM_CEIL.CAUSE d cause) s

/-- The ALM_CAP entries of the groups that hold a core of some domains. -/
def State.domainRes (s : State) (ds : List Nat) : List Nat :=
  (s.svc.groups.filter (fun q => q.2.cores.any (fun c => ds.contains (c / 4)))).map (fun q => 116 + q.1)

/-- Sets the level of a cause for some domains: the committed ceilings follow, and a trigger of R128. -/
def State.setCaps (s : State) (cause : Nat) (ds : List Nat) (f : State → Nat → Option Nat) (up : Bool) : State :=
  let s' := ds.foldl (fun (t : State) d => ({ t with pow := { t.pow with caps := match f s d with
    | some v => nput t.pow.caps (72 * cause + d) v
    | none => dropKey (72 * cause + d) t.pow.caps } } : State)) s
  let s' := s'.refreshCeil
  s'.trigger (s'.domainRes ds) up

/-- R394: f_c of some domains falls by 100 MHz, to no less than 400 MHz. -/
def State.lowerFc (s : State) (cause : Nat) (ds : List Nat) : State :=
  s.setCaps cause ds (fun s d => some (max 16 (s.fld PPM_CEIL.COMMITTED d - 4))) false

/-- R394: f_c of the domains that a cause holds rises by 100 MHz, to no more than that of R392. -/
def State.raiseFc (s : State) (cause : Nat) (ds : List Nat) : State :=
  let ds := ds.filter (fun d => (s.capOf cause d).isSome)
  if ds.isEmpty then s
  else s.setCaps cause ds (fun s d =>
    let v := (s.capOf cause d).getD 0 + 4
    if limitSteps (s.fld PPM_STATUS.LIMIT_W 0) ≤ v then none else some v) true

/-- The domains of a brick. -/
def brickDomains (b : Nat) : List Nat := (List.range 6).map (fun k => 6 * b + k)

/-- The rail of a domain's cores: 0 VCORE_L, 1 VCORE_H. -/
def railOf (d : Nat) : Nat := if d < 36 then 0 else 1

/-- The domains of a rail. -/
def railDomains (r : Nat) : List Nat := domains.filter (fun d => railOf d == r)

/-! ### Rails (R390) -/

/-- A rail of the AVSBus; at start the voltage of a ceiling of 2,600 MHz is set. -/
def State.rail (s : State) (r : Nat) : Rail := nget s.pow.rails r ⟨104, 104, 0, false, none, []⟩

/-- Sets a rail. -/
def State.setRail (s : State) (r : Nat) (x : Rail) : State := { s with pow := { s.pow with rails := nput s.pow.rails r x } }

/-- The highest ceiling among the domains of a rail. -/
def State.railTop (s : State) (r : Nat) : Nat :=
  ((railDomains r).map (fun d => max (s.fld PPM_CEIL.CEILING d) (s.fld PPM_CEIL.COMMITTED d))).foldl max 0

/-- The voltage of a rail for a level: for VCACHE and VKS the level is a temperature band. -/
def railVolts (r level : Nat) : Nat := (if r < 2 then Config.railMv r level else Config.bandMv r level) % 65536

/-- Sends a request to the regulator of a rail. -/
def State.sendRail (s : State) (r level : Nat) : State :=
  ((s.set PPM_RAIL.REQ_MV r (railVolts r level)).set PPM_RAIL.PENDING r 1).emit .avs [r, railVolts r level]

/-- R390: asks for the voltage of a level, which a command may await beside those that wait already; none is asked for after a Nightfall
trigger. -/
def State.askRail (s : State) (r level : Nat) (caller : Option (Nat × Nat)) : State :=
  if s.nf.triggered then s
  else (s.setRail r { s.rail r with asked := level, stamp := s.stb, late := false, retry := none,
                                    callers := (s.rail r).callers ++ caller.toList }).sendRail r level

/-! ### POWER_LIMIT (R77, R392) -/

/-- Sets the limits of a POWER_LIMIT payload. -/
def State.withLimit (s : State) (p : List Byte) : State :=
  let w := leAt p 0 2
  let s := s.set PPM_STATUS.LIMIT_W 0 w
  let top : Int := ((leAt p 2 2 - w) * leAt p 4 2 * 1000000 : Nat)
  ({ s with pow := { s.pow with peakW := leAt p 2 2, peakMs := leAt p 4 2, allowance := min s.pow.allowance top } }).refreshCeil

/-- A POWER_LIMIT takes effect: it is a trigger of R128. -/
def State.applyLimit (s : State) (p : List Byte) : State :=
  let old := limitSteps (s.fld PPM_STATUS.LIMIT_W 0)
  let s := s.withLimit p
  s.trigger (s.domainRes domains) (decide (old ≤ limitSteps (leAt p 0 2)))

/-- The highest committed ceiling among the domains of a rail that `p` picks. -/
def State.railCommitted (s : State) (r : Nat) (p : Nat → Bool) : Nat :=
  ((railDomains r).filter p).foldl (fun m d => max m (s.fld PPM_CEIL.COMMITTED d)) 0

/-- The rails on which new committed ceilings need a voltage that is not yet acknowledged. -/
def State.needsRail (s after : State) : List Nat :=
  [0, 1].filter (fun r => decide ((s.rail r).level < after.railCommitted r (fun _ => true)))

/-- POWER_LIMIT. -/
def cmdPowerLimit (c : Caller) (p : List Byte) (s : State) : Reply :=
  let w := leAt p 0 2
  let force := (leAt p 6 1).testBit 0
  paramChecks s [(0, decide (w < 200) || decide (1000 < w)), (2, decide (leAt p 2 2 < w) || decide (1250 < leAt p 2 2)),
      (4, decide (10 < leAt p 4 2)), (6, decide (1 < leAt p 6 1)), rsv p 7 1] fun _ =>
    if force ∧ c.secure = false then .no s stDeniedWorld
    else
      let after := s.withLimit p
      if State.wouldRevoke after (s.domainRes domains) ∧ force = false then .no s stInsufficient
      else
        match s.needsRail after, c.cmd with
        | [], _ => .ok (s.applyLimit p)
        | _, none => .ok (s.applyLimit p)
        | rs, some n => .later (rs.foldl (fun s r => s.askRail r (after.railCommitted r (fun _ => true)) (some (c.box, n))) s)

/-! ### Votes (R77, R326, R327, R384) -/

/-- The PWR_DOMAIN.SVOTE of a domain follows its secure vote. Setting the vote clears GATE on the blocks it holds (R327). -/
def State.setSvote (s : State) (i : Nat) (on : Bool) : State :=
  let s := (s.set WLD_BLK_SEC.SVOTE i (flag on)).set PWR_DOMAIN.SVOTE i (flag on)
  if on then
    (if i < 136 then [i] else (List.range 8).map (fun b => 8 * (i - 136) + b)).foldl
      (fun (s : State) j => if s.is BLK_CLK_CTRL.GATE j then s.set BLK_CLK_CTRL.GATE j 0 else s) s
  else s

/-- The blocks of a domain whose clock is gated as one. -/
def State.voteClock (s : State) (i clock : Nat) (secure : Bool) : State :=
  match clock with
  | 1 => if s.blkHeld i then (if secure then s.set WLD_BLK_SEC.SGATE i 1 else s) else s.set BLK_CLK_CTRL.GATE i 1
  | 2 =>
    if secure then (s.set WLD_BLK_SEC.SGATE i 0).set BLK_CLK_CTRL.GATE i 0
    else if s.blkHeld i then s else s.set BLK_CLK_CTRL.GATE i 0
  | _ => s

/-- A mailbox's vote on a domain. -/
def State.setVote (s : State) (i m : Nat) (on : Bool) : State :=
  let v := s.fld PWR_DOMAIN.VOTES i
  s.set PWR_DOMAIN.VOTES i (if on then withBit v m else withoutBit v m)

/-- The place of the domain that SET_VOTE_POLICY names; 153 where it names none. -/
def votePlace (p : List Byte) : Nat := ((unitRef (leAt p 0 4)).bind domainIdx).getD 153

/-- A vote of a mailbox takes effect on a block or region. -/
def State.applyVote (s : State) (m : Nat) (p : List Byte) : State :=
  let i := votePlace p
  let on := leAt p 4 1 == 1
  let s := s.setVote i m on
  let s := if m < 4 then s.setSvote i on else s
  s.voteClock i (leAt p 5 1) (decide (m < 4))

/-- A core block domain that a vote on place `i` powers or clocks. -/
def voted (i d : Nat) : Bool := decide (i = 8 * (d / 6) + d % 6) || decide (i = 136 + d / 6)

/-- R390: the rails whose acknowledged voltage does not yet carry the committed ceiling of a domain that a vote powers or clocks. -/
def State.voteRails (s : State) (p : List Byte) : List Nat :=
  if leAt p 4 1 = 1 ∨ leAt p 5 1 = 2 then
    [0, 1].filter (fun r => decide ((s.rail r).level < s.railCommitted r (voted (votePlace p))))
  else []

/-! ### What the regulators answer -/

/-- A command that awaited a rail goes on: once none of its rails is pending, it takes effect. -/
def State.railDone (s : State) (caller : Nat × Nat) : State :=
  if [0, 1].any (fun r => (s.rail r).callers.contains caller) then s
  else
    match (s.box caller.1).taken.find? (fun k => k.id == caller.2 && k.ran && k.final.isNone) with
    | some k =>
      (if k.opcode = 0x0B02 then s.applyVote caller.1 k.payload else s.applyLimit k.payload).finish caller.1 caller.2 ⟨stOk, 0, []⟩
    | none => s

/-- A rail goes back to the voltage it has, and nothing waits for it. -/
def State.railBack (s : State) (r : Nat) : State :=
  let x := s.rail r
  (s.set PPM_RAIL.PENDING r 0).setRail r { x with asked := x.level, callers := [], retry := none, late := false }

/-- A command no longer awaits its rails, and a rail that no other command awaits keeps its voltage. -/
def State.railForget (s : State) (caller : Nat × Nat) : State :=
  [0, 1].foldl (fun (s : State) r =>
    let x := s.rail r
    if x.callers.contains caller = false then s
    else
      let cs := x.callers.filter (fun c => c != caller)
      if cs.isEmpty then s.railBack r else s.setRail r { x with callers := cs }) s

/-- A regulator acknowledges a request. -/
def State.railAck (s : State) (r : Nat) : State :=
  if s.fld PPM_RAIL.PENDING r = 0 then s
  else
    let x := s.rail r
    let s := (s.set PPM_RAIL.PENDING r 0).set PPM_RAIL.ACK_MV r (s.fld PPM_RAIL.REQ_MV r)
    let s := s.setRail r { x with level := x.asked, late := false, retry := none, callers := [] }
    x.callers.foldl State.railDone s

/-- An acknowledgement is missing after 500 µs: the commands that await it end with ST_TIMEOUT, and the previous voltage is kept (R62,
R77); any other request is made again 1 ms later. -/
def State.railLate (s : State) (r : Nat) : State :=
  let x := s.rail r
  if s.fld PPM_RAIL.PENDING r = 0 ∨ x.retry.isSome ∨ s.stb < x.stamp + usTicks 500 then s
  else
    let s := (s.set PPM_RAIL.TIMEOUT r 1).raise { coll := .chip, bit := 35 }
    if x.callers.isEmpty then s.setRail r { x with late := true, retry := some (s.stb + msTicks 1) }
    else x.callers.foldl (fun (s : State) c => (s.railForget c).finish c.1 c.2 ⟨stTimeout, 0, []⟩) s

/-- An unacknowledged request is made again. -/
def State.railRetry (s : State) (r : Nat) : State :=
  let x := s.rail r
  match x.retry with
  | some t => if t ≤ s.stb ∧ s.nf.triggered = false then (s.setRail r { x with stamp := s.stb, retry := none }).sendRail r x.asked else s
  | none => s

/-! ### Frequencies and times -/

/-- R282 and R393: the frequency of a domain in steps of 25 MHz; 0 where its domain is OFF. -/
def State.blockSteps (s : State) (d : Nat) : Nat :=
  let i := 8 * (d / 6) + d % 6
  if s.fld PWR_DOMAIN.ON i = 0 ∨ s.brickUp (d / 6) = false then 0
  else
    let f := min (s.fld BLK_FREQ.REQ d) (nget s.pow.budgets d 104)
    if s.is SB_STATUS.BUDGET_FALLBACK (d / 6) then f
    else if (blockCores d).any (fun c => s.is DSP_CORE.IN_GROUP c) then max f (s.fld PPM_CEIL.COMMITTED d) else f

/-- Whether a cause of capping has held, or been clear, for a time. -/
def State.heldFor (s : State) (m : NMap Stamp) (k wait : Nat) : Bool :=
  match lookupKey k m with
  | some t0 => decide (t0 + wait ≤ s.stb)
  | none => false

/-! ### Per-frame ceilings (R393) -/

/-- Whether a temperature of a cause, or its absence, is timed: the stamp since which it holds is kept. -/
def since (m : NMap Stamp) (k : Nat) (on : Bool) (now : Stamp) : NMap Stamp :=
  if on then (if (lookupKey k m).isSome then m else nput m k now) else dropKey k m

/-- R394: a reading of a die's hottest junction. -/
def State.readJunction (s : State) (die v : Nat) : State :=
  { s with pow := { s.pow with
      temps := nput s.pow.temps die (v % 65536),
      hot := since s.pow.hot die (decide (103 * 16 ≤ celsius16 v)) s.stb,
      cool := since s.pow.cool die (decide (celsius16 v ≤ 95 * 16)) s.stb } }

/-- R394: a reading of the lid. -/
def State.readLid (s : State) (v : Nat) : State :=
  { s with pow := { s.pow with
      lid := v % 65536,
      hot := since s.pow.hot 16 (decide (85 * 16 ≤ celsius16 v)) s.stb,
      cool := since s.pow.cool 16 (decide (celsius16 v ≤ 80 * 16)) s.stb } }

/-- R394: a reading of IOUT_OC_WARN on a VCORE rail. -/
def State.readWarn (s : State) (r : Nat) (on : Bool) : State :=
  { s with pow := { s.pow with
      hot := since s.pow.hot (32 + r) on s.stb,
      cool := since s.pow.cool (32 + r) (!on) s.stb,
      warn := if on then (if s.pow.warn.contains r then s.pow.warn else s.pow.warn ++ [r]) else s.pow.warn.filter (fun x => x != r) } }

/-- The package's power in 1/8 W. -/
def State.power8 (s : State) : Nat := (s.pow.watts.map Prod.snd).sum + 8 * s.pow.rest

/-- R393: whether a domain's die and the lid are cool. -/
def State.isCool (s : State) (d : Nat) : Bool :=
  decide (celsius16 (nget s.pow.temps (d / 6) 0) < 101 * 16) && decide (celsius16 s.pow.lid < 83 * 16)

/-- R393: the branch that a domain's ceiling takes: up, down because of power, down, or as it was. -/
inductive CeilMove where
  | up | downPower | down | stay
deriving DecidableEq, Repr

/-- R393: what a domain's ceiling does. -/
def State.ceilMove (s : State) (d : Nat) : CeilMove :=
  let p := s.power8
  let lim := 8 * s.fld PPM_STATUS.LIMIT_W 0
  let peak := 8 * s.pow.peakW
  let cool := s.isCool d
  if cool ∧ (p + 160 < lim ∨ (0 < s.pow.allowance ∧ p + 160 < peak)) then .up
  else if (lim < p ∧ s.pow.allowance ≤ 0) ∨ peak < p then .downPower
  else if cool = false then .down
  else .stay

/-- R390 and R393: the ceiling of a domain rises by a step, where the rail's voltage permits it; else the voltage is asked for. -/
def State.ceilUp (s : State) (d : Nat) : State :=
  let c := s.fld PPM_CEIL.CEILING d
  let v := max (min 128 (c + 1)) (min c 128)
  let r := railOf d
  if v ≤ (s.rail r).level then s.set PPM_CEIL.CEILING d v
  else if s.fld PPM_RAIL.PENDING r = 0 ∧ (s.rail r).retry.isNone then s.askRail r v none
  else s

/-- The ceiling of a domain falls by 100 MHz, to no less than f_c. -/
def State.ceilDown (s : State) (d : Nat) : State :=
  s.set PPM_CEIL.CEILING d (max (s.fld PPM_CEIL.COMMITTED d) (s.fld PPM_CEIL.CEILING d - 4))

/-- Whether a cause that lowers f_c on a rail has been clear for 100 ms, so that f_c is due to rise (R394). -/
def State.liftDue (s : State) (r : Nat) : Bool :=
  (railDomains r).any (fun d => [(0, d / 6), (1, 16), (2, 32 + r), (4, 12)].any (fun q =>
    (s.capOf q.1 d).isSome && s.heldFor s.pow.cool q.2 (msTicks 100)))

/-- R390: a rail whose highest ceiling has fallen asks for the lower voltage, once every domain on it runs at the new frequency, unless
f_c is due to rise again. -/
def State.lowerRail (s : State) (r : Nat) : State :=
  let top := s.railTop r
  if top < (s.rail r).level ∧ s.fld PPM_RAIL.PENDING r = 0 ∧ (s.rail r).retry.isNone ∧ s.liftDue r = false ∧
      (railDomains r).all (fun d => decide (s.blockSteps d ≤ top)) = true then
    (s.setRail r { s.rail r with level := top }).askRail r top none
  else s

/-- R389: VCACHE and VKS follow their temperature band: that of the hottest brick, and of the keystone. -/
def State.trimRails (s : State) : State :=
  let band := fun (v : Int) => (v / 160 + 32).toNat
  let brick := ((List.range 12).filterMap (fun b => (lookupKey b s.pow.temps).map celsius16)).foldl max 0
  let ks := celsius16 (nget s.pow.temps 12 0)
  [(2, band brick), (3, band ks)].foldl (fun (s : State) q =>
    if lookupKey q.1 s.pow.bands = some q.2 ∨ s.fld PPM_RAIL.PENDING q.1 = 1 ∨ (s.rail q.1).retry.isSome then s
    else ({ s with pow := { s.pow with bands := nput s.pow.bands q.1 q.2 } }).askRail q.1 q.2 none) s

/-- R393: PPM_CEIL.CAUSE bit 0 of a domain; chip source 32 when CAPPING bit 0 becomes set. -/
def State.setPowerCause (s : State) (before : Bool) (ds : List Nat) : State :=
  let s := ds.foldl (fun (s : State) d => s.set PPM_CEIL.CAUSE d (withBit (s.fld PPM_CEIL.CAUSE d) 0)) s
  let s := domains.foldl (fun (s : State) d =>
    if s.fld PPM_CEIL.CEILING d = 128 then s.set PPM_CEIL.CAUSE d (withoutBit (s.fld PPM_CEIL.CAUSE d) 0) else s) s
  if before = false ∧ domains.any (fun d => (s.fld PPM_CEIL.CAUSE d).testBit 0) then s.raise { coll := .chip, bit := 32 } else s

/-- R282 and R393: the budget of a brick, its ceilings by block, as sideband message 0x21. -/
def State.sendBudget (s : State) (b : Nat) : State :=
  s.sendSide b 0x21 (((brickDomains b).zipIdx.map (fun q => s.fld PPM_CEIL.CEILING q.1 % 256 * 2 ^ (8 * q.2))).sum + frameOf s.stb % 65536 * 2 ^ 48)

/-- R393: the power manager at a meridian. -/
def State.powerFrame (s : State) (x : Measures) : State :=
  let s := ({ s with pow := { s.pow with rest := x.rest } }).readJunction 12 x.keystone
  let s := s.readLid x.lid
  let p : Nat := s.power8
  let lim := s.fld PPM_STATUS.LIMIT_W 0
  let top : Int := ((s.pow.peakW - lim) * s.pow.peakMs * 1000000 : Nat)
  let a := min top (s.pow.allowance + (((8 * lim : Nat) : Int) - ((p : Nat) : Int)) * 1024)
  let s : State := { s with pow := { s.pow with allowance := a } }
  let s := (s.set PPM_STATUS.PACKAGE_W 0 (p / 8)).set PPM_STATUS.ALLOWANCE_MJ 0 (a / 1000000).toNat
  let s : State := { s with pow := { s.pow with shown := s.pow.temps } }
  let before := domains.any (fun d => (s.fld PPM_CEIL.CAUSE d).testBit 0)
  let moves := domains.map (fun d => (d, s.ceilMove d))
  let s := moves.foldl (fun (s : State) q => match q.2 with
    | .up => s.ceilUp q.1
    | .downPower => s.ceilDown q.1
    | .down => s.ceilDown q.1
    | .stay => s) s
  let s := ((s.lowerRail 0).lowerRail 1).trimRails
  let s := s.setPowerCause before ((moves.filter (fun q => q.2 == .downPower)).map Prod.fst)
  (List.range 12).foldl (fun (s : State) b => if s.brickUp b ∧ s.is PWR_DOMAIN.ON (136 + b) then s.sendBudget b else s) s

/-- R77: the first measurements, of the dies in service. -/
def State.firstMeasures (s : State) (x : Measures) (bricks : NMap (Nat × Nat)) : State :=
  let s := (bricks.filter (fun q => s.brickUp q.1)).foldl (fun (s : State) q =>
    ({ s with pow := { s.pow with watts := nput s.pow.watts q.1 (q.2.1 % 65536) } }).readJunction q.1 q.2.2) s
  let s := (({ s with pow := { s.pow with rest := x.rest } }).readJunction 12 x.keystone).readLid x.lid
  ({ s with pow := { s.pow with shown := s.pow.temps } }).set PPM_STATUS.PACKAGE_W 0 (s.power8 / 8)

/-! ### What THERMAL_STATUS reports -/

/-- CAPPING of THERMAL_STATUS (R393, R394; bit 3 also while a raise is not acknowledged, R390). -/
def State.capping (s : State) : Nat :=
  let any := fun (b : Nat) => flag (domains.any (fun d => (s.fld PPM_CEIL.CAUSE d).testBit b))
  let late := (List.range 4).any (fun r => (s.rail r).late && decide ((s.rail r).level < (s.rail r).asked))
  any 0 + 2 * any 1 + 4 * any 2 + 8 * max (any 3) (flag late)

/-- THERMAL_STATUS (R77): the measurements of the last frame. -/
def cmdThermalStatus (_ : Caller) (_ : List Byte) (s : State) : Reply :=
  let up := fun (d : Nat) => d == 12 || s.brickUp d
  let tj := fun (d : Nat) => if up d then nget s.pow.shown d 0 else 0x8000
  let live := (List.range 13).filter up
  let best := live.foldl (fun (b : Nat) d => if celsius16 (tj b) < celsius16 (tj d) then d else b) (live.headD 12)
  .ok s (leBytes 2 s.pow.lid ++ leBytes 2 (tj best) ++ leBytes 1 best ++ leBytes 1 s.capping ++ leBytes 2 (s.fld PPM_STATUS.PACKAGE_W 0) ++
    ((List.range 13).map (fun d => leBytes 2 (tj d))).flatten)

/-! ### Domains (R384) -/

/-- Whether a cell of a keystone block is not OFF (R380). -/
def State.keystoneHolds (s : State) (l b : Nat) : Bool :=
  let mc := fun (c : Nat) => !([0, 5, 6].contains (s.fld MC_STATUS.STATE c))
  if l = 16 then true
  else
    let q := l - 12
    match b with
    | 0 => (List.range 2).any (fun k => mc (4 * q + k))
    | 1 => (List.range 2).any (fun k => mc (4 * q + 2 + k))
    | 2 => (List.range 16).any (fun k => mc (16 + 16 * q + k))
    | 5 => (List.range 2).any (fun k => s.portRole (2 * q + k) != 0)
    | 6 => (List.range 2).any (fun k => !(s.units.linkDown.contains (2 * q + k)))
    | _ => true

/-- The votes on a domain, at its place in PWR_DOMAIN. -/
def State.voted (s : State) (i : Nat) : Bool := (s.word .PWR_DOMAIN i 1).toNat != 0 || s.is WLD_BLK_SEC.SVOTE i

/-- R384: whether a domain is held ON. -/
def State.domainHeld (s : State) (i : Nat) : Bool :=
  if i < 136 then
    s.voted i || (if i / 8 < 12 then decide (i % 8 < 6) && s.cellHolds (6 * (i / 8) + i % 8) else s.keystoneHolds (i / 8) (i % 8))
  else if i < 152 then
    s.voted i || (List.range 8).any (fun b => decide (b < 6 ∨ 148 ≤ i) && s.is PWR_DOMAIN.ON (8 * (i - 136) + b))
  else true

/-- Whether a domain can be powered: its brick is in service, and its block. -/
def State.domainThere (s : State) (i : Nat) : Bool :=
  if i < 96 then decide (i % 8 < 6) && s.brickUp (i / 8) && !(s.units.blockDown.contains (6 * (i / 8) + i % 8))
  else if i < 136 then true
  else if i < 148 then s.brickUp (i - 136)
  else decide (i < 152)

/-- The banks of a domain (R416). -/
def domainBanks (i : Nat) : List Nat :=
  if i < 136 then blockBank (i / 8) (i % 8) :: (List.range (cellsOf (i / 8) (i % 8))).map (fun k => cellBank (i / 8) (i % 8) k)
  else if i < 152 then [regionBank (i - 136)] else [chipBank]

/-- The collector of a domain. -/
def domainColl (i : Nat) : Coll := if i < 136 then .block (i / 8) (i % 8) else if i < 152 then .region (i - 136) else .chip

/-- R384: a domain goes OFF: a core block's cache is written back and invalidated, and the block leaves the snoop masks. Its
outputs are clamped (R385). -/
def State.domainOff (s : State) (i : Nat) : State :=
  let s := if i < 96 ∧ i % 8 < 6 then
      let bb := 6 * (i / 8) + i % 8
      let s := s.flushBlock bb
      let s := (blockCores bb).foldl (fun (s : State) c => if s.fld CORE_PWR.STATE c = 3 then s else (s.wipeHart c).setCorePwr c 3) s
      ({ s with imsic := s.imsic.filter (fun q => q.1 / 4 != bb) }.set PWR_DOMAIN.ON i 0).refreshHold bb
    else s.set PWR_DOMAIN.ON i 0
  s.repin (domainColl i)

/-- R384 and R416: a domain comes ON; its counters restart. Its cells stay OFF. -/
def State.domainOn (s : State) (i : Nat) : State :=
  let s := (s.set PWR_DOMAIN.ON i 1).restartBanks (domainBanks i)
  (if i < 96 ∧ i % 8 < 6 then s.refreshHold (6 * (i / 8) + i % 8) else s).repin (domainColl i)

/-! ### The idle state (R386) -/

/-- R386 at a meridian: a frame with no activity is quiet. -/
def State.countQuiet (s : State) : State :=
  if s.busy || s.pow.active then
    let s : State := { s with pow := { s.pow with quiet := 0, active := false } }
    s.endIdle
  else { s with pow := { s.pow with quiet := s.pow.quiet + 1 } }

/-- Whether a booking in force names a memory node. -/
def State.nodeBooked (s : State) (n : Nat) : Bool := s.alm.books.any (fun b => b.kind == 0 && b.node == n && s.heldBooking b)

/-- R386: the package enters IDLE: memory nodes with no booking in force and no request in the quiet frames sleep. -/
def State.enterIdle (s : State) : State :=
  if 64 ≤ s.pow.quiet ∧ s.busy = false ∧ s.pow.active = false ∧ s.fld PPM_STATUS.IDLE 0 = 0 then
    let from_ := meridianOf (frameOf s.stb - 64)
    let quiet := (List.range 8).filter (fun n => s.fld MEM_NODE.STATE n != 0 && !(s.nodeBooked n) && decide (nget s.pow.nodeAt n 0 < from_))
    ({ s with pow := { s.pow with asleep := quiet } }).set PPM_STATUS.IDLE 0 1
  else s

/-! ### Arming (R403) -/

/-- The images that a start treats as held (R409). -/
def Image.held (im : Image) : Bool := (im.state == 2 && im.crcOk.testBit 6) || (im.state == 1 && im.parts != 0)

/-- The image in a slot. -/
def State.imageIn (s : State) (slot : Nat) : Option Image := s.nf.images.find? (fun im => im.slot == slot)

/-- HELD and SLOTS_FULL follow the images. -/
def State.refreshHeld (s : State) : State :=
  let held := fun (k : Nat) => flag ((s.imageIn k).any Image.held)
  (s.set NF_STATUS.HELD 0 (held 0 + 2 * held 1)).set NF_STATUS.SLOTS_FULL 0 (if held 0 + held 1 = 2 then 1 else 0)

/-- NF_STATUS.RESTORING: whether a RESTORE_BEGIN that has been taken has not ended. -/
def State.restoring (s : State) : Bool := s.keeper.boxes.any (fun q => q.2.taken.any (fun k => k.opcode == 0x0802 && k.final.isNone))

/-- R403: whether Nightfall may be armed. -/
def State.mayArm (s : State) : Bool :=
  s.fld NF_STATUS.STORE_FAILED 0 == 0 && s.board.any Board.saveStore && s.fld NF_STATUS.HELD 0 != 3 &&
    (match s.nf.reading with
      | some (mv, good) => good && decide (s.fld NF_CFG.ARM_MV 0 + (if s.nf.low then 50 else 0) ≤ mv)
      | none => false)

/-- R403: Nightfall is armed or disarmed; while it is disarmed chip source 38 is latched. -/
def State.decideArming (s : State) : State :=
  match s.nf.reading with
  | none => s
  | some (mv, _) =>
    let arm := s.fld NF_CFG.ARM_MV 0
    let s : State := if mv < arm then { s with nf := { s.nf with low := true } } else s
    let s := s.set NF_STATUS.BANK_LOW 0 (if mv < arm then 1 else 0)
    if s.mayArm then ({ s with nf := { s.nf with low := false } }).set NF_STATUS.ARMED 0 1
    else
      let s := s.set NF_STATUS.ARMED 0 0
      if s.latched .chip 38 then s else s.raise { coll := .chip, bit := 38 }

end Sys2Proof.Machine
end

