-- ==== Sys2Proof/Machine/RegMap.lean ====
section
/-! DEFINITION. The register space (R13, R25, R29, R30): which register, or which mailbox window, an address names. The offsets are
those of the register headings; R357 and R416 give the bases of collectors and banks. -/

namespace Sys2Proof.Machine

/-- What an address of the register space names: a register's word (with the level it belongs to, 16 the chip, and whether it lies in
a secure-only page), a mailbox window, a user slot of R423, no register of a populated unit, or nothing populated. -/
inductive RegPlace where
  | reg (r : Reg) (idx word level : Nat) (page : Bool)
  | window (m off : Nat)
  | slot (k : Nat)
  | blank (level : Nat) (page : Bool)
  | hole
deriving DecidableEq, Repr

/-- A run of registers at an offset: `n` registers of `words` words each, `stride` bytes apart, the first with index `idx`, later ones
`step` further. -/
structure Row where
  reg : Reg
  base : Nat
  stride : Nat := 8
  n : Nat := 1
  words : Nat := 1
  idx : Nat := 0
  step : Nat := 1
deriving DecidableEq, Repr

/-- The register at an offset among rows, with its index and word. -/
def findRow (rows : List Row) (o : Nat) : Option (Reg × Nat × Nat) :=
  match rows.find? (fun r => decide (r.base ≤ o) && decide (o < r.base + r.stride * r.n) &&
      decide ((o - r.base) % r.stride / 8 < r.words)) with
  | some r => some (r.reg, r.idx + r.step * ((o - r.base) / r.stride), (o - r.base) % r.stride / 8)
  | none => none

/-- The registers of a collector at base `b` (R357). -/
def collRows (b i : Nat) : List Row :=
  [{ reg := .FLT_STATUS, base := b, idx := i }, { reg := .FLT_SEV_LO, base := b + 8, idx := i },
   { reg := .FLT_SEV_HI, base := b + 0x10, idx := i }, { reg := .FLT_FIXED, base := b + 0x18, idx := i },
   { reg := .FLT_FIRST, base := b + 0x20, stride := 0x10, words := 2, idx := i },
   { reg := .FLT_SRC, base := b + 0x100, stride := 0x20, n := 64, words := 3, idx := 64 * i }]

/-- The registers of a counter bank at base `b` (R416). -/
def bankRows (b i : Nat) : List Row :=
  [{ reg := .CTR_BANK, base := b, idx := i }, { reg := .CTR_RANGE, base := b + 0x10, stride := 0x10, n := 2, words := 2, idx := 2 * i },
   { reg := .CTR_CFG, base := b + 0x40, n := bankSize i, idx := 16 * i },
   { reg := .CTR_VALUE, base := b + 0xC0, n := bankSize i, idx := 16 * i },
   { reg := .CTR_BW, base := b + 0x140, stride := 0x20, n := 8, words := 3, idx := 8 * i }]

/-- The level registers of the chip, at block slot 31. -/
def chipRows : List Row :=
  [{ reg := .CHIP_ID, base := 0 }, { reg := .DIE_ID, base := 8 }, { reg := .DIE_CAP, base := 0x10 },
   { reg := .CHIP_CAP_EFFECTIVE, base := 0x18 }, { reg := .CHIP_WORKAROUND, base := 0x20 }, { reg := .DIE_ERRATA, base := 0x28 },
   { reg := .LB_STATUS, base := 0x30 }, { reg := .PWR_DOMAIN, base := 0x180, stride := 0x10, words := 2, idx := 152 },
   { reg := .RING_CTRL, base := 0x300, idx := 16 }, { reg := .RING_STATUS, base := 0x308, idx := 16 },
   { reg := .RING_STOP_CNT, base := 0x400, stride := 0x10, n := 16, words := 2, idx := 256 },
   { reg := .ARB_PORT, base := 0x500, n := 4, idx := 336 }, { reg := .BOOT_STATUS, base := 0x800 },
   { reg := .BOOT_VEC, base := 0x808 }, { reg := .STRAP_STATUS, base := 0x810 }, { reg := .MNT_STATE, base := 0xE00 },
   { reg := .POOL_STATE, base := 0x20000, stride := 0x20, n := 64, words := 4 }, { reg := .CST_STATUS, base := 0x30000 },
   { reg := .CST_CTRL, base := 0x30008 }, { reg := .CST_MSG_SEND, base := 0x30010 }, { reg := .CST_MSG_STATUS, base := 0x30018 },
   { reg := .CST_ROUTE, base := 0x31000, n := 128 }, { reg := .CST_MEMBERS, base := 0x32000, n := 16 },
   { reg := .CTR_USER_MAP, base := 0x51000, n := 64 }] ++ bankRows 0x40000 chipBank

/-- The level registers of region `r`, at block slot 31. -/
def regionRows (r : Nat) : List Row :=
  [{ reg := .STB_REPLICA, base := 0x40, idx := r }, { reg := .PWR_DOMAIN, base := 0x180, stride := 0x10, words := 2, idx := 136 + r },
   { reg := .RING_CTRL, base := 0x300, idx := r }, { reg := .RING_STATUS, base := 0x308, idx := r },
   { reg := .RING_STOP_CNT, base := 0x400, stride := 0x10, n := 16, words := 2, idx := 16 * r },
   { reg := .ARB_PORT, base := 0x500, n := 4, idx := 272 + 4 * r }, { reg := .ALM_METER, base := 0x10000, n := 1024, idx := 1024 * r }] ++
  collRows 0x1000 (1 + r) ++ bankRows 0x40000 (regionBank r) ++
  (if r < 12 then
    [{ reg := .DIE_ID, base := 8, idx := 1 + r }, { reg := .DIE_CAP, base := 0x10, idx := 1 + r },
     { reg := .DIE_ERRATA, base := 0x28, idx := 1 + r }, { reg := .ALM_RING_MASK, base := 0x200, idx := r },
     { reg := .ALM_COURSE_MASK, base := 0x208, n := 8, idx := 8 * r },
     { reg := .CRS_STATUS, base := 0x600, stride := 0x40, n := 4, idx := 4 * r },
     { reg := .CRS_BAD_LO_K, base := 0x608, stride := 0x40, n := 4, idx := 4 * r },
     { reg := .CRS_BAD_LO_B, base := 0x610, stride := 0x40, n := 4, idx := 4 * r },
     { reg := .CRS_BAD_HI, base := 0x618, stride := 0x40, n := 4, idx := 4 * r },
     { reg := .CRS_COUNT, base := 0x628, stride := 0x40, n := 4, idx := 4 * r },
     { reg := .CRS_EVT, base := 0x630, stride := 0x40, n := 4, idx := 4 * r }, { reg := .SB_STATUS, base := 0x700, idx := r }]
  else [{ reg := .MEM_NODE, base := 0x100, n := 2, idx := r - 12, step := 4 }])

/-- CRS_REMAP, whose two words do not lie together. -/
def remapAt (r o : Nat) : Option (Reg × Nat × Nat) :=
  if 0x600 ≤ o ∧ o < 0x700 ∧ r < 12 then
    (if o % 0x40 = 0x20 then some (.CRS_REMAP, 4 * r + (o - 0x600) / 0x40, 0)
     else if o % 0x40 = 0x38 then some (.CRS_REMAP, 4 * r + (o - 0x600) / 0x40, 1) else none)
  else none

/-- The registers in cell slot 63 of a block: its own, its collectors and its bank. -/
def blockRows (l b : Nat) : List Row :=
  [{ reg := .ARB_PORT, base := 0, n := 2, idx := 2 * (8 * l + b) }, { reg := .WLD_BLK_STATE, base := 0x100, idx := 8 * l + b },
   { reg := .BLK_CLK_CTRL, base := 0x108, idx := 8 * l + b },
   { reg := .PWR_DOMAIN, base := 0x110, stride := 0x10, words := 2, idx := 8 * l + b }] ++
  (if l < 12 then [{ reg := .BLK_FREQ, base := 0x120, idx := 6 * l + b }] else []) ++
  collRows 0x1000 (Coll.block l b).idx ++ bankRows 0x20000 (blockBank l b)

/-- The registers of a core's cell. -/
def coreRows (c : Nat) : List Row :=
  [{ reg := .CORE_ARB_HINT, base := 0x400, idx := c }, { reg := .CORE_PAIR, base := 0x408, idx := c },
   { reg := .CORE_WALK_ERR, base := 0x410, idx := c }, { reg := .CORE_WALK_ADDR, base := 0x418, idx := c },
   { reg := .CORE_WALK_STAT, base := 0x420, idx := c }, { reg := .CORE_PWR, base := 0x430, idx := c }]

/-- The registers of a memory controller's cell. -/
def mcRows (c : Nat) : List Row :=
  [{ reg := .MC_STATUS, base := 0, idx := c }, { reg := .MC_ERR_LOG, base := 0x10, stride := 0x10, words := 2, idx := c }]

/-- The registers of a home slice's cell. -/
def sliceRows (h : Nat) : List Row :=
  [{ reg := .HA_STATUS, base := 0, idx := h }, { reg := .HA_SF_STAT, base := 8, idx := h },
   { reg := .HA_ERR_LOG, base := 0x10, stride := 0x10, words := 2, idx := h }]

/-- The registers of an intake engine's cell. -/
def engineRows (e : Nat) : List Row :=
  [{ reg := .IE_STATUS, base := 0, idx := e }, { reg := .IE_EVT, base := 8, idx := e }, { reg := .IE_SPOOF_LOG, base := 0x10, idx := e },
   { reg := .IE_SPOOF_STAMP, base := 0x18, idx := e }, { reg := .IEC_CFG, base := 0x200, idx := e },
   { reg := .IEC_RANGE, base := 0x208, idx := e }, { reg := .IEC_STATUS, base := 0x210, idx := e },
   { reg := .IE_CH_STATE, base := 0x40000, stride := 0x10, n := 4096, idx := 4096 * e },
   { reg := .IE_CH_DB, base := 0x80000, stride := 0x20, n := 4096, words := 3, idx := 4096 * e }]

/-- The registers of a PCI Express port's cell. -/
def portRows (p : Nat) : List Row :=
  [{ reg := .PCIE_PORT_STATUS, base := 0, idx := p }, { reg := .PCIE_LINK, base := 8, n := 4, idx := 4 * p },
   { reg := .PCIE_PORT_EVT, base := 0x30, idx := p }, { reg := .PCIE_TAGS, base := 0x38, idx := p },
   { reg := .RP_OUT, base := 0x100, n := 4, idx := 4 * p }, { reg := .RP_MSI, base := 0x140, idx := p },
   { reg := .RP_IRQ, base := 0x148, idx := p }, { reg := .TNT_VF, base := 0x10000, stride := 0x20, n := 256, words := 4, idx := 512 * p + 1 },
   { reg := .EP_APERTURE, base := 0x20000, stride := 0x10, n := 257, words := 2, idx := 512 * p },
   { reg := .RP_IN_WIN, base := 0x30000, stride := 0x20, n := 8, words := 3, idx := 8 * p }]

/-- The registers of a package link's cell. -/
def linkRows (l : Nat) : List Row :=
  [{ reg := .LINK_STATUS, base := 0, idx := l }, { reg := .LINK_COUNT, base := 8, idx := l }, { reg := .LINK_EVT, base := 0x10, idx := l },
   { reg := .LINK_TRACK, base := 0x18, idx := l }]

/-- The registers of the chip's own cells: Almanac, dispatcher, op table, journal store and save-store controller, fault collector,
power manager and time base. -/
def chipCellRows (b k : Nat) : List Row :=
  match b, k with
  | 1, _ =>
    [{ reg := .ALM_STATUS, base := 0 }, { reg := .ALM_RECOMPUTE, base := 8 }, { reg := .ALM_TRIGGER, base := 0x10 },
     { reg := .ALM_NEXT_ID, base := 0x18 }, { reg := .ALM_EVT, base := 0x20 },
     { reg := .ALM_CAP, base := 0x1000, stride := 0x10, n := 182, words := 2 }, { reg := .ALM_SHARE, base := 0x40000, n := 18432 }]
  | 2, _ =>
    [{ reg := .DSP_STATUS, base := 0 }, { reg := .DSP_TIMES, base := 8 }, { reg := .DSP_EVT, base := 0x10 },
     { reg := .DSP_GROUP, base := 0x1000, stride := 0x20, n := 64, words := 3 }, { reg := .DSP_CORE, base := 0x2000, n := 288 }]
  | 3, _ => [{ reg := .OPT_STATUS, base := 0 }, { reg := .OPT_TAG, base := 0x100, n := 64 }]
  | 4, 0 =>
    [{ reg := .JNL_STATUS, base := 0 }, { reg := .JNL_EVT, base := 8 }, { reg := .JNL_TAG, base := 0x100, n := 64 },
     { reg := .JNL_SEQ, base := 0x1000, stride := 0x10, n := 64, words := 2 }]
  | 4, _ => [{ reg := .NF_STATUS, base := 0, stride := 0x18, words := 3 }]
  | 5, _ => collRows 0 0 ++ [{ reg := .CHIP_SAFE, base := 0x1000, stride := 0x10, words := 2 }]
  | 6, _ =>
    [{ reg := .PPM_STATUS, base := 0 }, { reg := .PPM_RAIL, base := 0x40, n := 4 }, { reg := .PPM_CEIL, base := 0x100, n := 72 }]
  | 7, _ =>
    [{ reg := .STB_NOW, base := 0 }, { reg := .STB_STATE, base := 8 }, { reg := .STB_PPS_STAMP, base := 0x10 },
     { reg := .STB_OFFSET, base := 0x18 }, { reg := .STB_TRIM, base := 0x20 }, { reg := .STB_EVT, base := 0x28 }]
  | _, _ => []

/-- The registers of a cell, at its base; its bank follows at 0xF_0000. -/
def cellRows (l b k : Nat) : List Row :=
  (if l < 12 then coreRows (24 * l + 4 * b + k)
   else if l = 16 then chipCellRows b k
   else match b with
    | 0 => mcRows (4 * (l - 12) + k)
    | 1 => mcRows (4 * (l - 12) + 2 + k)
    | 2 => mcRows (16 + 16 * (l - 12) + k)
    | 3 => sliceRows (16 * (l - 12) + k)
    | 4 => sliceRows (16 * (l - 12) + 8 + k)
    | 5 => portRows (2 * (l - 12) + k)
    | 6 => linkRows (2 * (l - 12) + k)
    | _ => engineRows (4 * (l - 12) + k)) ++
  (if l = 16 ∧ b = 0 ∧ k = 2 then [] else bankRows 0xF0000 (cellBank l b k))

/-- The secure-only registers of block slot `b` of a level (R30). -/
def secureRows (l b : Nat) : List Row :=
  if b = 31 then
    { reg := .WLD_BLK_SEC, base := 0xFC00, idx := 136 + l } ::
      (if l = 16 then
        [{ reg := .CST_EXPORT, base := 0, n := 32 }, { reg := .CST_MSG_ALLOW, base := 0x100, n := 16 },
         { reg := .CST_MIRROR_SLOT, base := 0x200, stride := 0x10, n := 8, words := 2 },
         { reg := .WLD_GATE, base := 0x1000, stride := 0x10, n := 64, words := 2 }, { reg := .WLD_DEBUG, base := 0x1800, n := 2 }]
      else [])
  else
    { reg := .WLD_BLK_SEC, base := 0xFC00, idx := 8 * l + b } ::
      (if l < 12 then [{ reg := .CORE_WFRAME, base := 0, stride := 0x400, n := 4, idx := 24 * l + 4 * b }]
       else if l < 16 then (if b = 5 then [{ reg := .WLD_PORT, base := 0, stride := 0x400, n := 2, idx := 2 * (l - 12) }] else [])
       else match b with
        | 1 => [{ reg := .ALM_TAG_CFG, base := 0x100, n := 64 }]
        | 4 =>
          [{ reg := .JNL_DRAIN_MAP, base := 0, n := 4 }, { reg := .JNL_DRAIN, base := 0x100, stride := 0x40, n := 8, words := 8 },
           { reg := .NF_CFG, base := 0x400, stride := 0x10, words := 2 }]
        | 5 => [{ reg := .FLT_SECURE, base := 0, stride := 0x10, words := 2 }]
        | 7 => [{ reg := .STB_CTRL, base := 0 }, { reg := .STB_EPOCH, base := 8 }]
        | _ => [])

/-- Whether a level has a block slot (R29). -/
def slotPopulated (l b : Nat) : Bool := b == 31 || (decide (b < 8) && decide (0 < cellsOf l b))

/-- A register found, or a place with none. -/
def placed (x : Option (Reg × Nat × Nat)) (level : Nat) (page : Bool) : RegPlace :=
  match x with
  | some q => .reg q.1 q.2.1 q.2.2 level page
  | none => .blank level page

/-- What an offset of a level's slots names, the secure pages apart. -/
def slotPlace (l o : Nat) : RegPlace :=
  let b := o / 0x4000000
  let i := o % 0x4000000
  if !(slotPopulated l b) then .hole
  else if b = 31 then
    if l = 16 then
      if 0x50000 ≤ i ∧ i < 0x51000 then (if i < 0x50200 then .slot ((i - 0x50000) / 8) else .slot 64)
      else placed (findRow chipRows i) l false
    else
      match remapAt l i with
      | some q => placed (some q) l false
      | none => placed (findRow (regionRows l) i) l false
  else
    let k := i / 0x100000
    let c := i % 0x100000
    if k = 63 then
      if 0x2000 ≤ c ∧ c < 0x12000 then
        let j := (c - 0x2000) / 0x1000
        if j < cellsOf l b then placed (findRow (collRows 0 (Coll.cell l b j).idx) ((c - 0x2000) % 0x1000)) l false else .hole
      else placed (findRow (blockRows l b) c) l false
    else if cellsOf l b ≤ k then .hole
    else if l = 16 ∧ b = 0 ∧ k = 2 then .window (c / 0x4000) (c % 0x4000)
    else placed (findRow (cellRows l b k) c) l false

/-- What an address of the register space names. -/
def placeOf (a : Nat) : RegPlace :=
  let o := (a - 0xFFF0000000000) / 8 * 8
  let li := o / 2 ^ 32
  let l := if li = 0 then 16 else li - 1
  let f := o % 2 ^ 32
  if a < 0xFFF0000000000 ∨ 16 < li then .hole
  else if f < 0x80000000 then slotPlace l f
  else if f < 0x80200000 then
    let b := (f - 0x80000000) / 0x10000
    if slotPopulated l b then placed (findRow (secureRows l b) (f % 0x10000)) l true else .hole
  else .hole

end Sys2Proof.Machine
end

