-- ==== Sys2Proof/Machine/Walks.lean ====
section
/-! DEFINITION. The rows of address translation: fences (R207, R208) and walks (R202). -/

namespace Sys2Proof.Machine

/-- An exception with the instruction's bits in xtval. -/
def State.badIns (s : State) (h cause ins : Nat) : State := s.except h cause (BitVec.ofNat 64 ins)

/-- The cause a fence raises at its mode, or none where it executes: illegal instruction in U mode and where mstatus.TVM traps it,
virtual instruction in VU mode, in VS mode for the hypervisor's fences and where hstatus.VTVM traps it. -/
def State.fenceCause (s : State) (h : Nat) (k : FenceKind) : Option Nat :=
  let x := s.hart h
  let tvm := (s.csr h csrMstatus).toNat.testBit 20
  let vtvm := (s.csr h csrHstatus).toNat.testBit 20
  if x.priv = 3 ∨ k = .i then none
  else if x.virt then
    (if x.priv = 0 ∨ k ≠ .vma ∨ vtvm then some 22 else none)
  else if x.priv = 0 then some 2
  else if tvm ∧ k ≠ .vvma then some 2 else none

/-- Whether an address, where a fence names one, lies in the page of a leaf of a size that translates `base`. -/
def inPage (va : Option Nat) (base log2 : Nat) : Bool :=
  match va with
  | some a => a / 2 ^ log2 == base / 2 ^ log2
  | none => true

/-- Whether a fence covers a cached translation: `va` and `asid` are those its operands name, none for x0. For HFENCE.GVMA they are
the guest-physical address and the VMID. An address covers what was made from the leaf that translates it, whatever its size (R207). -/
def State.covers (s : State) (h : Nat) (k : FenceKind) (va asid : Option Nat) (e : TlbEntry) : Bool :=
  let inSpace := match asid with
    | some a => !e.global && e.asid == a
    | none => true
  let here := e.vmid == wbits (s.csr h 0x680) 44 14
  match k with
  | .vma => e.virt == (s.hart h).virt && (!e.virt || here) && inPage va e.vbase e.vlog2 && inSpace
  | .vvma => e.virt && here && inPage va e.vbase e.vlog2 && inSpace
  | .gvma => e.virt && inPage va e.gpage e.glog2 &&
      (match asid with
        | some a => e.vmid == a
        | none => true)
  | .i => false

/-- Whether a fence covers a cached non-leaf entry: one that names an address orders leaf entries alone. -/
def State.coversPtr (s : State) (h : Nat) (k : FenceKind) (va asid : Option Nat) (p : Ptr) : Bool :=
  let inSpace := match asid with
    | some a => !p.global && p.asid == a
    | none => true
  let here := p.vmid == wbits (s.csr h 0x680) 44 14
  va.isNone && (match k with
    | .vma => p.stage == (if (s.hart h).virt then 1 else 0) && (p.stage == 0 || here) && inSpace
    | .vvma => p.stage == 1 && here && inSpace
    | .gvma => p.stage == 2 &&
        (match asid with
          | some a => p.vmid == a
          | none => true)
    | .i => false)

/-- R207 and R208: what a fence invalidates in its hart's translation caches. -/
def State.fenceTlb (s : State) (h : Nat) (k : FenceKind) (va asid : Option Nat) : State :=
  { s with fab := { s.fab with
      tlb := s.fab.tlb.filter (fun e => !(e.hart == h && s.covers h k va asid e)),
      ptrs := s.fab.ptrs.filter (fun p => !(p.hart == h && s.coversPtr h k va asid p)) } }

/-- SFENCE_VMA (R207, R208): a fence of a hart, with its instruction bits, acts on that hart's translation caches alone; FENCE.I on its L1I
(R180). -/
def execSfenceVma (t : Stamp) (h : Nat) (k : FenceKind) (va : Option Nat) (asid : Option Nat) (ins : Nat) (s : State) : Res :=
  live t s (fun s =>
    if !(s.hartRuns h) then s
    else
      match s.fenceCause h k with
      | some c => s.badIns h c ins
      | none => (if k = .i then s.clearL1i h else s.fenceTlb h k va asid).nextPc h 4)

end Sys2Proof.Machine
end

