-- ==== Sys2Proof/Machine/ServiceRows.lean ====
section
/-! DEFINITION. The service path's rows (R137 to R168): doorbells, fetching, intake, admission, answers, the Xbcn service
instructions, and the time limits of ops, cores, mirrors and drains. -/

namespace Sys2Proof.Machine

/-! ### Queues of a channel -/

/-- The entries of a channel's submission queue. -/
def Channel.sqSize (k : Channel) : Nat := 2 ^ k.sqLog2

/-- The entries of a channel's completion queue. -/
def Channel.cqSize (k : Channel) : Nat := 2 ^ k.cqLog2

/-- The completion records of a channel that its submitter has not consumed. The engine counts records and heads over two passes of
the ring, so that a full ring is not an empty one. -/
def State.cqHeld (s : State) (ch : Nat) (k : Channel) : Nat :=
  let i := chIdx (k.engine ch) ch
  let written := s.fld IE_CH_STATE.CQ_TAIL i + (1 - s.fld IE_CH_STATE.PHASE i) * k.cqSize
  (written + 2 * k.cqSize - k.cqHead) % (2 * k.cqSize)

/-- A doorbell that is ignored (R138). -/
def State.badBell (s : State) (e : Nat) : State := if e < 16 then s.set IE_EVT.BAD_DOORBELL e 1 else s

/-- R138: the channel behind a doorbell, or the engine whose BAD_DOORBELL is set where there is none. -/
def State.behind (s : State) (d : Door) : Nat ⊕ (Nat × Channel) :=
  match d with
  | .engine e ch =>
    match s.chan ch with
    | some k => if k.srcKind = 0 ∧ k.engine ch = e then .inr (ch, k) else .inl e
    | none => .inl e
  | .bar0 p fn i =>
    match (s.fnChans p fn)[i]? with
    | some ch =>
      match s.chan ch with
      | some k => .inr (ch, k)
      | none => .inl (4 * (p / 2))
    | none => .inl (4 * (p / 2))

/-- A submission tail doorbell (R138); it resumes fetching that R354 stopped. -/
def State.ringSq (s : State) (d : Door) (v : Nat) : State :=
  match s.behind d with
  | .inl e => s.badBell e
  | .inr (ch, k) => 
    if v % 65536 < k.sqSize then
      s.setChan ch { k with sqTail := v % 65536, stopped := false }
    else s.badBell (k.engine ch)

/-- A completion head doorbell (R138). -/
def State.ringCq (s : State) (d : Door) (v : Nat) : State :=
  match s.behind d with
  | .inl e => s.badBell e
  | .inr (ch, k) =>
    let v := v % 65536
    let adv := (v + k.cqSize - k.cqHead % k.cqSize) % k.cqSize
    if v < k.cqSize ∧ adv ≤ s.cqHeld ch k then s.setChan ch { k with cqHead := (k.cqHead + adv) % (2 * k.cqSize) }
    else s.badBell (k.engine ch)

/-- IE_CH_DB_SQ_TAIL (R138). -/
def execIeChDbSqTail (t : Stamp) (d : Door) (v : Nat) (s : State) : Res := live t s (fun s => s.ringSq d v)

/-- IE_CH_DB_CQ_HEAD (R138). -/
def execIeChDbCqHead (t : Stamp) (d : Door) (v : Nat) (s : State) : Res := live t s (fun s => s.ringCq d v)

/-! ### Fetching -/

/-- R320: the engine's first refused access ends the service of a channel. -/
def State.endService (s : State) (ch : Nat) : State :=
  match s.chan ch with
  | some k =>
    if k.ended then s
    else (s.setChan ch { k with ended := true }).raise
      { coll := engineColl (k.engine ch), bit := 1, detail := leBytes 2 ch, addr := ch }
  | none => s

/-- Whether a channel has a descriptor that its engine may fetch but for completion space (R67, R137, R143, R331). -/
def State.wantsFetch (s : State) (e ch : Nat) (k : Channel) : Bool :=
  let i := chIdx e ch
  k.engine ch == e && !k.stopped && !(s.fnHeld k) && !k.ended && !(s.is IE_CH_STATE.TWIN_SECOND i) && !(s.releasing k.grp) &&
    k.sqTail != s.fld IE_CH_STATE.SQ_HEAD i && decide (nget s.pcie.retry ch 0 ≤ s.stb) &&
    s.pathOpen ch

/-- R143: whether the completion queue has room for every op taken and one more. -/
def State.cqRoom (s : State) (e ch : Nat) (k : Channel) : Bool :=
  decide (s.fld IE_CH_STATE.OUTSTANDING (chIdx e ch) + 1 ≤ k.cqSize - s.cqHeld ch k)

/-- The engine takes the descriptor at the head of a channel (R140, R143): its SQ_HEAD advances, its read is issued. -/
def State.fetchFrom (s : State) (e ch : Nat) (k : Channel) : State :=
  let i := chIdx e ch
  let head := s.fld IE_CH_STATE.SQ_HEAD i
  let addr := k.sqBase + 64 * head
  let take := fun (s : State) =>
    let s := (s.set IE_CH_STATE.SQ_HEAD i ((head + 1) % k.sqSize)).set IE_CH_STATE.OUTSTANDING i
      (s.fld IE_CH_STATE.OUTSTANDING i + 1)
    { s with svc := { s.svc with descs := s.svc.descs ++ [⟨e, ch, (head + 1) % k.sqSize, [], 0, false, 3⟩],
                                 turns := nput s.svc.turns e (ch + 1) } }
  if k.srcKind = 0 then
    if s.populated addr ∧ s.addrSecure addr = s.groupSecure k.grp then take s else (s.homeRefused addr).endService ch
  else
    match s.issueRead k.port k.fn addr 64 3 (.descriptor ch) with
    | some s' => take (s'.refreshTags k.port)
    | none => s

/-- The channels of an engine in round-robin order from its turn (R21, R137). -/
def State.engineChans (s : State) (e : Nat) : List (Nat × Channel) :=
  let mine := s.svc.channels.filter (fun q => q.2.engine q.1 == e)
  let t := nget s.svc.turns e 0
  mine.filter (fun q => decide (t ≤ q.1)) ++ mine.filter (fun q => decide (q.1 < t))

/-- DESCRIPTOR_FETCH (R137, R143, R144): engine `e` fetches from the next of its channels that has a descriptor and completion space;
it holds at most 8. Channels that only R143 holds back set CQ_WAIT. -/
def execDescriptorFetch (t : Stamp) (e : Nat) (s : State) : Res :=
  liveS t s (fun s =>
    if s.fld IE_STATUS.ENABLED e = 0 ∨ s.is CHIP_SAFE.SAFE 0 ∨ 16 ≤ e ∨ 8 ≤ (s.svc.descs.filter (fun d => d.engine == e)).length then s
    else
      let want := (s.engineChans e).filter (fun q => s.wantsFetch e q.1 q.2)
      let s := if want.any (fun q => !(s.cqRoom e q.1 q.2)) then s.set IE_EVT.CQ_WAIT e 1 else s
      match want.find? (fun q => s.cqRoom e q.1 q.2) with
      | some q => s.fetchFrom e q.1 q.2
      | none => s)

/-! ### Intake -/

/-- An answer to a descriptor that is not admitted (R142, R145): decided at its intake or admission. -/
def State.turnAway (s : State) (d : Desc) (status result : Nat) : State :=
  let s := s.set (if status = 6 then IE_EVT.SPOOF else IE_EVT.REFUSED) d.engine 1
  let s := match s.chan d.ch with
    | some k => s.countOp (engineBank d.engine) 0x308 k.grp (((lookupKey k.cls s.svc.classes).map SvcClass.tag).getD 0)
    | none => s
  { s with svc := { s.svc with descs := s.svc.descs.erase d, answers := s.svc.answers ++
      [⟨d.engine, d.ch, leAt d.bytes 0 8, status, 0, d.sqHead, 0, 0, result, d.t0, s.stb, [], none, d.cap⟩] } }

/-- R146: a spoofed descriptor. -/
def State.spoof (s : State) (d : Desc) (k : Channel) (check : Nat) : State :=
  let e := d.engine
  let s := ((s.set IE_SPOOF_LOG.CHANNEL e d.ch).set IE_SPOOF_LOG.CLAIMED_PORT e (leAt d.bytes 8 1)).set
    IE_SPOOF_LOG.CLAIMED_FUNCTION e (leAt d.bytes 10 2)
  let s := ((s.set IE_SPOOF_LOG.CLAIMED_TENANT e (leAt d.bytes 12 1)).set IE_SPOOF_LOG.CHECK e check).set IE_SPOOF_STAMP.STAMP e d.t0
  let s := (s.turnAway d 6 check).raise { coll := engineColl e, bit := 0, detail := leBytes 2 d.ch }
  if k.srcKind = 1 then s.chargeSpoof k.port k.fn else s

/-- The tenant a channel's descriptors must claim (R145, R330). -/
def State.tenantOf (s : State) (k : Channel) : Nat :=
  if k.srcKind = 1 ∧ k.fn ≠ 0 then s.fld TNT_VF.TENANT (vfIdx k.port k.fn) else 0

/-- R400, R403 and R409: whether admission of a class is stopped. -/
def State.admissionStopped (s : State) (cl : SvcClass) : Bool :=
  s.nf.triggered || (cl.cflags.testBit 0 && (!(s.is NF_STATUS.ARMED 0) || (s.fld NF_STATUS.HELD 0 != 0 && !s.nf.restored)))

/-- R145, check 6: whether a VF's masks and the tag's settings allow a class. -/
def State.permitted (s : State) (k : Channel) (cl : SvcClass) : Bool :=
  s.is ALM_TAG_CFG.ENABLED cl.tag &&
    (k.srcKind == 0 || k.fn == 0 || ((s.word .TNT_VF (vfIdx k.port k.fn) 1).toNat.testBit k.cls &&
      (s.word .TNT_VF (vfIdx k.port k.fn) 2).toNat.testBit cl.tag))

/-- The second channel of the locked pair that a channel is first of. -/
def State.twinOf (s : State) (ch : Nat) : Option Nat := (s.svc.locked.find? (fun q => q.1 == ch)).map Prod.snd

/-- The relative deadline and the budget of a descriptor (R140). -/
def effective (d : Desc) (cl : SvcClass) : Nat × Nat :=
  (if leAt d.bytes 16 4 = 0 then cl.maxDeadline else leAt d.bytes 16 4,
   if leAt d.bytes 20 4 = 0 then cl.budget else leAt d.bytes 20 4)

/-- R145, checks 1 to 8, and R150 for tag 0: the status and reason of the first that fails. -/
def State.intakeFault (s : State) (d : Desc) (k : Channel) (cl : SvcClass) : Option (Nat × Nat) :=
  let b := d.bytes
  let eff := effective d cl
  if leAt b 8 1 ≠ (if k.srcKind = 1 then k.port else 0xFF) then some (6, 1)
  else if leAt b 10 2 ≠ k.fn then some (6, 2)
  else if leAt b 12 1 ≠ s.tenantOf k then some (6, 3)
  else if leAt b 9 1 ≠ 0 ∨ leAt b 13 3 ≠ 0 ∨ leAt b 36 4 ≠ 0 then some (1, 8)
  else if s.admissionStopped cl then some (1, 9)
  else if s.permitted k cl = false then some (1, 7)
  else if (cl.cflags.testBit 1 ∧ (s.twinOf d.ch).isNone) ∨ ((s.twinOf d.ch).isSome ∧ cl.tag = 0) then some (1, 6)
  else if cl.maxDeadline < leAt b 16 4 ∨ cl.budget < leAt b 20 4 ∨ eff.2 = 0 then some (1, 4)
  else none

/-- R109 and R330: the cap of the urgency of a channel's ops as it stands now: a virtual function's MAX_URGENCY. -/
def State.urgencyAt (s : State) (k : Channel) : Nat :=
  if k.srcKind = 1 ∧ k.fn ≠ 0 then s.fld TNT_VF.MAX_URGENCY (vfIdx k.port k.fn) else 3

/-- R144 and R145: a descriptor has arrived. -/
def State.intake (s : State) (d : Desc) (k : Channel) (bytes : List Byte) : State :=
  let d' := { d with bytes := bytes, t0 := s.stampIn (12 + d.engine / 4), waiting := true, cap := s.urgencyAt k }
  let s : State := { s with svc := { s.svc with descs := s.svc.descs.map (fun x => if x = d then d' else x) } }
  match lookupKey k.cls s.svc.classes with
  | none => s.turnAway d' 1 7
  | some cl =>
    match s.intakeFault d' k cl with
    | some q => if q.1 = 6 then s.spoof d' k q.2 else s.turnAway d' q.1 q.2
    | none => s

/-- Takes the read of a channel's descriptor off the outstanding requests of its port. -/
def State.endDescRead (s : State) (k : Channel) (ch : Nat) : State :=
  match s.pcie.reads.find? (fun r => r.port == k.port && r.asker == .descriptor ch) with
  | some r =>
    let s : State := { s with pcie := { s.pcie with reads := s.pcie.reads.erase r, misses := dropKey ch s.pcie.misses, retry := dropKey ch s.pcie.retry } }
    s.refreshTags k.port
  | none => s

/-- R331: a quiesced function has nothing admitted, no read outstanding and no tag quarantined. -/
def State.quiet (s : State) (port fn : Nat) : Bool :=
  !(s.svc.ops.any (fun q => q.2.state != .aborted && (match s.chan q.2.ch with
    | some k => k.srcKind == 1 && k.port == port && k.fn == fn
    | none => false))) &&
    !(s.svc.descs.any (fun d => (s.fnChans port fn).contains d.ch)) && !(s.pcie.reads.any (fun r => r.port == port && r.fn == fn)) && !(s.pcie.holds.any (fun r => r.port == port && r.fn == fn))

/-- R331: ends every VF_QUIESCE whose function has become quiet. -/
def State.endQuiesces (s : State) : State :=
  ((s.keeper.boxes.map (fun q => (q.2.taken.filter (fun k => k.opcode == 0x0A01 && k.ran && k.final.isNone)).map
    (fun k => (q.1, k)))).flatten).foldl (fun s x =>
      let p := leAt x.2.payload 0 1
      let fn := leAt x.2.payload 2 2
      if s.quiet p fn then (s.set TNT_VF.STATE (vfIdx p fn) 3).finish x.1 x.2.id ⟨stOk, 0, []⟩ else s) s

/-- A quarantined tag is freed. -/
def State.freeHold (s : State) (x : TagHold) : State :=
  (({ s with pcie := { s.pcie with holds := s.pcie.holds.erase x } }).refreshTags x.port).endQuiesces

/-- R350, R354 and R355: a completion of a quarantined tag is dropped; it is reported unless its request was aborted. `last` says that it ends
the request's byte count, which frees the tag. -/
def State.lateCpl (s : State) (p tag : Nat) (last : Bool) : State :=
  match s.pcie.holds.find? (fun x => x.port == p && x.tag == tag) with
  | some x =>
    let s := if x.silent then s else (s.set PCIE_PORT_EVT.LATE_CPL p 1).portFails true p x.fn 16 2
    if last then s.freeHold x else s
  | none => s

/-- A descriptor read's completion that comes after its time is late (R354): the read has timed out. -/
def State.lateDesc (s : State) (k : Channel) (ch : Nat) : Option State :=
  match s.pcie.reads.find? (fun r => r.port == k.port && r.asker == .descriptor ch) with
  | some r => if r.issued + s.cplTicks k.port < s.stb then some ((s.readTimesOut r).lateCpl k.port r.tag true) else none
  | none => none

/-- R109 and R311: the traffic of an engine that reads a core channel's descriptor: that of its class, in the world of the channel. -/
def State.fetchUses (s : State) (e : Nat) (k : Channel) : Traffic :=
  match lookupKey k.cls s.svc.classes with
  | some c => engineTraffic e c.tag c.urgency (s.groupSecure k.grp)
  | none => engineTraffic e 0 0 (s.groupSecure k.grp)

/-- INTAKE (R144 to R146): the last byte of the oldest descriptor that engine `e` reads from channel `ch` arrives. `bytes` is what the
host's completion carries; a core channel's descriptor is read from memory. -/
def execIntake (t : Stamp) (e : Nat) (ch : Nat) (bytes : List Byte) (s : State) : Res :=
  liveS t s (fun s =>
    match s.svc.descs.find? (fun d => d.engine == e && d.ch == ch && d.bytes.isEmpty), s.chan ch with
    | some d, some k =>
      if k.srcKind = 1 then
        if bytes.length ≠ 64 then s
        else match s.lateDesc k ch with
          | some s' => s'
          | none => (s.endDescRead k ch).intake d k bytes
      else
        let a := k.sqBase + 64 * ((d.sqHead + k.sqSize - 1) % k.sqSize)
        let g := s.fetchUses e k
        if !(s.mayTraffic g false a 64) then s
        else if s.populated a = false ∨ s.addrSecure a ≠ g.world then ((s.homeRefused a).dropDescs (fun x => x == d)).endService ch
        else
          let q := s.readNow a 64
          let s := s.traffic g false a 64
          if q.2 then (s.dropDescs (fun x => x == d)).endService ch else s.intake d k q.1
    | _, _ => s)

/-! ### Admission -/

/-- What the admission test gives: the cores of the halves (none in the best-effort queue), or the reason of the refusal. -/
def State.admitTest (s : State) (d : Desc) (k : Channel) (cl : SvcClass) : (List (Option Nat)) ⊕ Nat :=
  let eff := effective d cl
  let dl := d.t0 + eff.1
  let u := if cl.cflags.testBit 0 then ceilDiv cl.jrecMax 64 else 0
  if cl.tag = 0 then
    if d.t0 + guardTicks + eff.2 > dl then .inr 5
    else if s.freeEntriesOk = false then .inr 2
    else if s.freeUnitsOk u = false then .inr 3
    else .inl [none]
  else
    match s.coreTime cl.tag k.grp eff.2 dl d.t0 [] none with
    | .inr r => .inr r
    | .inl c =>
      match (s.twinOf d.ch).bind s.chan with
      | none => if s.entriesOk cl.tag 1 = false then .inr 2 else if s.unitsOk cl.tag u = false then .inr 3 else .inl [some c]
      | some k2 =>
        match s.coreTime cl.tag k2.grp eff.2 dl d.t0 [] none with
        | .inr r => .inr r
        | .inl c2 =>
          if s.entriesOk cl.tag 2 = false then .inr 2
          else if s.unitsOk cl.tag (2 * u) = false then .inr 3
          else .inl [some c, some c2]

/-- The op of a descriptor as its entry holds it (R151, R152). -/
def State.newOp (s : State) (d : Desc) (k : Channel) (cl : SvcClass) (id part : Nat) (mate : Option Nat) (grp : Nat)
    (core : Option Nat) : Op :=
  let eff := effective d cl
  { id := id, part := part, mate := mate, ch := d.ch, engine := d.engine, cls := k.cls, grp := grp, tag := cl.tag,
    urgency := min cl.urgency d.cap,
    t0 := d.t0, admitted := s.stb, deadline := d.t0 + eff.1, budget := eff.2, attempt := part, state := .queued, core := core,
    dispatched := 0, result := 0, units := if cl.cflags.testBit 0 then ceilDiv cl.jrecMax 64 else 0, used := 0,
    sqHead := d.sqHead, redisp := false, bytes := d.bytes }

/-- R147 to R150: one descriptor is admitted or refused; `start` is the state at the start of the ring cycle (R148). -/
def State.admitDesc (start : State) (s : State) (d : Desc) : State :=
  match s.chan d.ch with
  | none => s
  | some k =>
    match lookupKey k.cls s.svc.classes with
    | none => s.turnAway d 1 7
    | some cl =>
      if s.admissionStopped cl then s.turnAway d 1 9
      else
        match s.admitTest d k cl with
        | .inr r =>
          let tie := (r == 2 || r == 3) && (match start.admitTest d k cl with
            | .inl _ => true
            | .inr _ => false)
          let s := if tie then s.set IE_EVT.ENTRY_TIE_LOST d.engine 1 else s
          (if r = 3 then s.set JNL_EVT.FULL_REFUSAL 0 1 else s).turnAway d 1 r
        | .inl cores =>
          let s := (s.countOp chipBank 0x401 k.grp cl.tag).countOp (engineBank d.engine) 0x307 k.grp cl.tag
          let q := s.takeEntry
          let s := q.2.setOp (q.2.newOp d k cl q.1 0 none k.grp (cores.headD none))
          let s : State := { s with svc := { s.svc with descs := s.svc.descs.erase d } }
          match cores with
          | [_, c2] =>
            let r := s.takeEntry
            let g2 := (((s.twinOf d.ch).bind s.chan).map Channel.grp).getD k.grp
            r.2.setOp (r.2.newOp d k cl r.1 1 (some q.1) g2 c2)
          | _ => s

/-- ADMISSION (R144, R147 to R150): the Almanac evaluates the requests of one ring cycle, the oldest of each engine, in ascending
engine number. -/
def execAdmission (t : Stamp) (s : State) : Res :=
  liveS t s (fun s0 =>
    let ds := (List.range 16).filterMap (fun e => s0.svc.descs.find? (fun d => d.engine == e && d.waiting))
    ds.foldl (State.admitDesc s0) s0)

/-! ### Answers -/

/-- The records of an op in mirrored journals that its answer settles. -/
def State.markRecs (s : State) (ops : List Nat) : List JRec := s.jnl.recs.filter (fun r => ops.contains r.op && !r.closed && r.mirrored)

/-- R165 and R306: the marks of records in mirrored journals. -/
def State.sendMarks (s : State) (rs : List JRec) (keep : Option Nat) : State :=
  rs.foldl (fun s r =>
    match s.partnerOf r.journal with
    | some q =>
      let good := keep == some r.op && !r.void
      s.sendMark q { r with confirmed := good, void := !good }
    | none => s) s

/-- R332 and R355: an op is recorded as aborted, and its mirrored records are marked void. -/
def State.abortMarked (s : State) (i result : Nat) : State :=
  (s.abortRecord i result).sendMarks (s.markRecs ((s.parts i).map Op.id)) none

/-- R141: a completion record. -/
def Answer.bytes (a : Answer) (cflags jseq : Nat) (now : Stamp) : List Byte :=
  leBytes 8 a.cookie ++ leBytes 1 a.status ++ leBytes 1 cflags ++ leBytes 2 a.sqHead ++ leBytes 4 a.opInfo ++ leBytes 8 jseq ++
    leBytes 4 a.result ++ leBytes 4 (min (now - a.t0) (2 ^ 32 - 1))

/-- R109 and R311: the traffic of the engine that answers: that of the op's class, its urgency capped for a virtual function as at the
op's intake stamp (R330), in the world of the channel. -/
def State.answerTraffic (s : State) (a : Answer) : Traffic :=
  match a.ops.findSome? s.op, s.chan a.ch with
  | some o, some k => engineTraffic a.engine o.tag o.urgency (s.groupSecure k.grp)
  | none, some k =>
    match lookupKey k.cls s.svc.classes with
    | some c => engineTraffic a.engine c.tag (min c.urgency a.cap) (s.groupSecure k.grp)
    | none => engineTraffic a.engine 0 0 (s.groupSecure k.grp)
  | _, none => engineTraffic a.engine 0 0 true

/-- R139 and R142: writes the record at CQ_TAIL and signals it. -/
def State.postAnswer (s : State) (a : Answer) (k : Channel) (cflags jseq : Nat) : State :=
  let i := chIdx a.engine a.ch
  let tail := s.fld IE_CH_STATE.CQ_TAIL i
  let data := a.bytes (cflags + s.fld IE_CH_STATE.PHASE i) jseq s.stb
  let addr := k.cqBase + 32 * tail
  let s := s.lessOutstanding a.engine a.ch
  let next := fun (s : State) =>
    let s := s.set IE_CH_STATE.CQ_TAIL i ((tail + 1) % k.cqSize)
    if tail + 1 = k.cqSize then s.set IE_CH_STATE.PHASE i (1 - s.fld IE_CH_STATE.PHASE i) else s
  if k.srcKind = 1 then
    if s.pathOpen a.ch then ((next s).postWrite k.port k.fn addr 3 data).msix k.port k.fn k.vector else s
  else if s.populated addr ∧ s.addrSecure addr = s.groupSecure k.grp then
    let s := ((next s).traffic (s.answerTraffic a) true addr 32).storeNow addr data
    if s.is IE_CH_DB.IRQ_EN i then
      s.msi (s.fld IE_CH_DB.HART i) (s.fld IE_CH_DB.FILE i) (s.fld IE_CH_DB.GUEST i) k.vector
    else s
  else ((next s).homeRefused addr).endService a.ch

/-- R133: the withdrawal answers are written. -/
def State.endWithdrawing (s : State) : State :=
  if s.svc.answers.any (fun a => a.status == 5 && a.result == 1) then s else s.set ALM_STATUS.WITHDRAWING 0 0

/-- The RESULT of an op of a channel that is recorded as aborted when its answer falls due (R161, R355). -/
def State.abortResult (s : State) (ch : Nat) : Nat :=
  match s.chan ch with
  | some k => ((s.pcie.resets.find? (fun r => r.port == k.port && r.fn == k.fn)).map FnReset.aborted).getD 1
  | none => 1

/-- R142, R151, R165 and R355: the oldest answer of an engine is issued: its records are settled, its entries freed. -/
def State.issueAnswer (s : State) (a : Answer) : State :=
  let s : State := { s with svc := { s.svc with answers := s.svc.answers.erase a,
                                                runs := s.svc.runs.map (fun (q : Nat × CoreRun) =>
      if s.is DSP_CORE.HOLDING q.1 ∧ a.ops.contains (s.fld DSP_CORE.OP_ID q.1) ∧ q.2.answer.isSome then
        (q.1, { q.2 with issued := s.stb }) else q) } }
  if s.pathOpen a.ch = false ∧ (a.ops.findSome? s.op).isSome then
    (((a.ops.findSome? s.op).map Op.main).elim s (fun i => s.abortMarked i (s.abortResult a.ch))).endReleases.endQuiesces.endWithdrawing
  else
  let s := match a.ops.findSome? s.op with
    | some o => if a.status = 0 then s.countOp chipBank 0x402 o.grp o.tag
        else if a.status = 2 then s.countOp chipBank 0x403 o.grp o.tag
        else if a.status = 5 then s.countOp chipBank 0x404 o.grp o.tag else s
    | none => s
  let marks := s.markRecs a.ops
  let q := s.settleRecs a.ops a.keep
  let s := match s.chan a.ch with
    | some k => q.2.postAnswer a k (a.cflags + (if q.1 = 0 then 0 else 2)) q.1
    | none => q.2
  let s := s.sendMarks marks a.keep
  ((a.ops.foldl State.freeEntry s).endReleases.endQuiesces.endWithdrawing).pumpDrains

/-- R126: whether the record of an answer can be written now: to memory, where its engine's request is not held. -/
def State.answerFree (s : State) (a : Answer) : Bool :=
  match s.chan a.ch with
  | some k => k.srcKind == 1 || s.mayTraffic (s.answerTraffic a) true (k.cqBase + 32 * s.fld IE_CH_STATE.CQ_TAIL (chIdx a.engine a.ch)) 32
  | none => true

/-- ANSWER (R142): engine `e` issues the record of its oldest decided answer. It waits while the write is held. -/
def execAnswer (t : Stamp) (e : Nat) (s : State) : Res :=
  liveS t s (fun s =>
    match s.svc.answers.find? (fun a => a.engine == e) with
    | some a => if s.answerFree a then s.issueAnswer a else s
    | none => s)

/-! ### The Xbcn instructions -/

/-- R173: the cause an Xbcn instruction or CSR raises at a hart's mode, or none; `ws` for WSWITCH. -/
def State.xbcnCause (s : State) (h : Nat) (ws : Bool) : Option Nat :=
  let x := s.hart h
  let hs := if ws then s.is MXBCFG.WS_EN h else s.is MXBCFG.TX_S h
  let u := hs && s.is SXBCFG.TX_U h && (ws || s.is MXBCFG.TX_U h)
  if x.priv = 3 then none
  else if (if x.priv = 0 then u else hs) = false then some 2
  else if x.virt ∧ s.fld SXBCFG.TX_V h = 0 then some 22
  else none

/-- R172: whether an instruction is an Xbcn encoding that is illegal in itself. -/
def xbcnReserved (ins : Nat) : Bool :=
  ins % 128 == 0x2B || (ins % 128 == 0x0B && (decide (4 ≤ bitsOf ins 12 3) || bitsOf ins 25 7 != 0))

/-- R171 to R173: runs an Xbcn instruction of funct3 `f3` at a hart that can execute it. `bad` says that a field of it is illegal.
Another instruction's encoding has no effect here. -/
def State.xbcn (s : State) (h ins f3 : Nat) (bad : Bool) (f : State → State) : State :=
  if !(s.ready h) then s
  else if xbcnReserved ins then s.badIns h 2 ins
  else if ins % 128 ≠ 0x0B ∨ bitsOf ins 12 3 ≠ f3 then s
  else if bad then s.badIns h 2 ins
  else
    match s.xbcnCause h (f3 == 3) with
    | some c => s.badIns h c ins
    | none => f s

/-- The rd, rs1 and rs2 fields. -/
def insRd (ins : Nat) : Nat := bitsOf ins 7 5
/-- The rs1 field. -/
def insRs1 (ins : Nat) : Nat := bitsOf ins 15 5
/-- The rs2 field. -/
def insRs2 (ins : Nat) : Nat := bitsOf ins 20 5

/-- TNEXT (R153, R154): `ins` is the instruction word. -/
def execTnext (t : Stamp) (h : Nat) (ins : Nat) (s : State) : Res :=
  liveS t s (fun s => s.xbcn h ins 0 (insRd ins == 0) (fun s =>
    let buf := (s.xreg h (insRs1 ins)).toNat
    let limit := min (s.xreg h (insRs2 ins)).toNat 32768
    if buf % 64 ≠ 0 then s.except h 6 (BitVec.ofNat 64 buf)
    else if s.is DSP_CORE.HOLDING h ∨ s.fld DSP_CORE.IN_GROUP h = 0 then s.retire h (insRd ins) 0
    else
      let s := (s.setRun h { s.run h with tnext := some (insRd ins, buf, s.stb + limit) }).serveCore h
      if limit = 0 then s.endWait h else s))

/-- TNEXT_WAIT_EXPIRY (R154). -/
def execTnextWaitExpiry (t : Stamp) (h : Nat) (s : State) : Res :=
  liveS t s (fun s =>
    match (s.run h).tnext with
    | some q => if q.2.2 ≤ s.stb then s.endWait h else s
    | none => s)

/-- R155, R158 and R160: the end of the op that a core holds, with its result word. -/
def State.tdone (s : State) (h rd result : Nat) : State :=
  if s.fld DSP_CORE.HOLDING h = 0 then (s.setMip h 20 false).retire h rd 0x200
  else
    let id := s.fld DSP_CORE.OP_ID h
    let s := s.fireLimits h
    match (s.run h).answer with
    | some a =>
      let s := (s.releaseCore h).retire h rd (BitVec.ofNat 64 (0x100 + a.1))
      if s.is DSP_CORE.OUT h then
        (s.set DSP_CORE.OUT h 0).trigger [116 + s.fld DSP_CORE.GROUP h] true (coreColl h).unit
      else s
    | none =>
      let s := (s.releaseCore h).retire h rd 0
      match s.op id with
      | none => s
      | some o =>
        let s := s.setOp { o with state := .comparing, result := result }
        if o.mate.isSome ∨ (s.parts id).length ≠ 1 then s.compareTwins o.main
        else s.decideOp id 0 result 0 (some id)

/-- TDONE (R155). -/
def execTdone (t : Stamp) (h : Nat) (ins : Nat) (s : State) : Res :=
  liveS t s (fun s => s.xbcn h ins 1 (insRs2 ins != 0) (fun s =>
    s.tdone h (insRd ins) ((s.xreg h (insRs1 ins)).toNat % 2 ^ 32)))

/-- JCOMMIT (R162). -/
def execJcommit (t : Stamp) (h : Nat) (ins : Nat) (s : State) : Res :=
  liveS t s (fun s => s.xbcn h ins 2 false (fun s =>
    let n := (s.xreg h (insRs2 ins)).toNat
    if n = 0 ∨ 992 < n then s.badIns h 2 ins
    else
      match s.mayCommit h n with
      | none => s.retire h (insRd ins) 0
      | some _ => s.readBody h (insRd ins) (s.xreg h (insRs1 ins)).toNat n))

/-! ### Limits -/

/-- BUDGET_OVERRUN (R156): the budget timer of a core has reached its end. -/
def execBudgetOverrun (t : Stamp) (c : Nat) (s : State) : Res :=
  liveS t s (fun s => s.fireOverrun c)

/-- DEADLINE_GUARD (R157): the guard of an op's deadline. -/
def execDeadlineGuard (t : Stamp) (id : Nat) (s : State) : Res :=
  liveS t s (fun s => s.fireGuard id)

/-- R158: the stamp of the answer of the op a core holds: that of its issue, or of its abort; none while it is to be issued. -/
def State.answerStamp (s : State) (c : Nat) : Option Stamp :=
  let r := s.run c
  match r.answer with
  | none => none
  | some a =>
    if r.issued ≠ 0 then some r.issued
    else if s.svc.answers.any (fun x => x.ops.contains (s.fld DSP_CORE.OP_ID c) && x.decided == a.2) then none
    else some a.2

/-- CORE_WITHDRAW (R158): a core that has executed no TDONE for 32,768 ticks after the answer of its op is withdrawn. -/
def execCoreWithdraw (t : Stamp) (c : Nat) (s : State) : Res :=
  liveS t s (fun s =>
    match s.answerStamp c with
    | some a =>
      if s.is DSP_CORE.HOLDING c ∧ s.is DSP_CORE.IN_GROUP c ∧ s.fld DSP_CORE.OUT c = 0 ∧ a + 32768 ≤ s.stb then
        (((s.strand c).set DSP_CORE.OUT c 1).set DSP_EVT.CORE_WITHDRAWN 0 1).trigger [116 + s.fld DSP_CORE.GROUP c] false (coreColl c).unit
      else s
    | none => s)

/-- A JCOMMIT that waits for a record retires with a value. -/
def State.endCommit (s : State) (j seq : Nat) (v : Word) : State :=
  (s.svc.runs.filter (fun q => match q.2.jcommit with
    | some w => w.2.1 == j && w.2.2.1 == seq
    | none => false)).foldl (fun s q => match q.2.jcommit with
      | some w => (s.setRun q.1 { s.run q.1 with jcommit := none }).retire q.1 w.1 v
      | none => s) s

/-- MIRROR_ACK (R166): the partner has acknowledged a record. -/
def execMirrorAck (t : Stamp) (j : Nat) (seq : Nat) (s : State) : Res :=
  liveS t s (fun s =>
    ((s.mapRec j seq (fun r => if r.lost then r else { r with ack := true })).endCommit j seq (BitVec.ofNat 64 seq)).pumpDrains)

/-- R166: a record's acknowledgement is late: the journal has lost its mirror. -/
def State.loseMirror (s : State) (j seq : Nat) : State :=
  let s := (s.mapRec j seq (fun r => { r with lost := true })).set JNL_SEQ.MIRROR_LOST j 1
  ((s.set JNL_EVT.MIRROR_TIMEOUT 0 1).endCommit j seq (BitVec.ofNat 64 (seq + 2 ^ 63))).pumpDrains

/-- MIRROR_ACK_TIMEOUT (R166). -/
def execMirrorAckTimeout (t : Stamp) (j : Nat) (seq : Nat) (s : State) : Res :=
  liveS t s (fun s =>
    if s.svc.runs.any (fun q => match q.2.jcommit with
        | some w => w.2.1 == j && w.2.2.1 == seq && decide (w.2.2.2 ≤ s.stb)
        | none => false) then s.loseMirror j seq
    else s)

/-- DRAIN_WAIT_EXPIRY (R167): WAIT_FRAMES after its first record a journal's block is written with fillers. -/
def execDrainWaitExpiry (t : Stamp) (d : Nat) (j : Nat) (s : State) : Res :=
  liveS t s (fun s =>
    match (s.drain d).blocks.find? (fun b => b.journal == j && !b.sent) with
    | some b => if s.drainRuns d ∧ b.first + 32768 * s.fld JNL_DRAIN.WAIT_FRAMES d ≤ s.stb then s.writeBlock d j else s
    | none => s)

/-- DRAIN_WRITE_COMPLETION (R167, R168): the Write command of the block at an LBA has completed. -/
def execDrainWriteCompletion (t : Stamp) (d : Nat) (lba : Nat) (ok : Bool) (s : State) : Res :=
  liveS t s (fun s =>
    match (s.drain d).blocks.find? (fun b => b.lba == lba && b.sent && !b.done) with
    | none => s
    | some b =>
      if (s.fld JNL_STATUS.DRAIN_HALTED 0).testBit d ∨ s.drainedFree d = false then s
      else
      let s := s.takeDrained d
      if ok then
        let x := s.drain d
        let s := s.setDrain d (x.modify (fun c => c == b) (fun c => { c with done := true }))
        (s.freeBlocks d b.journal x.blocks.length).pumpDrains
      else s.drainFailed d b)

/-- DRAIN_COMMAND_TIMEOUT (R168): a Write command has not completed within 100 ms. -/
def execDrainCommandTimeout (t : Stamp) (d : Nat) (lba : Nat) (s : State) : Res :=
  liveS t s (fun s =>
    match (s.drain d).blocks.find? (fun b => b.lba == lba && b.sent && !b.done) with
    | some b => if s.drainRuns d ∧ b.issued - 1 + msTicks 100 ≤ s.stb then s.drainFailed d b else s
    | none => s)

end Sys2Proof.Machine
end

