-- ==== Sys2Proof/Machine/RegOps.lean ====
section
/-! DEFINITION. Reads and writes of registers (R4 to R9, R31, R32, R34): access types, reserved encodings, the registers whose values
are those of other state, and the writes that act. -/

namespace Sys2Proof.Machine

/-- What an access to the register space answers: a refusal by the reasons of ERR (R248; 0 none), or a value, and the state. -/
structure RegAns where
  err : Nat
  val : Nat
  state : State

/-- The world of an access's path: the sideband and the keeper's messages are the keeper's. -/
def Via.isSecure : Via → Bool
  | .core _ sec => sec
  | .endpoint _ => false
  | .sideband => true

/-! ### Clocks and votes of blocks (R326, R327) -/

/-- A write of BLK_CLK_CTRL (R327): from the normal world it has no effect on a held block, and a NOTE is raised. -/
def State.clockGate (s : State) (i o v : Nat) (secure : Bool) : State :=
  if s.blkHeld i ∧ secure = false then s.noteSecure FLT_SECURE.GATE_WRITE (blockUnit (6 * (i / 8) + i % 8))
  else if o = 0 then s.put BLK_CLK_CTRL.GATE i (v % 2)
  else s

/-! ### Derived values -/

/-- The registers whose value is that of other state, as they read. -/
def State.derived (s : State) (r : Reg) (i w : Nat) (x : Word) : Word :=
  match r with
  | .STB_NOW => BitVec.ofNat 64 s.stb
  | .STB_OFFSET => if s.fld STB_STATE.STATE 0 = 3 then wset x 32 32 ((s.stb - s.clock.holdAt) / 4000000) else x
  | .ALM_STATUS => wset x 16 15 (s.alm.books.filter s.heldBooking).length
  | .ALM_SHARE => wset (wset x 0 32 (s.share (i % 64) (i / 64))) 32 32 (s.honouredShare (i % 64) (i / 64))
  | .IE_STATUS =>
    let x := wset x 1 4 (s.svc.descs.filter (fun d => d.engine == i)).length
    let x := wset x 5 1 (flag ((List.range 8).any (fun d => s.is JNL_DRAIN.ENABLE d && s.fld JNL_DRAIN.ENGINE d == i)))
    wset x 16 13 (s.svc.channels.filter (fun q => q.2.engine q.1 == i)).length
  | .DSP_STATUS =>
    wset (wset x 0 18 (s.liveOps.filter (fun o => o.state == .queued)).length) 18 9
      ((List.range 288).filter (fun c => s.is DSP_CORE.HOLDING c)).length
  | .DSP_GROUP =>
    let mine := s.liveOps.filter (fun o => o.state == .queued && o.grp == i)
    if w = 0 then
      let cs := s.groupCores i
      wset (wset (wset x 0 18 mine.length) 18 9 cs.length) 27 9
        (((lookupKey i s.svc.groups).map SvcGroup.cores).getD [] |>.filter (fun c => s.is DSP_CORE.OUT c)).length
    else if w = 1 then BitVec.ofNat 64 (((headOf (s.groupQueue i)).map Op.deadline).getD 0)
    else x
  | .DSP_CORE => wset x 27 18 (s.coreQueue i).length
  | .OPT_STATUS =>
    wset (wset (wset x 0 17 (entryCount - s.heldEntries)) 17 17 s.heldEntries) 34 14 s.keptEntries
  | .OPT_TAG => wset (wset x 0 17 (s.tagEntries i)) 17 17 (s.allowed 2 i)
  | .JNL_STATUS => wset x 0 21 (1048576 - s.usedUnits - (s.cst.mirrored.map (fun r => r.body.length / 64)).sum)
  | .JNL_TAG => wset (wset x 0 21 (s.tagUnits i)) 21 21 (s.allowed 3 i)
  | .WLD_BLK_STATE => wset (wset (wset x 1 1 (flag (s.secureVote i))) 2 1 (flag (s.blkHeld i))) 3 1 (flag (s.blkGated i))
  | .TNT_VF =>
    if w = 0 then
      wset x 24 17 (s.svc.ops.filter (fun q => q.2.state != .aborted && q.2.mate.isNone && (match s.chan q.2.ch with
        | some k => k.srcKind == 1 && vfIdx k.port k.fn == i
        | none => false))).length
    else x
  | .HA_STATUS =>
    let mine := s.fab.txns.filter (fun q => q.slice == i)
    let way8 := (s.fab.filter.filter (fun q => q.1.1 == i && (lookupKey 8 q.2.ways).isSome)).length
    let turned := (mine.filter (fun y => y.victim && mine.any (fun q => q.parked && (sfKey false q.line).1 == (sfKey false y.line).1))).length
    wset (wset (wset x 0 10 (mine.length + (s.fab.waits.filter (fun q => q.1 == i)).length)) 10 10 ((mine.filter Txn.parked).length - turned)) 20 15 way8
  | .PCIE_PORT_STATUS => wset x 0 2 (s.portRole i)
  | .PCIE_LINK => if s.units.portDown.contains (i / 4) then 0 else x
  | .PPM_CEIL => wset x 16 8 (s.blockSteps i)
  | .NF_STATUS => if w = 0 then wset x 12 1 (flag s.restoring) else x
  | .CORE_PWR =>
    if s.fld CORE_PWR.STATE i = 0 ∧ ((s.run i).tnext.isSome ∨ s.blkGated (8 * (i / 24) + i % 24 / 4)) then wset x 4 2 1 else x
  | .HA_SF_STAT =>
    wset x 0 18 ((s.fab.filter.filter (fun q => q.1.1 == i)).map (fun q => (q.2.ways.filter (fun e => e.2.presence != 0)).length)).sum
  | .RING_STATUS =>
    let pinned := (s.fab.net.filter (fun f => f.pkt.pinned && (match f.place with
      | .riding r _ _ _ => r == i
      | _ => false))).length
    let x := wset x 0 16 pinned
    wset (wset x 16 1 (flag (lookupKey (2 * i) s.fab.claims).isSome)) 17 1 (flag (lookupKey (2 * i + 1) s.fab.claims).isSome)
  | .LINK_TRACK =>
    let mine := s.cst.remotes.filter (fun q => q.link == i)
    wset (wset x 0 12 (mine.filter (fun q => !q.quarantined)).length) 12 12 (mine.filter (fun q => q.quarantined)).length
  | .FLT_SEV_LO =>
    (List.range 32).foldl (fun (x : Word) b => if (collAt i).lowerBit b then wset x (2 * b) 2 (s.bitLevel (collAt i) b - 1) else x) x
  | .FLT_SEV_HI =>
    (List.range 32).foldl (fun (x : Word) b =>
      if (collAt i).lowerBit (32 + b) then wset x (2 * b) 2 (s.bitLevel (collAt i) (32 + b) - 1) else x) x
  | _ => x

/-- The block whose collectors a register belongs to, where it is a collector's (R359). -/
def collectorBlock (r : Reg) (i : Nat) : Option (Nat × Nat) :=
  let j := match r with
    | .FLT_STATUS => some i
    | .FLT_SEV_LO => some i
    | .FLT_SEV_HI => some i
    | .FLT_FIXED => some i
    | .FLT_FIRST => some i
    | .FLT_SRC => some (i / 64)
    | _ => none
  match j.map collAt with
  | some (.block l b) => some (l, b)
  | some (.cell l b _) => some (l, b)
  | _ => none

/-- Takes the bits of a 4-byte or 8-byte access at an offset within a word. -/
def halfOf (x : Word) (o n : Nat) : Nat := wbits x (8 * o) (8 * n)

/-- Whether an access covers bits of a field. -/
def Fld.covered (f : Fld) (o n : Nat) : Bool := decide (8 * o < f.lo + f.w) && decide (f.lo < 8 * (o + n))

/-- Whether a doorbell register of an engine is answered: its channel is a core channel that the engine serves (R138, IE_CH_DB). -/
def State.answersDoor (s : State) (i : Nat) : Bool :=
  match s.behind (.engine (i / 4096) (i % 4096)) with
  | .inl _ => false
  | .inr _ => true

/-- R4, R9: a read of a word: write-only fields read 0, and the fields of type RC that the access covers are cleared. DESIGN CHOICE (log
43): a normal-world read of an SRW field on a page that is not secure-only answers its current value, as in the secure world. Doorbell registers
that are not answered read 0 and set BAD_DOORBELL, and the collectors of a secure block read 0 in the normal world (R359). -/
def State.readWord (s : State) (r : Reg) (i w o n : Nat) (secure : Bool) : Nat × State :=
  if (collectorBlock r i).any (fun q => s.blockSecure q.1 q.2) ∧ secure = false then (0, s)
  else if r = .CTR_VALUE then
    let q := s.sample (i / 16) (i % 16)
    (halfOf (BitVec.ofNat 64 (q.1 + s.stb % 65536 * 2 ^ 48)) o n, q.2)
  else if r = .IE_CH_DB ∧ s.answersDoor i = false then (0, s.badBell (i / 4096))
  else
    let fs := r.fields.filter (fun f => f.word == w)
    let x := (fs.filter (fun f => f.acc == .wo)).foldl (fun (x : Word) f => wset x f.lo f.w 0) (s.derived r i w (s.word r i w))
    let q := (fs.filter (fun f => f.acc == .rc && f.covered o n)).foldl (fun (q : Word × State) f =>
      let a := q.2.readClear f i
      (wset q.1 f.lo f.w a.1, a.2)) (x, s)
    (halfOf q.1 o n, q.2)

/-! ### Writes -/

/-- R417: whether an event code is of a bank's level, or 0. -/
def eventOk (bank code : Nat) : Bool :=
  let l := bank / 64 / 8
  let b := bank / 64 % 8
  let within := fun (lo hi : Nat) => decide (lo ≤ code) && decide (code ≤ hi)
  code == 0 ||
  (if bank < 8704 then
    code == 0x0F ||
      (if l < 12 then within 1 0x0D
       else if l = 16 then false
       else match b with
        | 0 => within 0x301 0x303
        | 1 => within 0x301 0x303
        | 2 => within 0x301 0x303
        | 3 => within 0x304 0x306
        | 4 => within 0x304 0x306
        | 5 => within 0x309 0x30A
        | 6 => within 0x30B 0x30C
        | _ => within 0x307 0x308)
   else if bank < 8840 then within 0x101 0x105
   else if bank < chipBank then within 0x201 0x207 || (decide (bank - 8840 < 12) && within 0x208 0x209)
   else within 0x401 0x405)

/-- R8: whether a value is a reserved encoding of a field, which then keeps its value. DESIGN CHOICE (log 43): a value outside the range that a table gives counts as reserved where the table states a
range of the field, but not QID 0, an LBA_COUNT below 2, nor EIID 0 in RP_IRQ and MBX_IRQ, which are written as they are. -/
def reservedEnc (f : Fld) (i v : Nat) : Bool :=
  let out := fun (lo hi : Nat) => decide (v < lo) || decide (hi < v)
  if f = STB_CTRL.SOURCE then v == 3
  else if f = STB_CTRL.HOLDOVER_S then out 1 86400
  else if f = IE_CH_DB.HART ∨ f = RP_IRQ.HART then out 0 287
  else if f = IE_CH_DB.FILE ∨ f = RP_IRQ.FILE ∨ f = CST_MSG_SEND.FILE then v == 3
  else if f.reg = .JNL_DRAIN_MAP ∨ f = CST_MIRROR_SLOT.DRAIN then !(out 8 14)
  else if f = JNL_DRAIN.QLOG2 then out 2 12
  else if f = JNL_DRAIN.WAIT_FRAMES ∨ f = FLT_SRC.THRESHOLD ∨ f = FLT_SRC.LEAK_MS then v == 0
  else if f = IEC_RANGE.SIZE then out 0 6
  else if f = RING_CTRL.STARVE_LIMIT then out 16 255
  else if f = ARB_PORT.HOLD_LIMIT then out 1 (holdLimitReset i)
  else if f = CST_CTRL.REMOTE_TO then out 100 4000
  else if f = CORE_PWR.IDLE_STATE then v == 3
  else if f = BLK_FREQ.REQ then out 16 128
  else if f = EP_APERTURE.PAGES then out 0 4194304
  else if f = CTR_CFG.WORLD_F ∨ f = CTR_CFG.RANGE_SEL then v == 3
  else if f = CTR_CFG.EVENT then !(eventOk (i / 16) v)
  else false

/-- Fields that a write leaves alone beside their type: those of tag 0 (ALM_TAG_CFG), severities (R360), the buckets that keep the defaults
of R367 (R366), and what a counter bank that is no core's reserves. -/
def unwritable (f : Fld) (i : Nat) : Bool :=
  (f.reg == .ALM_TAG_CFG && i == 0) || f.reg == .FLT_SEV_LO || f.reg == .FLT_SEV_HI ||
    ((f == CTR_CFG.INH || f == CTR_CFG.OF) && (bankCore (i / 16)).isNone) ||
    (f.reg == .FLT_SRC && (match (collAt (i / 64)).source (i % 64) with
      | some d => !d.settable
      | none => true))

/-- The value that a write of the low `n` bytes of `v` at byte `o` of a word gives a field. -/
def Fld.written (f : Fld) (x : Word) (o n v : Nat) : Nat :=
  let m : Word := maskAt (8 * o) (8 * n)
  wbits ((x &&& ~~~ m) ||| (BitVec.ofNat 64 (v * 2 ^ (8 * o)) &&& m)) f.lo f.w

/-- R5: a NOTE to the collector of the register's level. -/
def State.lockNote (s : State) (level addr : Nat) : State :=
  if level = 16 then s.raise { coll := .chip, bit := 24, addr := addr } else s.raise { coll := .region level, bit := 22, addr := addr }

/-- R4 to R8: one field of a word that is written. -/
def State.writeField (s : State) (f : Fld) (i o n v : Nat) (secure : Bool) : State :=
  let nv := f.written (s.word f.reg i f.word) o n v
  let put := fun (_ : Unit) => if reservedEnc f i nv || unwritable f i then s else s.put f i nv
  match f.acc with
  | .rw => put ()
  | .wo => put ()
  | .rwl => if s.locked then s else put ()
  | .srw => if secure then put () else s
  | .w1c => if f.written 0 o n v = 0 then s else s.clearBit f i
  | .w1s => s.put f i (s.fld f i ||| f.written 0 o n v)
  | .ro => s
  | .rc => s

/-- R4 to R8: every field of a word that is written, with the NOTEs of R5 and R6. -/
def State.writeFields (s : State) (r : Reg) (i w o n v level addr : Nat) (secure : Bool) : State :=
  let fs := r.fields.filter (fun f => f.word == w && f.covered o n)
  let t := fs.foldl (fun (s : State) f => s.writeField f i o n v secure) s
  let t := if s.locked ∧ fs.any (fun f => f.acc == .rwl) then t.lockNote level addr else t
  if secure = false ∧ fs.any (fun f => f.acc == .srw) then t.noteSecure FLT_SECURE.SRW_WRITE 0x00FFFFFF addr else t

/-- A write of a drain channel's word 0 (R167, R168): while ENABLE is 1 only the write that clears it acts; 0 to 1 resumes. -/
def State.drainWrite (s : State) (d o n v level addr : Nat) (secure : Bool) : State :=
  let was := s.is JNL_DRAIN.ENABLE d
  if was ∧ secure then
    (if JNL_DRAIN.ENABLE.covered o n ∧ v % 2 = 0 then s.put JNL_DRAIN.ENABLE d 0 else s)
  else
    let s := s.writeFields .JNL_DRAIN d 0 o n v level addr secure
    if !was ∧ s.is JNL_DRAIN.ENABLE d then s.resumeDrain d else s

/-- R382: a write of CORE_PWR.CLK_SRC: 1 moves the core to its block PLL once it is locked, 0 has no effect in a service group. -/
def State.clkSrc (s : State) (c v : Nat) : State :=
  if v = 1 then
    if s.is CORE_PWR.CLK_SRC c then s else (s.put CORE_PWR.CLK_SRC c 1).set CORE_PWR.CLK_SWITCHING c 1
  else if s.is DSP_CORE.IN_GROUP c then s
  else (s.put CORE_PWR.CLK_SRC c 0).set CORE_PWR.CLK_SWITCHING c 0

/-- A write of a counter's configuration takes effect at its stamp (R419). -/
def State.ctrCfg (s : State) (k o n v level addr : Nat) (secure : Bool) : State :=
  (s.settleCount (k / 16) (k % 16)).writeFields .CTR_CFG k 0 o n v level addr secure

/-! ### Doorbells between packages (R301) -/

/-- R301: a doorbell message at its target: an MSI to the named hart, or dropped and counted. -/
def State.takeMessage (s : State) (from_ hart file guest eiid : Nat) (secure : Bool) : State :=
  let ok := (s.word .CST_MSG_ALLOW (from_ / 64) 0).toNat.testBit (from_ % 64) && !(file == 0 && !secure) && decide (hart < 288) &&
    s.coreUp hart && eiid != 0
  if ok then s.msi hart file (if file = 2 then guest else 0) eiid else s.bump CST_MSG_STATUS.DROPPED 0

/-- R301: a write of CST_MSG_SEND sends one message. -/
def State.sendMessage (s : State) (secure : Bool) : State :=
  let d := s.fld CST_MSG_SEND.DEST_PKG 0
  let f := fun (F : Fld) => s.fld F 0
  if s.fld CST_STATUS.MEMBER 0 = 0 ∨ (s.word .CST_MEMBERS (d / 64) 0).toNat.testBit (d % 64) = false then
    s.bump CST_MSG_STATUS.DROPPED 0
  else
    let s := s.bump CST_MSG_STATUS.SENT 0
    if d = s.fld CST_STATUS.NUMBER 0 then
      s.takeMessage d (f CST_MSG_SEND.HART) (f CST_MSG_SEND.FILE) (f CST_MSG_SEND.GUEST) (f CST_MSG_SEND.EIID) secure
    else s.toPackage d 0 [f CST_MSG_SEND.HART, f CST_MSG_SEND.FILE, f CST_MSG_SEND.GUEST, f CST_MSG_SEND.EIID, flag secure]

/-! ### The space -/

/-- R4 to R8 with the writes that act: `n` bytes of `v` at byte `o` of a word. -/
def State.writeWord (s : State) (r : Reg) (i w o n v level addr : Nat) (secure : Bool) : State :=
  match r with
  | .IE_CH_DB =>
    if s.answersDoor i = false then s.badBell (i / 4096)
    else if o = 0 ∧ w = 0 then s.ringSq (.engine (i / 4096) (i % 4096)) v
    else if o = 0 ∧ w = 1 then s.ringCq (.engine (i / 4096) (i % 4096)) v
    else s.writeFields r i w o n v level addr secure
  | .CST_MSG_SEND => (s.writeFields r i w o n v level addr secure).sendMessage secure
  | .BLK_CLK_CTRL => s.clockGate i o v secure
  | .WLD_BLK_SEC =>
    let was := s.is WLD_BLK_SEC.SVOTE i
    let s := s.writeFields r i w o n v level addr secure
    let s := if 136 ≤ i then s.set WLD_BLK_SEC.SGATE i 0 else s
    if was = s.is WLD_BLK_SEC.SVOTE i then s else s.setSvote i (!was)
  | .CORE_PWR =>
    let s' := s.writeField CORE_PWR.IDLE_STATE i o n v secure
    if o = 0 then s'.clkSrc i (bitsOf v 2 1) else s'
  | .JNL_DRAIN =>
    if w = 0 then s.drainWrite i o n v level addr secure
    else if s.is JNL_DRAIN.ENABLE i ∧ secure then s
    else s.writeFields r i w o n v level addr secure
  | .CTR_CFG => s.ctrCfg i o n v level addr secure
  | .FLT_SRC =>
    let t := s.writeFields r i w o n v level addr secure
    if t.fld FLT_SRC.LEAK_MS i = s.fld FLT_SRC.LEAK_MS i then t else t.restartBucket (collAt (i / 64)) (i % 64) none (s.fld FLT_SRC.LEAK_MS i)
  | .CST_MIRROR_SLOT => (s.writeFields r i w o n v level addr secure).pumpDrains
  | .NF_CFG => (s.writeFields r i w o n v level addr secure).decideArming
  | _ => s.writeFields r i w o n v level addr secure

/-- A write of 4 or 8 bytes into a mailbox window whose path is right (R31, R41). -/
def State.windowWriteN (s : State) (m off n v : Nat) : State :=
  let base := off / 8 * 8
  if n = 8 then s.windowWrite m off v
  else if 0x1000 ≤ off ∧ off < 0x2000 then
    let b := s.box m
    s.setBox m { b with ring := ((List.range n).foldl (fun r j => nputd r (off - 0x1000 + j) (BitVec.ofNat 8 (v / 256 ^ j)) 0) b.ring) }
  else if base = 0x38 then s.set MBX_EVT_MASK.EVT_EN m (MBX_EVT_MASK.EVT_EN.written (s.word .MBX_EVT_MASK m 0) (off - base) n v)
  else if off = base then s.windowWrite m off v
  else if base = 0x08 ∧ v.testBit 31 then s.boxReset m
  else s

/-- The level that a register or an offset without one belongs to, and whether it lies in a secure-only page. -/
def RegPlace.area : RegPlace → Option (Nat × Bool)
  | .reg _ _ _ level page => some (level, page)
  | .blank level page => some (level, page)
  | _ => none

/-- DIE_ID and DIE_CAP, which a brick that was not brought up answers (R34). -/
def RegPlace.identifies : RegPlace → Bool
  | .reg r _ _ _ _ => r == .DIE_ID || r == .DIE_CAP
  | _ => false

/-- R34, R6 and R266: why an access of a path to a place is refused, by the reasons of ERR; 0 where it is served. -/
def State.refusal (s : State) (via : Via) (p : RegPlace) : Nat :=
  match p with
  | .hole => 1
  | .window m _ =>
    let normal := match via with
      | .core _ sec => !sec
      | _ => false
    if m < 4 ∧ normal = true then 2 else 0
  | p =>
    match p.area with
    | none => 0
    | some (level, page) =>
      if level < 12 ∧ s.brickUp level = false ∧ p.identifies = false then
        (if (s.fld CHIP_ID.BRICK_UP 0).testBit level then 4 else 1)
      else if page ∧ via.isSecure = false then 2 else 0

/-- R31: whether an access is 4 or 8 bytes, naturally aligned. -/
def regAligned (a n : Nat) : Bool := (n == 8 && a % 8 == 0) || (n == 4 && a % 4 == 0)

/-- What an access that is refused for a reason raises: a NOTE to the secure collector for a normal-world access to a secure-only page
(R6), a NOTE under R447 for the reasons 1, 3 and 4 of R266. -/
def State.regRefused (s : State) (p : RegPlace) (a reason : Nat) : State :=
  if reason = 2 then
    match p.area with
    | some _ => s.noteSecure FLT_SECURE.PAGE_ACCESS 0x00FFFFFF a
    | none => s
  else s.note41 (regPlaceUnit a) a

/-- R423: a user slot reads its granted counter as CTR_VALUE does, or 0. -/
def State.slotRead (s : State) (k o n : Nat) : Nat × State :=
  if k < 64 ∧ s.is CTR_USER_MAP.VALID k then
    let q := s.sample (unitBank (s.fld CTR_USER_MAP.UNIT k)) (s.fld CTR_USER_MAP.COUNTER k)
    (halfOf (BitVec.ofNat 64 (q.1 + s.stb % 65536 * 2 ^ 48)) o n, q.2)
  else (0, s)

/-- A read of `n` bytes of the register space. An offset of a populated unit at which no register lies reads a free value
(log 8). -/
def State.regRead (s : State) (via : Via) (a n : Nat) : RegAns :=
  let p := placeOf a
  let e := s.refusal via p
  if !(regAligned a n) then ⟨3, 0, s.regRefused p a 3⟩
  else if e ≠ 0 then ⟨e, 0, s.regRefused p a e⟩
  else
    match p with
    | .reg r i w _ _ =>
      let q := s.readWord r i w (a % 8) n via.isSecure
      ⟨0, q.1, q.2⟩
    | .window m off =>
      let q := s.windowLoad m (off / 8 * 8) via
      ⟨0, halfOf q.1 (a % 8) n, q.2⟩
    | .slot k =>
      let q := s.slotRead k (a % 8) n
      ⟨0, q.1, q.2⟩
    | .blank _ _ => ⟨0, s.free.1 % 256 ^ n, s.free.2⟩
    | .hole => ⟨1, 0, s⟩

/-- A write of `n` bytes of the register space. -/
def State.regWrite (s : State) (via : Via) (a n v : Nat) : RegAns :=
  let p := placeOf a
  let e := s.refusal via p
  if !(regAligned a n) then ⟨3, 0, s.regRefused p a 3⟩
  else if e ≠ 0 then ⟨e, 0, s.regRefused p a e⟩
  else
    match p with
    | .reg r i w level _ => ⟨0, 0, s.writeWord r i w (a % 8) n (v % 256 ^ n) level a via.isSecure⟩
    | .window m off =>
      ⟨0, 0, if s.pathOk m via then s.windowWriteN m (off + a % 8) n (v % 256 ^ n) else s.pathViolation m off via⟩
    | _ => ⟨0, 0, s⟩

end Sys2Proof.Machine
end

