-- ==== Sys2Proof/Machine/Time.lean ====
section
/-! DEFINITION. The rows of the Sidereal Time Base (spec chapter 03): STB_CONFIG and STB_STATUS, pulses, holdover, replicas and
timers. -/

namespace Sys2Proof.Machine

/-- Whether STB_CONFIG changes the discipline source or, for source 2, its link. -/
def State.newSource (s : State) (src link : Nat) : Bool :=
  s.fld STB_STATE.SOURCE 0 != src || (src == 2 && s.fld STB_STATE.LINK 0 != link)

/-- STB_CONFIG (R73, R100, R105, R106). -/
def cmdStbConfig (c : Caller) (p : List Byte) (s : State) : Reply :=
  let src := leAt p 0 1
  let link := leAt p 1 1
  let fl := leAt p 2 1
  let hold := leAt p 4 4
  let epoch := leAt p 8 8
  paramChecks s [(0, decide (2 < src)), (1, src == 2 && (decide (7 < link) || s.fld LINK_STATUS.STATE link != 2)),
      (2, decide (1 < fl)), rsv p 3 1, (4, fl == 1 && (hold == 0 || decide (86400 < hold))),
      (8, epoch != 0 && (s.opHeld || s.is CST_STATUS.MEMBER 0))] fun _ =>
    let param := resyncParam src link fl hold epoch
    if s.newSource src link then requestFor c (newAct 9 0x00FFFFFF param (.mailbox c.box)) s
    else .ok (s.setHoldover param)

/-- STB_CONFIG (R105). -/
def execStbConfig (t : Stamp) (m : Nat) (s : State) : Res := rowCommand t m 0x0700 cmdStbConfig s

/-- STB_STATUS (R106). -/
def cmdStbStatus (_ : Caller) (_ : List Byte) (s : State) : Reply :=
  .ok s (leBytes 8 s.stb ++ leBytes 1 (s.fld STB_STATE.STATE 0) ++ leBytes 1 (s.fld STB_STATE.SOURCE 0) ++ leBytes 2 0 ++
    leBytes 4 (s.fld STB_OFFSET.OFFSET_PS 0) ++ leBytes 4 s.holdoverMs)

/-- STB_STATUS (R106). -/
def execStbStatus (t : Stamp) (m : Nat) (s : State) : Res := rowCommand t m 0x0701 cmdStbStatus s

/-- RESYNC_TIMEOUT (R106): 3 s after its doorbell stamp (after its start, where no command awaits it) a re-sync that still runs ends with
ST_TIMEOUT, its source restored. -/
def execResyncTimeout (t : Stamp) (s : State) : Res :=
  liveS t s (fun s =>
    match s.clock.resync with
    | none => s
    | some r =>
      if r.start + msTicks 3000 ≤ s.stb then (s.restoreSource).closeAct r.act 4 stTimeout else s)

/-- The offset of a pulse edge, in units of 10 ps, from the nearest point of the grid of R99, in ps. -/
def gridOffset (edge epoch : Nat) : Int :=
  let period : Int := 100000000000
  let x : Int := ((edge : Int) - 25 * (epoch : Int)) % period
  10 * (if 2 * x ≤ period then x else x - period)

/-- R99: whether a pulse edge follows the last by 1 s ± 100 µs (edges in units of 10 ps). -/
def pulseValid (last : Option Nat) (edge : Nat) : Bool :=
  match last with
  | some e => decide (e + 25 * 3999600000 ≤ edge) && decide (edge ≤ e + 25 * 4000400000)
  | none => false

/-- STB_PPS (R99 to R101): a pulse edge in tick `tick`, `frac` units of 10 ps after its beginning; its stamp is 2 to 3 ticks after the edge
(R89). The first pulse of all follows none and only begins the series. A pulse while SOURCE is 0 or 2 changes no offset (log 30). -/
def execStbPps (t : Stamp) (tick : Nat) (frac : Nat) (s : State) : Res :=
  liveS t s (fun s0 =>
    let edge := 25 * tick + frac
    let last := s0.clock.lastEdge
    if 25 * s0.stb < edge + 50 ∨ edge + 75 < 25 * s0.stb then s0 else
    let s : State := { s0 with clock := { s0.clock with lastEdge := some edge } }
    if pulseValid last edge then
      if s.fld STB_STATE.SOURCE 0 = 1 then (s.disciplinePulse (gridOffset edge s.clock.epoch) (s.clock.refBad == 0)).landed s0 else s
    else if last.isSome then s.badPulse else s)

/-- REFERENCE_LOSS (R101): of the pulses (no valid one for 1.1 s) or of STB_REF (invalid for 8 frames). A re-sync has its own end. -/
def execReferenceLoss (t : Stamp) (pulses : Bool) (s : State) : Res :=
  liveS t s (fun s =>
    let st := s.fld STB_STATE.STATE 0
    if (st = 1 ∨ st = 2) ∧ s.clock.resync.isNone ∧
        (if pulses then s.clock.lastGood + 4400000000 ≤ s.stb else 8 ≤ s.clock.refBad ∧ s.fld STB_STATE.SOURCE 0 = 1) then
      let s := s.set STB_EVT.REF_LOST 0 1
      if s.is STB_STATE.HOLDOVER_EN 0 then (s.setDisc 3).holdTrim else s.discFault
    else s)

/-- HOLDOVER_EXPIRY (R101). -/
def execHoldoverExpiry (t : Stamp) (s : State) : Res :=
  liveS t s (fun s =>
    if s.fld STB_STATE.STATE 0 = 3 ∧ s.clock.holdAt + 4000000000 * s.fld STB_CTRL.HOLDOVER_S 0 ≤ s.stb then
      (s.set STB_EVT.HOLDOVER_EXPIRED 0 1).discFault
    else s)

/-- CSR numbers of the supervisor and guest timer compare registers. -/
def csrStimecmp : Nat := 0x14D
def csrVstimecmp : Nat := 0x24D

/-- TIMER_COMPARE (R87): a timer of a hart, the supervisor's or the guest's, whose compare value C the STB has reached at C × 64
has its interrupt pending. -/
def execTimerCompare (t : Stamp) (h : Nat) (guest : Bool) (s : State) : Res :=
  liveS t s (fun s =>
    let c := (s.csr h (if guest then csrVstimecmp else csrStimecmp)).toNat
    if 64 * c ≤ s.regionStb (h / 24) ∧ h < 288 then s.setMip h (if guest then 6 else 5) true else s)

/-! ### Replicas -/

/-- R95: a present marker of a region whose trim is due no more: a residual beyond 125 ps asks for a step, and a position that is off
after a trim is to be corrected at the next meridian; a marker before that changes nothing about it. The position lies within the agreement bound of R93 and R94 (log 45). -/
def State.marker (s : State) (r : Nat) (residual off : Int) : State :=
  let x := s.replica r
  let k : Int := s.agreement r
  let step : Int := if 125 < residual then 1 else if residual < -125 then -1 else 0
  let s := s.set STB_REPLICA.RESIDUAL r (twos 8 (residual / 10))
  let x := { x with missed := 0, checked := some (frameOf s.stb), step := step }
  s.moveReplica r (if x.trimmed ∧ x.off = 0 then { x with off := max (-k) (min k off), offAt := frameOf s.stb } else x)

/-- R94: a marker that is missing or misplaced: after 2 successive ones the region takes its fallback. -/
def State.noMarker (s : State) (r : Nat) : State :=
  let x := s.replica r
  let f := frameOf s.stb
  let n := if x.checked = some (f - 1) ∧ 0 < f then x.missed + 1 else 1
  let s := s.moveReplica r { x with missed := n, checked := some f }
  if 2 ≤ n then
    (if r < 12 ∧ s.fld STB_REPLICA.PATH r = 0 then s.set LB_STATUS.BRIDGE_LOST 0 (withBit (s.fld LB_STATUS.BRIDGE_LOST 0) r)
      else s).toFallback r false
  else s

/-- Whether the replica of a region is checked now: at a meridian, once. -/
def State.markerDue (s : State) (r : Nat) : Bool :=
  decide (r < 16) && decide (s.stb % 32768 = 0) && (s.replica r).checked != some (frameOf s.stb)

/-- REPLICA_MARKER_CHECK (R93 to R95), at a meridian: `missing` says that the marker is missing or misplaced; `residual` is in ps, `off`
the ticks the replica is ahead. -/
def execReplicaMarkerCheck (t : Stamp) (r : Nat) (missing : Bool) (residual off : Int) (s : State) : Res :=
  liveS t s (fun s =>
    if s.markerDue r then (if missing then (s.trimDue r).noMarker r else (s.trimDue r).marker r residual off) else s)

/-- REPLICA_CORRECTION (R96), at a meridian after the one at which the replica was found off: it is corrected against the master; a
second correction within 1 s moves it to the fallback, or fails it there. -/
def execReplicaCorrection (t : Stamp) (r : Nat) (s : State) : Res :=
  liveS t s (fun s =>
    let x := s.replica r
    if x.off = 0 ∨ 16 ≤ r ∨ s.stb % 32768 ≠ 0 ∨ frameOf s.stb ≤ x.offAt then s
    else
      let again := match x.fixed with
        | some f => decide (s.stb < f + 4000000000)
        | none => false
      let v := s.regionStb r
      let s := s.moveReplica r { x with off := 0, fixed := some s.stb, hold := if s.stb < v then some v else none }
      let s := (s.set STB_REPLICA.REPLICA_ERR r 1).set STB_EVT.REPLICA_ERR 0 1
      let s := s.raise { coll := .region r, bit := 19 }
      if again then
        if s.is STB_REPLICA.PATH r then (s.raise { coll := .region r, bit := 24 }).sourceAction (.region r) 24
        else s.toFallback r false
      else s)

/-- REPLICA_HOLD_END (R96). -/
def execReplicaHoldEnd (t : Stamp) (r : Nat) (s : State) : Res :=
  live t s (fun s =>
    match (s.replica r).hold with
    | some v => if v ≤ s.stb then s.moveReplica r { s.replica r with hold := none } else s
    | none => s)

end Sys2Proof.Machine
end

