-- ==== Sys2Proof/Machine/CsrOps.lean ====
section
/-! DEFINITION. CSRs of a hart (R87, R88, R170, R173, R176 to R178, R422; the rest of the map, its privilege checks and the fields of
its registers are those of the RISC-V Privileged, Hypervisor, Advanced Interrupt and Debug architectures, which R170 names, log 14):
who may access one, what it reads, and what a write changes. -/

namespace Sys2Proof.Machine

/-! ### Which CSRs there are -/

/-- Whether a number lies in a range. -/
def inRange (n lo hi : Nat) : Bool := decide (lo ≤ n) && decide (n ≤ hi)

/-- The standard CSRs that a core implements. -/
def csrExists (n : Nat) : Bool :=
  inRange n 0x001 0x003 || inRange n 0x008 0x00A || n == 0x00F || inRange n 0xC20 0xC22 || inRange n 0xC00 0xC1F ||
    inRange n 0x104 0x106 || n == 0x100 || n == 0x10A || inRange n 0x10C 0x10F || inRange n 0x140 0x144 || n == 0x14D ||
    inRange n 0x150 0x151 || n == 0x15C || n == 0x180 || n == 0x5A8 || n == 0xDA0 || n == 0xDB0 ||
    n == 0x200 || inRange n 0x204 0x205 || inRange n 0x240 0x244 || n == 0x24D || inRange n 0x250 0x251 || n == 0x25C ||
    n == 0x280 || n == 0xEB0 || n == 0x600 || inRange n 0x602 0x60A || inRange n 0x60C 0x60F || inRange n 0x643 0x647 ||
    n == 0x64A || n == 0x680 || n == 0x6A8 || n == 0xE12 ||
    inRange n 0x300 0x306 || inRange n 0x308 0x30A || inRange n 0x30C 0x30F || n == 0x320 || inRange n 0x323 0x33F ||
    inRange n 0x340 0x344 || inRange n 0x34A 0x34B || inRange n 0x350 0x351 || n == 0x35C || n == 0x747 ||
    (inRange n 0x3A0 0x3AF && n % 2 == 0) || inRange n 0x3B0 0x3EF || inRange n 0x7A0 0x7A4 || n == 0x7A8 || inRange n 0x7B0 0x7B3 ||
    n == 0xB00 || inRange n 0xB02 0xB1F || inRange n 0xF11 0xF15 || n == 0xFB0

/-- The Xbcn CSRs (R176). -/
def xbcnCsr (n : Nat) : Bool := [0x8C0, 0xCC0, 0xCC1, 0xCC2, 0x7C0, 0x7C1, 0x5C0].contains n

/-- The CSR a number names at a hart: in VS mode the supervisor's numbers name the guest's registers. -/
def State.csrAlias (s : State) (h n : Nat) : Nat :=
  if (s.hart h).virt = true ∧ (n = 0x100 ∨ n = 0x104 ∨ n = 0x105 ∨ inRange n 0x140 0x144 ∨ n = 0x14D ∨ n = 0x150 ∨ n = 0x151 ∨
      n = 0x15C ∨ n = 0x180 ∨ n = 0xDB0) then n + 0x100
  else n

/-! ### Permission -/

/-- The cause for a mode that may not: cause 22 in VS and VU where HS or U mode could, else cause 2 (R176). -/
def forbid (virt could : Bool) : Option Nat := if virt ∧ could then some 22 else some 2

/-- R87: the counter-enable bits that govern a user counter: `time`'s bit 1 governs STBTIME too. -/
def State.counterCause (s : State) (h bit : Nat) : Option Nat :=
  let x := s.hart h
  let m := (s.csr h 0x306).toNat.testBit bit
  let hy := (s.csr h 0x606).toNat.testBit bit
  let su := (s.csr h 0x106).toNat.testBit bit
  if x.priv = 3 then none
  else if m = false then some 2
  else if x.virt ∧ (hy = false ∨ (x.priv = 0 ∧ su = false)) then some 22
  else if x.priv = 0 ∧ su = false then some 2
  else none

/-- R176: the cause an access of an Xbcn CSR raises. -/
def State.xbcnCsrCause (s : State) (h n : Nat) : Option Nat :=
  let x := s.hart h
  if n = 0xCC0 then s.counterCause h 1
  else if n = 0xCC1 ∨ n = 0xCC2 then s.xbcnCause h false
  else if x.priv = 3 then none
  else if n = 0x8C0 then
    let b := s.is MXBCFG.BTAG_EN h
    if (if x.priv = 0 then b && s.is SXBCFG.BTAG_U h else b) then none else forbid x.virt b
  else if n = 0x5C0 then (if x.virt then some 22 else if x.priv = 1 then none else some 2)
  else some 2

/-- Whether a timer's compare register is reached from below M: its enable in menvcfg or henvcfg, and the counter enable of time. -/
def State.stceCause (s : State) (h : Nat) : Option Nat :=
  let x := s.hart h
  if x.priv = 3 then none
  else if (s.csr h 0x306).toNat.testBit 1 = false ∨ (s.csr h 0x30A).toNat.testBit 63 = false then some 2
  else if x.virt ∧ ((s.csr h 0x606).toNat.testBit 1 = false ∨ (s.csr h 0x60A).toNat.testBit 63 = false) then some 22
  else none

/-- The number of the guest file that hstatus.VGEIN names. -/
def State.vgein (s : State) (h : Nat) : Nat := wbits (s.csr h csrHstatus) 12 6

/-- Whether a register of an interrupt file exists: the even ones of a 64-bit hart. -/
def imsicSel (sel : Nat) : Bool :=
  sel == 0x70 || sel == 0x72 || (inRange sel 0x80 0xFF && sel % 2 == 0)

/-- The cause of the standard checks: the number's privilege, traps of virtual memory, counters and timers. -/
def State.standardCause (s : State) (h n : Nat) : Option Nat :=
  let x := s.hart h
  let lvl := bitsOf n 8 2
  if inRange n 0xC00 0xC1F then s.counterCause h (n - 0xC00)
  else if lvl = 3 then (if x.priv = 3 then none else some 2)
  else if lvl = 2 then
    (if x.priv = 3 ∨ (x.priv = 1 ∧ x.virt = false) then
      (if n = 0x680 ∧ x.priv = 1 ∧ (s.csr h csrMstatus).toNat.testBit 20 then some 2 else none)
    else forbid x.virt true)
  else if lvl = 1 then
    if x.priv = 0 then forbid x.virt true
    else if x.priv = 3 then none
    else if n = 0x180 ∧ x.virt ∧ (s.csr h csrHstatus).toNat.testBit 20 then some 22
    else if n = 0x180 ∧ x.virt = false ∧ (s.csr h csrMstatus).toNat.testBit 20 then some 2
    else if n = 0x14D then s.stceCause h
    else if (n = 0x151 ∨ n = 0x15C) ∧ x.virt ∧ (s.vgein h = 0 ∨ 7 < s.vgein h) then some 22
    else none
  else if inRange n 0x001 0x003 then (if wbits (s.csr h csrMstatus) 13 2 = 0 then some 2 else none)
  else if wbits (s.csr h csrMstatus) 9 2 = 0 then some 2 else none

/-- The select register that an indirect register goes by, its file and guest number. -/
def State.indirect (s : State) (h n : Nat) : Option (Nat × Nat × Nat) :=
  if n = 0x351 then some ((s.csr h 0x350).toNat, 0, 0)
  else if n = 0x151 then some ((s.csr h 0x150).toNat, 1, 0)
  else if n = 0x251 then some ((s.csr h 0x250).toNat, 2, s.vgein h)
  else none

/-- Whether an indirect register is reserved at its select value: neither an interrupt file's nor a priority array's. -/
def State.badIndirect (s : State) (h n : Nat) : Bool :=
  match s.indirect h n with
  | none => false
  | some (sel, file, g) => !(imsicSel sel && (file != 2 || inRange g 1 7)) && !(inRange sel 0x30 0x3F && sel % 2 == 0 && file != 2)

/-- Why an access of a CSR raises an exception: its cause, or none. A read-only number is not written. -/
def State.csrCause (s : State) (h n : Nat) (writes : Bool) : Option Nat :=
  if writes ∧ bitsOf n 10 2 = 3 then some 2
  else if xbcnCsr n then s.xbcnCsrCause h n
  else if csrExists n = false ∨ (inRange n 0x7B0 0x7B3 ∧ (s.hart h).halted = false) then some 2
  else
    match s.standardCause h n with
    | some c => some c
    | none => if s.badIndirect h (s.csrAlias h n) then forbid (s.hart h).virt true else none

/-! ### Reading -/

/-- mstatus's fields that a write sets. -/
def mstatusMask : Nat := 0xC0007E7FAA
/-- The fields that sstatus shows of mstatus. -/
def sstatusMask : Nat := 0x80000003000DE762
/-- The fields of sstatus and of vsstatus that a write sets. -/
def sstatusWrite : Nat := 0xC6722
/-- The number that a status register's fields are read with: UXL and SXL are 64 bits, and SD sums up FS and VS. -/
def statusRead (x xl : Nat) : Nat :=
  (x ||| xl) ||| (if bitsOf x 13 2 = 3 ∨ bitsOf x 9 2 = 3 then 2 ^ 63 else 0)

/-- mideleg as it is in force: the guest's interrupts are always delegated. -/
def State.midelegated (s : State) (h : Nat) : Nat := (s.csr h csrMideleg).toNat ||| 0x1444

/-- The identity that an interrupt file gives in its topei: the lowest that is enabled and pending, below the threshold. -/
def State.topEi (s : State) (h file guest : Nat) : Nat :=
  let thr := (s.csr h (imsicReg file guest 0x72)).toNat
  let ids := (s.imsic.filter (fun q => q.1 == h && q.2.1 == file && q.2.2.1 == guest &&
    (s.csr h (imsicReg file guest (0xC0 + q.2.2.2 / 64 * 2))).toNat.testBit (q.2.2.2 % 64) &&
    (thr == 0 || decide (q.2.2.2 < thr)))).map (fun q => q.2.2.2)
  match ids with
  | [] => 0
  | i :: r => let m := r.foldl min i
    m * 65536 + m

/-- 64 bits of an interrupt file's pending identities. -/
def State.eipWord (s : State) (h file guest k : Nat) : Nat :=
  ((List.range 64).map (fun b => if (h, file, guest, 64 * k + b) ∈ s.imsic then 2 ^ b else 0)).sum

/-- What an indirect register reads. -/
def State.readIndirect (s : State) (h sel file guest : Nat) : Nat :=
  if inRange sel 0x80 0xBF then s.eipWord h file guest ((sel - 0x80) / 2)
  else if inRange sel 0x30 0x3F then 0
  else (s.csr h (imsicReg file guest sel)).toNat

/-- topi: the first of a mask of interrupts, with its priority 1. -/
def topIrq (mask : Nat) : Nat :=
  match firstIrq mask with
  | some b => b * 65536 + 1
  | none => 0

/-- A physical memory protection address as it reads at a granularity of 4 KiB (R170). -/
def State.pmpAddrRead (s : State) (h i : Nat) : Nat :=
  if 16 ≤ i then 0
  else
    let v := (s.csr h (0x3B0 + i)).toNat
    if bitsOf (s.pmpCfg h i) 3 2 = 3 then v ||| 511 else v / 1024 * 1024

/-- The place of a debug trigger's register. -/
def State.triggerKey (s : State) (h n : Nat) : Nat := trigCsr (s.csr h 0x7A0).toNat n

/-- R422: the core's counters 0 to 7; the others read 0. -/
def State.hpmRead (s : State) (h i : Nat) : Nat × State :=
  if inRange i 3 10 then s.sample (coreBank h) (i - 3)
  else if i = 0 ∨ i = 2 then (s.free.1 % 2 ^ 64, s.free.2)
  else (0, s)

/-- R87: time as a hart reads it: with htimedelta in VS and VU. -/
def State.timeRead (s : State) (h : Nat) : Nat :=
  s.regionStb (h / 24) / 64 + (if (s.hart h).virt then (s.csr h 0x605).toNat else 0)

/-- R87, R158: what TBUDGET reads: 0 where no unanswered op is held. -/
def State.tbudget (s : State) (h : Nat) : Nat :=
  if s.is DSP_CORE.HOLDING h ∧ s.fld DSP_CORE.ANSWERED h = 0 then (s.run h).dispatched + (s.run h).budget - s.regionStb (h / 24) else 0

/-- R170: bit 21, the enable of the arbitration hint, is present only while CAP_ARB_HINT is set. -/
def State.irqBits (s : State) (m : Nat) : Nat := if (s.fld CHIP_CAP_EFFECTIVE.CAPS 0).testBit 12 then m else withoutBit m 21

/-- What a CSR reads, after the alias of VS mode. -/
def State.csrRead (s : State) (h n : Nat) : Nat × State :=
  let raw := (s.csr h n).toNat
  let st := (s.csr h csrMstatus).toNat
  let del := s.midelegated h
  let vdel := (s.csr h 0x603).toNat &&& 0x444
  let mie := s.irqBits (s.csr h csrMie).toNat
  if inRange n 0xC00 0xC1F ∨ inRange n 0xB00 0xB1F then
    (if n = 0xC01 then (s.timeRead h, s) else s.hpmRead h (n % 32))
  else if inRange n 0x323 0x33F then
    (if n ≤ 0x32A then ((s.word .CTR_CFG (coreBank h * 16 + (n - 0x323)) 0).toNat, s) else (0, s))
  else if inRange n 0x3B0 0x3EF then (s.pmpAddrRead h (n - 0x3B0), s)
  else if inRange n 0x7A1 0x7A3 then ((s.csr h (s.triggerKey h n)).toNat, s)
  else
    match s.indirect h n with
    | some q => (s.readIndirect h q.1 q.2.1 q.2.2, s)
    | none =>
      match n with
      | 0x8C0 => ((s.word .BTAG h 0).toNat, s)
      | 0xCC0 => (s.regionStb (h / 24), s)
      | 0xCC1 => (s.tbudget h, s)
      | 0xCC2 => ((s.word .TOPID h 0).toNat, s)
      | 0x7C0 => ((s.word .MWORLD h 0).toNat, s)
      | 0x7C1 => ((s.word .MXBCFG h 0).toNat, s)
      | 0x5C0 => ((s.word .SXBCFG h 0).toNat, s)
      | 0x001 => (bitsOf (s.csr h 0x003).toNat 0 5, s)
      | 0x002 => (bitsOf (s.csr h 0x003).toNat 5 3, s)
      | 0xC22 => (32, s)
      | 0x300 => (statusRead st 0xA00000000, s)
      | 0x100 => (statusRead (st &&& sstatusMask) 0x200000000, s)
      | 0x200 => (statusRead raw 0x200000000, s)
      | 0x600 => (raw ||| 0x200000000, s)
      | 0x303 => (del, s)
      | 0x344 => (s.pendingIrqs h, s)
      | 0x144 => (s.pendingIrqs h &&& del &&& 0x302222, s)
      | 0x304 => (mie, s)
      | 0x104 => (mie &&& del &&& 0x302222, s)
      | 0x604 => (mie &&& 0x1444, s)
      | 0x644 => (s.pendingIrqs h &&& 0x1444, s)
      | 0x204 => ((mie &&& vdel) / 2, s)
      | 0x244 => ((s.pendingIrqs h &&& vdel) / 2, s)
      | 0x35C => (s.topEi h 0 0, s)
      | 0x15C => (s.topEi h 1 0, s)
      | 0x25C => (s.topEi h 2 (s.vgein h), s)
      | 0xFB0 => (topIrq (s.pendingIrqs h &&& mie &&& (2 ^ 64 - 1 - del)), s)
      | 0xDB0 => (topIrq (s.pendingIrqs h &&& mie &&& del &&& (2 ^ 64 - 1 - vdel)), s)
      | 0xEB0 => (topIrq ((s.pendingIrqs h &&& mie &&& vdel) / 2), s)
      | 0xE12 => (s.guestIrqs h, s)
      | 0x60A => (raw &&& ((s.csr h 0x30A).toNat ||| 0x1FFFFFFFFFFFFFFF), s)
      | 0xDA0 => (((List.range 8).map (fun i =>
          if s.is CTR_CFG.OF (coreBank h * 16 + i) && ((s.hart h).priv == 3 || (s.csr h 0x306).toNat.testBit (i + 3)) then 2 ^ (i + 3)
          else 0)).sum, s)
      | 0xF12 => (0x9288, s)
      | 0xF13 => (0xB0 + s.fld CHIP_ID.BRICK_STEP 0 / 2 ^ (h / 24) % 2, s)
      | 0xF14 => (h, s)
      | 0x7A4 => (0x78, s)
      | _ => (raw, s)

/-! ### Writing -/

/-- The bits of a standard CSR that a write sets; the rest keep their value. -/
def csrMask (n : Nat) : Nat :=
  match n with
  | 0x003 => 0xFF | 0x008 => 0xFF | 0x009 => 1 | 0x00A => 3 | 0x00F => 7
  | 0x300 => mstatusMask
  | 0x200 => sstatusWrite
  | 0x600 => 0x73F3C0
  | 0x302 => 0x7F0B7FF
  | 0x602 => 0xB1FF
  | 0x303 => 0x302222
  | 0x603 => 0x444
  | 0x304 => 0x303EEE
  | 0x7B0 => dcsrMask
  | 0x7B1 => 2 ^ 64 - 2
  | 0x607 => 0xFE
  | 0x645 => 0x444
  | 0x105 => 2 ^ 64 - 3 | 0x205 => 2 ^ 64 - 3 | 0x305 => 2 ^ 64 - 3
  | 0x141 => 2 ^ 64 - 2 | 0x241 => 2 ^ 64 - 2 | 0x341 => 2 ^ 64 - 2
  | 0x106 => 0xFFFFFFFF | 0x306 => 0xFFFFFFFF | 0x606 => 0xFFFFFFFF
  | 0x320 => 5
  | 0x30A => 0xE0000000000000F1
  | 0x60A => 0xE0000003000000F1
  | 0x10A => 0x3000000F1
  | 0x680 => 0xF3FFFFFFFFFFFFFC
  | 0x350 => 0xFFF | 0x150 => 0xFFF | 0x250 => 0xFFF
  | 0x7A0 => 7
  | 0x301 => 0 | 0x747 => 0 | 0x308 => 0 | 0x309 => 0 | 0x608 => 0 | 0x609 => 0 | 0x646 => 0 | 0x647 => 0
  | _ => 2 ^ 64 - 1

/-- A write of a translation root (R170): a mode that is none, or one of five levels without CAP_SV57, leaves the register unchanged. -/
def State.writeRoot (s : State) (h n v : Nat) : State :=
  let m := bitsOf v 60 4
  let sv57 := (s.fld CHIP_CAP_EFFECTIVE.CAPS 0).testBit 3
  if m = 0 ∨ m = 8 ∨ m = 9 ∨ (m = 10 ∧ sv57) then s.setCsr h n (BitVec.ofNat 64 (v &&& csrMask n)) else s

/-- Whether a physical memory protection entry is locked. -/
def State.pmpLocked (s : State) (h i : Nat) : Bool := (s.pmpCfg h i).testBit 7

/-- A protection entry's byte as it is written: a locked one keeps its value; W without R and a 4-byte range are not taken. -/
def State.writePmpCfg (s : State) (h i v : Nat) : State :=
  if 16 ≤ i ∨ s.pmpLocked h i then s
  else
    let old := s.pmpCfg h i
    let v := v &&& 0x9F
    let v := if v.testBit 0 then v else withoutBit v 1
    let v := if bitsOf v 3 2 = 2 then v - 16 + bitsOf old 3 2 * 8 else v
    s.csrBits h (0x3A0 + 2 * (i / 8)) (8 * (i % 8)) 8 v

/-- A protection address: kept where the entry is locked, or bounds a locked range of the next. -/
def State.writePmpAddr (s : State) (h i v : Nat) : State :=
  if 16 ≤ i ∨ s.pmpLocked h i ∨ (s.pmpLocked h (i + 1) ∧ bitsOf (s.pmpCfg h (i + 1)) 3 2 = 1 ∧ i < 15) then s
  else s.setCsr h (0x3B0 + i) (BitVec.ofNat 64 (v % 2 ^ 54))

/-- The interrupts whose pending bits a write of mip sets or clears. -/
def mipMask : Nat := 0x2226

/-- A write of the pending bits of a mask; bit 21 can only be cleared, and stays set where the hardware sets it in the same cycle (R178). -/
def State.writePending (s : State) (h mask v : Nat) : State :=
  let old := s.csr h csrMip
  let own := if (s.csr h 0x30A).toNat.testBit 63 then withoutBit mipMask 5 else mipMask
  let m : Word := BitVec.ofNat 64 (mask &&& own)
  let x := (old &&& ~~~ m) ||| (BitVec.ofNat 64 v &&& m)
  let clears := mask.testBit 21 && !(v.testBit 21) && (s.hart h).hint != some s.stb
  s.setCsr h csrMip (if clears then wset x 21 1 0 else x)

/-- A write of the enable bits of a mask. -/
def State.writeEnables (s : State) (h mask v : Nat) : State :=
  let m : Word := BitVec.ofNat 64 (s.irqBits mask)
  s.setCsr h csrMie ((s.csr h csrMie &&& ~~~ m) ||| (BitVec.ofNat 64 v &&& m))

/-- A write of a compare register of a timer: its interrupt is pending while the compare value is reached (R87). -/
def State.writeTimer (s : State) (h n v : Nat) : State :=
  let s := s.setCsr h n (BitVec.ofNat 64 v)
  s.setMip h (if n = 0x24D then 6 else 5) (decide (64 * v ≤ s.regionStb (h / 24)))

/-- A write of an interrupt file's register. -/
def State.writeIndirect (s : State) (h sel file guest v : Nat) : State :=
  if inRange sel 0x30 0x3F then s
  else if inRange sel 0x80 0xBF then
    let k := (sel - 0x80) / 2
    (List.range 64).foldl (fun (s : State) b =>
      let q := (h, file, guest, 64 * k + b)
      if 64 * k + b = 0 then s
      else if v.testBit b then { s with imsic := if q ∈ s.imsic then s.imsic else s.imsic ++ [q] }
      else { s with imsic := s.imsic.filter (fun x => x != q) }) s
  else
    let v := if sel = 0x70 then v % 2 else if sel = 0x72 then v % 2048 else if sel = 0xC0 then v / 2 * 2 else v
    s.setCsr h (imsicReg file guest sel) (BitVec.ofNat 64 v)

/-- A write of a topei claims the identity it reads. -/
def State.claimEi (s : State) (h file guest : Nat) : State :=
  let i := s.topEi h file guest % 65536
  if i = 0 then s else { s with imsic := s.imsic.filter (fun x => x != (h, file, guest, i)) }

/-- R176, R177: a write of an Xbcn CSR; the first-touch enables read 0 without CAP_FIRST_TOUCH. -/
def State.writeXbcn (s : State) (h n v : Nat) : State :=
  let ft := (s.fld CHIP_CAP_EFFECTIVE.CAPS 0).testBit 7
  let put := fun (r : Reg) (v : Nat) => s.writeFields r h 0 0 8 v 0 0 true
  match n with
  | 0x8C0 => put .BTAG v
  | 0x7C1 => put .MXBCFG (if ft then v else v &&& 0xF)
  | 0x5C0 => put .SXBCFG (if ft then v else v &&& 7)
  | _ => s

/-- A status register's MPP keeps its value where a write names the reserved mode 2. -/
def statusLegal (old new : Nat) : Nat :=
  if bitsOf new 11 2 = 2 then new - bitsOf new 11 2 * 2 ^ 11 + bitsOf old 11 2 * 2 ^ 11 else new

/-- A write of a CSR, after the alias of VS mode. -/
def State.csrWrite (s : State) (h n v : Nat) : State :=
  let del := s.midelegated h
  let vdel := (s.csr h 0x603).toNat &&& 0x444
  let merge := fun (n mask v : Nat) =>
    (BitVec.ofNat 64 v &&& BitVec.ofNat 64 mask) ||| (s.csr h n &&& ~~~ BitVec.ofNat 64 mask)
  if xbcnCsr n then s.writeXbcn h n v
  else if inRange n 0xB00 0xB1F then s
  else if inRange n 0x323 0x33F then
    (if n ≤ 0x32A then s.ctrCfg (coreBank h * 16 + (n - 0x323)) 0 8 v 0 0 true else s)
  else if inRange n 0x3A0 0x3AF then
    (List.range 8).foldl (fun (s : State) j => s.writePmpCfg h ((n - 0x3A0) * 4 + j) (bitsOf v (8 * j) 8)) s
  else if inRange n 0x3B0 0x3EF then s.writePmpAddr h (n - 0x3B0) v
  else if n = 0x7A1 then
    s.setCsr h (s.triggerKey h n) (BitVec.ofNat 64 (withoutBit (if [3, 4, 5, 6].contains (bitsOf v 60 4) then v else v % 2 ^ 59 + 15 * 2 ^ 60) 59))
  else if inRange n 0x7A2 0x7A3 then s.setCsr h (s.triggerKey h n) (BitVec.ofNat 64 v)
  else
    match s.indirect h n with
    | some q => s.writeIndirect h q.1 q.2.1 q.2.2 v
    | none =>
      match n with
      | 0x001 => (s.csrBits h 0x003 0 5 v).dirtyUnit h n
      | 0x002 => (s.csrBits h 0x003 5 3 v).dirtyUnit h n
      | 0x003 => (s.setCsr h n (merge n (csrMask n) v)).dirtyUnit h n
      | 0x008 => (s.setCsr h n (merge n (csrMask n) v)).dirtyUnit h n
      | 0x009 => (s.setCsr h n (merge n (csrMask n) v)).dirtyUnit h n
      | 0x00A => (s.setCsr h n (merge n (csrMask n) v)).dirtyUnit h n
      | 0x00F => (s.setCsr h n (merge n (csrMask n) v)).dirtyUnit h n
      | 0x300 => s.setCsr h n (merge n (csrMask n) (statusLegal (s.csr h n).toNat v))
      | 0x100 => s.setCsr h csrMstatus (merge csrMstatus sstatusWrite v)
      | 0x180 => s.writeRoot h n v
      | 0x280 => s.writeRoot h n v
      | 0x680 => s.writeRoot h n v
      | 0x344 => s.writePending h (mipMask + 2 ^ 21) v
      | 0x144 => s.writePending h (del &&& 0x202002) v
      | 0x644 => s.writePending h 4 v
      | 0x244 => s.writePending h (vdel &&& 4) (2 * v)
      | 0x645 =>
        let s' := s.setCsr h n (merge n 0x444 v)
        ((s'.setMip h 2 (v.testBit 2)).setMip h 6 (v.testBit 6)).setMip h 10 (v.testBit 10)
      | 0x304 => s.writeEnables h (csrMask n) v
      | 0x104 => s.writeEnables h (del &&& 0x302222) v
      | 0x604 => s.writeEnables h 0x1444 v
      | 0x204 => s.writeEnables h vdel (2 * v)
      | 0x14D => s.writeTimer h n v
      | 0x24D => s.writeTimer h n v
      | 0x35C => s.claimEi h 0 0
      | 0x15C => s.claimEi h 1 0
      | 0x25C => s.claimEi h 2 (s.vgein h)
      | _ => s.setCsr h n (merge n (csrMask n) v)

/-! ### A core's saved state (R407, R194) -/

/-- The CSRs that hold state, in ascending order, but for the counters (R407; log 14). -/
def stateCsrs : List Nat :=
  [0x003, 0x008, 0x00F, 0x105, 0x106, 0x10A, 0x10C, 0x10D, 0x10E, 0x10F, 0x140, 0x141, 0x142, 0x143, 0x14D, 0x150, 0x180, 0x200, 0x205,
    0x240, 0x241, 0x242, 0x243, 0x24D, 0x250, 0x280] ++
  [0x300, 0x302, 0x303, 0x304, 0x305, 0x306, 0x308, 0x309, 0x30A, 0x30C, 0x30D, 0x30E, 0x30F, 0x320, 0x340, 0x341, 0x342, 0x343, 0x344,
    0x34A, 0x34B, 0x350, 0x3A0, 0x3A2] ++
  (List.range 16).map (fun i => 0x3B0 + i) ++
  [0x5A8, 0x5C0, 0x600, 0x602, 0x603, 0x605, 0x606, 0x607, 0x608, 0x609, 0x60A, 0x60C, 0x60D, 0x60E, 0x60F, 0x643, 0x645, 0x646, 0x647,
    0x64A, 0x680, 0x6A8, 0x747, 0x7A0, 0x7A1, 0x7A2, 0x7A3, 0x7A8, 0x7C0, 0x7C1, 0x8C0, 0xCC2]

/-- Whether a core stands at an instruction boundary: it is in service and no access of it is in flight. -/
def State.atBoundary (s : State) (c : Nat) : Bool :=
  s.coreUp c && (s.hart c).released && (lookupKey c s.fab.misses).isNone && (s.run c).jcommit.isNone

/-- R407: the core-state record of a core. -/
def State.coreRecord (s : State) (c : Nat) : List Byte :=
  let x := s.hart c
  let d := (s.csr c 0x7B0).toNat
  let mode := if x.halted then (d.testBit 5, d % 4) else (x.virt, x.priv)
  let flags := flag (s.atBoundary c) + 2 * flag mode.1 + 4 * mode.2 + 16 * s.fld MWORLD.WORLD c +
    32 * s.fld CORE_WFRAME.OPEN c + 64 * s.fld DSP_CORE.HOLDING c
  let csrs := stateCsrs.flatMap (fun n => leBytes 8 n ++ leBytes 8 (s.csrRead c n).1)
  let body := leBytes 8 flags ++ leBytes 8 x.pc.toNat ++
    (List.range 31).flatMap (fun i => leBytes 8 (s.xreg c (i + 1)).toNat) ++
    (List.range 32).flatMap (fun i => leBytes 8 ((lookupKey (c, i) s.fregs).getD 0).toNat) ++
    (List.range 32).flatMap (fun i => leBytes 32 ((lookupKey (c, i) s.vregs).getD 0).toNat) ++
    leBytes 8 0 ++ csrs ++ leBytes 16 (2 ^ 128 - 1)
  body ++ leBytes (4096 - body.length) 0

end Sys2Proof.Machine
end

