-- ==== Sys2Proof/Machine/CoreRows.lean ====
section
/-! DEFINITION. World switches (R321 to R324), binary pairs (R68, R191 to R197) and the intake engines' caches (R184 to R188). -/

namespace Sys2Proof.Machine

/-! ### WSWITCH -/

/-- R322: the bit of CALLERS for a hart's mode. -/
def callerBit (x : Hart) : Nat := if x.virt then 2 else if x.priv = 3 then 3 else x.priv

/-- R322: the environment-call cause of a hart's mode. -/
def ecallCause (x : Hart) : Nat := if x.priv = 3 then 11 else if x.priv = 0 then 8 else if x.virt then 10 else 9

/-- R322: a gate call. -/
def State.gateCall (s : State) (h rd : Nat) (v : Word) : State :=
  let i := v.toNat % 64
  let x := s.hart h
  if s.fld WLD_GATE.VALID i = 0 then s.retire h rd 1
  else if (s.fld WLD_GATE.CALLERS i).testBit (callerBit x) = false then s.retire h rd 2
  else
    let t := (((s.setCsr h csrMstatus (s.mStack h)).setCsr h csrMepc x.pc).setCsr h csrMcause (causeWord (ecallCause x) false)).setCsr h csrMtval v
    let t := (((t.set CORE_WFRAME.OPEN h 1).set CORE_WFRAME.GATE h i).set CORE_WFRAME.RD h rd).set CORE_WFRAME.CALLER_MODE h x.priv
    let t := (t.set CORE_WFRAME.CALLER_V h (flag x.virt)).toWorld h 1
    t.setHart h { x with pc := BitVec.ofNat 64 (4 * s.fld WLD_GATE.ENTRY i), priv := 3, virt := false,
                         saved := [s.xreg h 2, s.xreg h 3, s.xreg h 4] } |>.stepped h

/-- What MRET does to mstatus and the mode. -/
def State.mretMode (s : State) (h : Nat) : State :=
  let st := s.csr h csrMstatus
  let p := wbits st 11 2
  let st' := wset (wset (wset (wset st 3 1 (wbits st 7 1)) 7 1 1) 11 2 0) 39 1 0
  let st' := if p = 3 then st' else wset st' 17 1 0
  (s.setCsr h csrMstatus st').setHart h { s.hart h with priv := p, virt := p != 3 && wbits st 39 1 == 1 }

/-- R324: a return from a gate. -/
def State.gateReturn (s : State) (h rs1 : Nat) : State :=
  let v := s.xreg h rs1
  let rd := s.fld CORE_WFRAME.RD h
  let saved := (s.hart h).saved
  let s := ([2, 3, 4].zip saved).foldl (fun (s : State) q => s.setX h q.1 q.2) s
  let s := ([1, 5, 6, 7, 8, 9] ++ (List.range 14).map (fun i => 18 + i)).foldl (fun (s : State) r => s.setX h r 0) s
  let s : State := { s with fregs := s.fregs.filter (fun q => q.1.1 != h), vregs := s.vregs.filter (fun q => q.1.1 != h) }
  let s := [0x001, 0x002, 0x003, 0x008, 0xC20].foldl (fun (s : State) n => s.setCsr h n 0) s
  let s := (s.csrBits h 0xC21 63 1 1).setX h rd v
  let s := ((s.mretMode h).toWorld h 0).setWord .CORE_WFRAME h 0 0
  (s.setHart h { s.hart h with pc := s.csr h csrMepc + 4, saved := [] }).stepped h

/-- WSWITCH (R321). -/
def execWswitch (t : Stamp) (h : Nat) (ins : Nat) (s : State) : Res :=
  liveS t s (fun s => s.xbcn h ins 3 (insRs2 ins != 0) (fun s =>
    let x := s.hart h
    let rd := insRd ins
    let open_ := s.is CORE_WFRAME.OPEN h
    if s.hartSecure h then
      if x.priv ≠ 3 then s.badIns h 2 ins
      else if open_ then s.gateReturn h (insRs1 ins)
      else (s.toWorld h 0).retire h rd 0
    else if open_ then s
    else if x.priv = 3 ∧ s.is MWORLD.BLOCK_WORLD h then (s.toWorld h 1).retire h rd 0
    else s.gateCall h rd (s.xreg h (insRs1 ins))))

/-! ### Binary pairs -/

/-- R68: whether a core may form a pair. -/
def State.pairable (s : State) (c : Nat) : Bool :=
  decide (c < 288) && s.coreUp c && s.fld CORE_PAIR.STATE c == 0 && !(s.is DSP_CORE.HOLDING c)

/-- Sets both cores of a pair. -/
def State.setPair (s : State) (a b sa sb : Nat) : State :=
  let s := (s.set CORE_PAIR.STATE a sa).set CORE_PAIR.STATE b sb
  (s.set CORE_PAIR.PARTNER a b).set CORE_PAIR.PARTNER b a

/-- R196: the divergences of two cores that count at the present stamp. -/
def State.divergences (s : State) (a b : Nat) : List Stamp :=
  ((lookupKey (min a b, max a b) s.units.diverged).getD []).filter (fun d => decide (s.stb < d + 345600000000000))

/-- What PAIR leaves of the trailing core: its state is discarded; its IMSIC keeps its interrupts (R191, R192). -/
def State.trail (s : State) (b : Nat) : State := ((s.clearL1 b).wipeHart b).setRun b CoreRun.idle

/-- PAIR (R68, R192, R193). The cores that fail a precondition are named in DETAIL. -/
def cmdPair (c : Caller) (p : List Byte) (s : State) : Reply :=
  let a := leAt p 0 2
  let b := leAt p 2 2
  paramChecks s [(0, decide (287 < a)), (2, decide (287 < b)), rsv p 4 4] fun _ =>
    if (s.boxPort c.box).isSome ∨ (c.secure = false ∧ (s.coreSecure a ∨ s.coreSecure b)) then .no s stDeniedWorld
    else if (s.fld CHIP_CAP_EFFECTIVE.CAPS 0).testBit 6 = false then .no s stUnsupported
    else if s.units.testing.contains a ∨ s.units.testing.contains b then .no s stDegraded
    else if s.pairable a = false then .bad s 0
    else if s.pairable b = false ∨ a = b ∨ a / 4 ≠ b / 4 then .bad s 2
    else
      let g := s.fld DSP_CORE.GROUP b
      let s' := s.leaveGroup b
      if s.is DSP_CORE.IN_GROUP b ∧ State.wouldRevoke s' [116 + g] then .no s stInsufficient
      else
        let s' := (s'.setPair a b 2 3).trail b
        let n := min 255 (s'.divergences a b).length
        .ok ((s'.set CORE_PAIR.DIVERGENCES a n).set CORE_PAIR.DIVERGENCES b n)

/-- PAIR (R68). -/
def execPair (t : Stamp) (m : Nat) (s : State) : Res := rowCommand t m 0x0300 cmdPair s

/-- UNPAIR (R197). -/
def cmdUnpair (c : Caller) (p : List Byte) (s : State) : Reply :=
  let a := leAt p 0 2
  paramChecks s [(0, decide (287 < a)), rsv p 2 6] fun _ =>
    if (s.boxPort c.box).isSome ∨ (c.secure = false ∧ s.coreSecure a) then .no s stDeniedWorld
    else
      match s.fld CORE_PAIR.STATE a with
      | 2 =>
        let b := s.fld CORE_PAIR.PARTNER a
        .ok (((s.unpairCore a).clearL1 b).startCore b false)
      | 1 => .bad s 0
      | 4 => .bad s 0
      | _ => .no s stNotFound

/-- UNPAIR (R197). -/
def execUnpair (t : Stamp) (m : Nat) (s : State) : Res := rowCommand t m 0x0301 cmdUnpair s

/-- PAIR_DIVERGENCE (R194): the comparison of the pair led by core `a` has failed. -/
def execPairDivergence (t : Stamp) (a : Nat) (s : State) : Res :=
  liveS t s (fun s =>
    if s.fld CORE_PAIR.STATE a ≠ 2 ∨ 288 ≤ a then s
    else
      let b := s.fld CORE_PAIR.PARTNER a
      let ds := s.divergences a b ++ [s.stb]
      let n := min 255 ds.length
      let s : State := { s with units := { s.units with testing := s.units.testing ++ [a, b],
                                                        kept := nput s.units.kept a (s.coreRecord a),
                                                        diverged := putBy pairLt (min a b, max a b) ds s.units.diverged } }
      let s := s.dropAccesses a
      let s := ((s.setPair a b 4 4).set CORE_PAIR.DIVERGENCES a n).set CORE_PAIR.DIVERGENCES b n
      let again := s.is DSP_CORE.HOLDING a && !(s.is DSP_CORE.ANSWERED a)
      let s := s.raise { coll := coreColl a, bit := 6, action := if again then 9 else 0, detail := leBytes 2 a ++ leBytes 2 b ++ leBytes 4 0 ++ leBytes 8 (s.hart a).pc.toNat ++ leBytes 8 0 }
      let held := s.is DSP_CORE.HOLDING a
      let s := (s.dropHeld a true).setRun a CoreRun.idle
      let s := if held then (s.setWord .TOPID a 0 0).setMip a 20 true else s
      let s := if s.is DSP_CORE.IN_GROUP a then (s.strand a).trigger [116 + s.fld DSP_CORE.GROUP a] false (coreColl a).unit else s
      s.event 0x06 s.stb (leBytes 2 a ++ leBytes 2 b ++ leBytes 1 n) (s.unitScope (coreColl a).unit))

/-- R195: the core of a pair that failed is retired; the hart goes on unpaired under the first core's ID, on the core that is left, and
the second core's hart ID stays unassigned. -/
def State.dropPair (s : State) (a b bad : Nat) : State :=
  let unit := (coreColl (s.siliconOf bad)).unit
  let s := if bad = a then s.exchange a b else s
  let s := s.retireCore b
  ((s.set CORE_PAIR.STATE a 0).set CORE_PAIR.STATE b 5).retiredEvent unit

/-- R195: the self-test releases the hart of the pair of `a` and `b`. -/
def State.release (s : State) (a b : Nat) : State :=
  let s : State := { s with units := { s.units with testing := s.units.testing.filter (fun x => x != a && x != b) } }
  if s.is DSP_CORE.IN_GROUP a then s.trigger [116 + s.fld DSP_CORE.GROUP a] true (coreColl a).unit else s

/-- PAIR_SELF_TEST_DONE (R195, R196): the results of both cores of the pair led by `a`. The extended self-test, which the third
divergence in 24 h calls for, retires B where it finds no fault. -/
def execPairSelfTestDone (t : Stamp) (a : Nat) (okA : Bool) (okB : Bool) (s : State) : Res :=
  liveS t s (fun s =>
    if s.fld CORE_PAIR.STATE a ≠ 4 ∨ s.units.testing.contains a = false then s
    else
      let b := s.fld CORE_PAIR.PARTNER a
      let long := decide (3 ≤ s.fld CORE_PAIR.DIVERGENCES a)
      if okA ∧ okB then
        if long then (s.dropPair a b b).release a b else (s.setPair a b 2 3).release a b
      else if okA then (s.dropPair a b b).release a b
      else if okB then (s.dropPair a b a).release a b
      else
        let s := (s.retireCore a).retireCore b
        let s := (s.set CORE_PAIR.STATE a 5).set CORE_PAIR.STATE b 5
        (s.retiredEvent (coreColl (s.siliconOf a)).unit).retiredEvent (coreColl (s.siliconOf b)).unit)

/-! ### Intake-engine caches -/

/-- ENGINE_CACHE_ACCESS (R184, R185): an access of engine `e` within one sector. Outside the private range, or with the cache off, it
is uncached, and its home refuses it where the tile's world is another (R316). -/
def execEngineCacheAccess (t : Stamp) (e : Nat) (x : EngAcc) (s : State) : Res :=
  live t s (fun s =>
    if 16 ≤ e ∨ 64 < x.addr % 64 + x.size ∨ (x.store ∧ x.data.length ≠ x.size) then s
    else if s.is IEC_CFG.ENABLE e ∧ s.privateOf x.addr = some e then s.engAccess e x
    else if s.privateOf x.addr = some e ∨ s.populated x.addr then
      let g := s.engUses e x
      if s.populated x.addr ∧ s.addrSecure x.addr ≠ g.world then s.homeRefused x.addr
      else if !(s.mayTraffic g x.store x.addr x.size) then s
      else
        let s := s.traffic g x.store x.addr x.size
        if x.store then s.storeNow x.addr x.data else s
    else s)

/-- The accesses that waited are made again, in program order (R187). -/
def State.rerun (s : State) (e : Nat) : State :=
  let c := s.eng e
  c.waits.foldl (fun s x => s.engAccess e x) (s.setEng e { c with waits := [] })

/-- VICTIM_WRITEBACK_ACK (R186): the victim's dirty sectors have been written, it is invalidated, and the fill is issued. It waits while
the writes are held (R126). -/
def execVictimWritebackAck (t : Stamp) (e : Nat) (s : State) : Res :=
  live t s (fun s =>
    let c := s.eng e
    match c.victim, c.miss with
    | some v, some x =>
      if !(s.victimFree e x v.1 v.2) then s
      else
      let s := s.writeVictim e x c v.1 v.2
      let c := { c.evict v.1 v.2 with victim := none }
      if x.whole then (s.setEng e ({ c with miss := none }.perform (s.engOff e x.addr) x)).rerun e else s.setEng e c
    | _, _ => s)

/-- ENGINE_MISS_COMPLETE (R187): the fill has been read and has arrived; the access is performed, and waiting ones go on. It waits while the
read is held (R126). -/
def execEngineMissComplete (t : Stamp) (e : Nat) (s : State) : Res :=
  live t s (fun s =>
    let c := s.eng e
    match c.victim, c.miss with
    | none, some x =>
      let g := s.engUses e x
      if s.mayTraffic g false x.addr 1 then
        ((s.traffic g false x.addr 1).setEng e ({ c with miss := none }.perform (s.engOff e x.addr) x)).rerun e
      else s
    | _, _ => s)

end Sys2Proof.Machine
end

