-- ==== Sys2Proof/Machine/CsrRows.lean ====
section
/-! DEFINITION. The row of CSR instructions (R87, R170, R176, R178, R422). -/

namespace Sys2Proof.Machine

/-- The value a read-modify-write of a CSR starts from: for the pending registers the bits that software holds. -/
def State.csrBase (s : State) (h n old : Nat) : Nat :=
  if n = 0x344 ∨ n = 0x144 ∨ n = 0x644 then (s.csr h csrMip).toNat
  else if n = 0x244 then (s.csr h csrMip).toNat / 2
  else old

/-- The value that a CSR instruction writes: that of its operand, or the register's with the operand's bits set or cleared. -/
def csrNew (f3 base x : Nat) : Nat :=
  if f3 % 4 = 1 then x else if f3 % 4 = 2 then base ||| x else base &&& (2 ^ 64 - 1 - x)

/-- CSRRW, CSRRS, CSRRC and their immediate forms. -/
def State.csrIns (s : State) (h ins : Nat) : State :=
  let f3 := bitsOf ins 12 3
  let n := bitsOf ins 20 12
  let x := if f3 < 4 then (s.xreg h (insRs1 ins)).toNat else insRs1 ins
  let writes := f3 % 4 == 1 || insRs1 ins != 0
  match s.csrCause h n writes with
  | some c => s.badIns h c ins
  | none =>
    let n := s.csrAlias h n
    let skip := f3 % 4 = 1 ∧ insRd ins = 0
    let q := if skip then ((0, s) : Nat × State) else s.csrRead h n
    let t := if writes then q.2.csrWrite h n (csrNew f3 (s.csrBase h n q.1) x % 2 ^ 64) else q.2
    (t.retire h (insRd ins) (BitVec.ofNat 64 q.1)).irqs h

/-- CSR_ACCESS (R176, R329): `ins` is the instruction word of a CSR instruction of a hart that executes, or that a debugger has a halted hart
execute. -/
def execCsrAccess (t : Stamp) (h : Nat) (ins : Nat) (s : State) : Res :=
  liveS t s (fun s =>
    if !(s.mayAct h) ∨ ins % 128 ≠ 0x73 ∨ bitsOf ins 12 3 % 4 = 0 ∨ 2 ^ 32 ≤ ins then s else s.csrIns h ins)

end Sys2Proof.Machine
end

