-- ==== Sys2Proof/Machine/CstOps.lean ====
section
/-! DEFINITION. The constellation (chapter 10): the flits of package links, members that are lost, remote transactions that end, and
mirror slots. -/

namespace Sys2Proof.Machine

/-! ### Numbers (R291) -/

/-- The number of the neighbour that a link of the torus leads to; none on links 6 and 7 and in a dimension of size 1. -/
def State.neighbour (s : State) (l : Nat) : Option Nat :=
  let dx := s.fld CST_STATUS.DIM_X 0 + 1
  let dy := s.fld CST_STATUS.DIM_Y 0 + 1
  let dz := s.fld CST_STATUS.DIM_Z 0 + 1
  let c := s.coords (s.fld CST_STATUS.NUMBER 0)
  let move := fun (v size : Nat) => if l % 2 = 0 then (v + 1) % size else (v + size - 1) % size
  let size := if l / 2 = 0 then dx else if l / 2 = 1 then dy else dz
  if 6 ≤ l ∨ size = 1 then none
  else if l / 2 = 0 then some (move c.1 dx + dx * (c.2.1 + dy * c.2.2))
  else if l / 2 = 1 then some (c.1 + dx * (move c.2.1 dy + dy * c.2.2))
  else some (c.1 + dx * (c.2.1 + dy * move c.2.2 dz))

/-- R307: whether a peer's number contradicts the topology. -/
def State.contradicts (s : State) (l number : Nat) : Bool :=
  !(s.is CST_STATUS.TOPOLOGY 0) && decide (l < 6) && s.neighbour l != some number

/-! ### Remote transactions (R299, R308) -/

/-- A remote transaction ends without its exporter's answer: a writeback is discarded, any other request is refused with reason 4. -/
def State.failRemote (s : State) (r : Remote) : State :=
  match s.mainTxn r.line with
  | none => s
  | some x =>
    if r.req.op = 4 then (s.setTxn { x with wr := false }).homes
    else (((s.refuse r.slice x.req 4).show x.slice x.line x.had x.own).endTxn x).homes

/-- Takes a remote transaction off. -/
def State.dropRemote (s : State) (r : Remote) : State :=
  { s with cst := { s.cst with remotes := s.cst.remotes.filter (fun x => !(x.slice == r.slice && x.txn == r.txn)) } }

/-- Quarantines the ID of a remote transaction. -/
def State.quarantine (s : State) (r : Remote) : State :=
  { s with cst := { s.cst with remotes := s.cst.remotes.map (fun (x : Remote) =>
      if x.slice = r.slice ∧ x.txn = r.txn then { x with quarantined := true } else x) } }

/-- The remote transaction of a slice with an ID. -/
def State.remoteAt (s : State) (slice txn : Nat) : Option Remote := s.cst.remotes.find? (fun r => r.slice == slice && r.txn == txn)

/-- Open transactions to packages that `p` names are answered with reason 4. -/
def State.failRemotes (s : State) (p : Nat → Bool) : State :=
  (s.cst.remotes.filter (fun r => !r.quarantined && (lineWindow r.line).any p)).foldl (fun s r => (s.dropRemote r).failRemote r) s

/-! ### Lost members (R308) -/

/-- R267 and R308: the remote directories forget a member of the group, at index `i`: lines that it owned are poisoned. -/
def State.forgetMember (s : State) (i : Nat) : State :=
  let s := s.cst.dir.foldl (fun (s : State) q => q.2.ways.foldl (fun (s : State) e =>
    match e.2.owner with
    | some o => if o.1 = i ∧ s.sumClean q.1.1 (sfLine true q.1.1 q.1.2 e.2.tag) (12 + i) = false then s.setPoison (sfLine true q.1.1 q.1.2 e.2.tag) true else s
    | none => s) s) s
  { s with cst := { s.cst with
      dir := s.cst.dir.map (fun (q : (Nat × Nat) × SfSet) => (q.1, { q.2 with ways := q.2.ways.filterMap (fun (e : Nat × SfEntry) =>
        let pres := withoutBit e.2.presence i
        if pres = 0 then none
        else some (e.1, sfMake true e.2.tag pres (e.2.owner.filter (fun o => o.1 != i))))})) } }

/-- The transactions at home slices no longer wait for a member of the group, at index `i`, and those that it asked for end. -/
def State.forgetTxns (s : State) (pkg i : Nat) : State :=
  { s with fab := { s.fab with
      txns := (s.fab.txns.filter (fun x => x.req.pkg != some pkg)).map (fun (x : Txn) =>
        if x.sums.contains (12 + i) then { x with sums := x.sums.filter (fun y => y != 12 + i), answers := x.answers ||| 17, lost := true }
        else x),
      waits := s.fab.waits.filter (fun q => q.2.pkg != some pkg),
      net := s.fab.net.filter (fun f => f.pkt.pkg != some pkg) } }

/-- R308: the journals mirrored to a package lose their mirror at once. -/
def State.mirrorsGone (s : State) (p : Nat) : State :=
  (s.jnl.mirrors.filter (fun q => q.2.1 == p)).foldl (fun (s : State) q =>
    let s := s.set JNL_SEQ.MIRROR_LOST q.1 1
    (s.jnl.recs.filter (fun r => r.journal == q.1 && r.mirrored && !r.ack && !r.lost)).foldl (fun s r => s.loseMirror q.1 r.seq) s) s

/-- R306: the slots that hold a package's records are orphaned, and drained. -/
def State.orphanSlots (s : State) (p : Nat) : State :=
  ((List.range 8).foldl (fun (s : State) m =>
    if s.is CST_MIRROR_SLOT.VALID m ∧ s.fld CST_MIRROR_SLOT.SOURCE m = p then
      (s.set CST_MIRROR_SLOT.ORPHAN m 1).dropMirrored m (fun _ => false)
    else s) s).pumpDrains

/-- R308: without its grandmaster or time parent the package goes to HOLDOVER, if it may. -/
def State.loseParent (s : State) (p : Nat) : State :=
  let st := s.fld STB_STATE.STATE 0
  if s.fld STB_STATE.SOURCE 0 = 2 ∧ (st = 1 ∨ st = 2) ∧
      (s.fld CST_STATUS.GM 0 = p ∨ s.fld LINK_STATUS.PEER (s.fld STB_STATE.LINK 0) = p) then
    let s := s.set STB_EVT.REF_LOST 0 1
    if s.is STB_STATE.HOLDOVER_EN 0 then (s.setDisc 3).holdTrim else s.discFault
  else s

/-- R308: this package is a neighbour of package `p`, and all its links to it have been down for 1 ms. -/
def State.cutOff (s : State) (p : Nat) : Bool :=
  let mine := (List.range 8).filter (fun l => s.fld LINK_STATUS.PEER l == p && (s.linkUp l || (lookupKey l s.cst.down).isSome))
  !mine.isEmpty && mine.all (fun l => match lookupKey l s.cst.down with
    | some u => decide (u + msTicks 1 ≤ s.stb)
    | none => false)

/-- EV_CONST_CHANGE (R80): a package has joined (0) or left (1). -/
def State.constEvent (s : State) (p what : Nat) : State := s.event 0x0D s.stb (leBytes 2 p ++ leBytes 1 what)

/-- A package's bit of CST_MEMBERS. -/
def State.setMember (s : State) (p : Nat) (on : Bool) : State :=
  let w := (s.word .CST_MEMBERS (p / 64) 0).toNat
  s.setWord .CST_MEMBERS (p / 64) 0 (BitVec.ofNat 64 (if on then withBit w (p % 64) else withoutBit w (p % 64)))

/-- What a package's own coherence state keeps of another is given up. -/
def State.forgetPackage (s : State) (p : Nat) : State :=
  (if s.inGroup p then (s.forgetTxns p (p % 4)).forgetMember (p % 4) else s.forgetTxns p 4)

/-- R308: the effects of a lost member at this package. -/
def State.loseMember (s : State) (p : Nat) : State :=
  if s.isMember p = false ∨ p = s.fld CST_STATUS.NUMBER 0 then s
  else
    let s := (s.forgetPackage p).setMember p false
    let s := ((s.failRemotes (fun w => w == p)).homes.mirrorsGone p).orphanSlots p
    let s := (List.range 8).foldl (fun (s : State) l =>
      if s.fld LINK_STATUS.PEER l = p ∧ (lookupKey l s.cst.down).isSome then s.raise { coll := linkColl l, bit := 3 } else s) s
    (s.loseParent p).constEvent p 1

/-- The other members. -/
def State.otherMembers (s : State) : List Nat := (List.range 1024).filter (fun p => s.isMember p && p != s.fld CST_STATUS.NUMBER 0)

/-- R308: a membership update goes to every other member. -/
def State.sendUpdate (s : State) (p what : Nat) : State := s.otherMembers.foldl (fun s q => s.toPackage q 8 [p, what]) s

/-! ### Joining and leaving (R309, R310) -/

/-- The product of the dimensions. -/
def joinSize (p : List Byte) : Nat := leAt p 6 1 * leAt p 7 1 * leAt p 8 1

/-- The checks of CONST_JOIN's fields (R295, R309). -/
def State.joinChecks (s : State) (p : List Byte) : List (Nat × Bool) :=
  let n := leAt p 0 2
  [(0, decide (1023 < n)), (2, decide (255 < leAt p 2 2)), (4, leAt p 4 1 == 0 || decide (4 < leAt p 4 1)),
    (5, decide (1 < leAt p 5 1)), (6, leAt p 6 1 == 0 || decide (16 < leAt p 6 1)), (7, leAt p 7 1 == 0 || decide (8 < leAt p 7 1)),
    (8, leAt p 8 1 == 0 || decide (8 < leAt p 8 1)), rsv p 9 7, (6, decide (1024 < joinSize p)), (0, decide (joinSize p ≤ n)),
    (2, leAt p 2 2 != n / 4), (4, decide (leAt p 4 1 ≤ n % 4)), (0xFFFF, s.is CST_STATUS.MEMBER 0 || s.opHeld)]

/-- R309: the activity that a join of mailbox `m` counts as. -/
def joinAct (m : Nat) : Activity := newAct 9 0x00FFFFFF 0 (.mailbox m)

/-- R309: whether a join conflicts with what runs or waits. -/
def State.joinBlocked (s : State) (m : Nat) : Bool :=
  (s.running ++ s.queued).any (fun r => meets (joinAct m) r == .x || meets (joinAct m) r == .q) || !s.units.retiring.isEmpty

/-- Step 1 of R309 and of R310: a join or a leave whose checks hold has begun when its command is taken. -/
def State.beginConst (s : State) (m op : Nat) (p : List Byte) : State :=
  match op with
  | 0x0900 => if (s.joinChecks p).any Prod.snd || s.joinBlocked m then s else s.set CST_STATUS.JOINING 0 1
  | 0x0901 => if s.is CST_STATUS.MEMBER 0 && decide (leAt p 0 1 ≤ 1) && !(rsv p 1 7).2 then s.set CST_STATUS.LEAVING 0 1 else s
  | _ => s

/-! ### Link flits (R289, R290) -/

/-- A wavelength is charged with an error event. -/
def State.chargeWave (s : State) (l wave fseq : Nat) : State :=
  let x := s.linkRx l
  (s.bump LINK_COUNT.CHARGED l).raise
    { coll := linkColl l, bit := 0, elem := some wave, action := 2, detail := laneDetail l 0 (x.map.idxOf wave) wave fseq }

/-- A link flit fails its CRC: it is discarded, and NAK leaves once in an idle flit; the eighth failure in succession takes the link down
(R307). -/
def State.badLinkFlit (s : State) (l : Nat) (f : List Byte) : State :=
  let x := s.linkRx l
  if x.raw.isSome ∧ flitField f 2 12 ≠ x.expect then s
  else
    let s := ((s.setLinkRx l { x with raw := some f, fails := x.fails + 1 }).bump LINK_COUNT.REPLAYS l).emitFlit l
      (s.fld CST_STATUS.NUMBER 0) (flitBytes 0 ((x.next + 4095) % 4096) x.ack true 0 [])
    if x.fails + 1 < 8 then s else s.dropLink l 0

/-- The line of this package that a line of its own window is, by the export segment. -/
def State.importLine (s : State) (line : Nat) : Nat :=
  let x := (64 * line) % 2 ^ 41
  (s.fld CST_EXPORT.BASE (x / 2 ^ 36) * 2 ^ 36 + x % 2 ^ 36) / 64

/-- A packet for this package from package `from_`: a request waits at the link cell for the exporter's checks; a snoop goes to the proxy home
of its line. An answer goes to the unit it names, and what is for the home of a line of this package's window to its home slice. -/
def State.fromLink (s : State) (l from_ : Nat) (p : Pkt) : State :=
  let cell := linkCell l
  let mine := lineWindow p.line == some (s.fld CST_STATUS.NUMBER 0)
  if p.cls = 3 then
    { s with fab := { s.fab with net := s.fab.net ++
        [{ pkt := { p with pkg := some from_, dest := cell }, place := .ejected (12 + l / 2) 6 0, since := s.ringStamp (12 + l / 2), origin := 12 + l / 2 }] } }
  else if mine then
    let line := s.importLine p.line
    if p.cls = 1 ∧ p.op = 1 then s.sendFrom cell { p with line := line }
    else s.sendFrom cell { p with line := line, dest := sliceCode (homeSlice (64 * line)), pkg := some from_ }
  else if p.cls = 2 then
    match s.lineHome p.line with
    | some h => s.sendFrom cell { p with dest := sliceCode h, pkg := some from_ }
    | none => s
  else s.sendFrom cell p

/-- R293: a packet for another package goes on by this package's own route; one that has none is answered as in R292. -/
def State.forward (s : State) (l from_ dest vc : Nat) (p : Pkt) : State :=
  if s.is CST_STATUS.MEMBER 0 = false then s
  else
    match s.firstLink dest with
    | some o => s.crossTo l ⟨o, dest, from_, s.nextChannel l o vc, p.dest⟩ p
    | none => if p.cls = 3 then s.sendOut from_ (p.cause 0 15 p.src 1) else s

/-- A packet that a link flit brings, with its prefix. -/
def State.linkPacket (s : State) (l from_ : Nat) (q : Nat × Pkt) : State :=
  let s := s.countLink l 0 q.2
  if bitsOf q.1 0 10 = s.fld CST_STATUS.NUMBER 0 then s.fromLink l from_ q.2
  else s.forward l from_ (bitsOf q.1 0 10) (bitsOf q.1 10 1) q.2

/-- The wavelengths on which a failed flit and its replayed copy differ are charged. -/
def State.chargeLink (s : State) (l : Nat) (bad good : List Byte) : State :=
  let m := (s.linkRx l).map
  (lanesDiffering m.length bad good).foldl (fun (s : State) i =>
    match m[i]? with
    | some w => s.chargeWave l w (flitField good 2 12)
    | none => s) s

/-- R289: a link flit in sequence order: the packets of FTYPE 1, at most 29; the peer's STB and number of FTYPE 3. -/
def State.takeLinkFlit (s : State) (l from_ : Nat) (f : List Byte) : State :=
  if flitField f 0 2 = 3 then
    if s.contradicts l (flitField f 112 10) then (s.set LINK_EVT.WRONG_PEER l 1).dropLink l 0
    else
      let s := s.set LINK_STATUS.PEER l (flitField f 112 10)
      { s with cst := { s.cst with marks := nput s.cst.marks l (flitField f 48 64) } }
  else if flitField f 0 2 = 1 then (flitPkts 2 29 f).foldl (fun s q => s.linkPacket l from_ q) s else s

/-- A good link flit: its ACK frees the transmitter's replay buffer, its NAK makes the transmitter replay; any but an idle one is taken in
sequence order. -/
def State.goodLinkFlit (s : State) (l from_ : Nat) (f : List Byte) : State :=
  let s := s.setLinkRx l ((s.linkRx l).acked (flitField f 14 12))
  let s := if flitField f 26 1 = 1 then (s.bump LINK_COUNT.REPLAYS l).replayLink l else s
  let x := s.linkRx l
  let s :=
    if flitField f 0 2 = 0 ∨ flitField f 2 12 ≠ x.expect then s
    else
      let s := s.setLinkRx l { x with raw := none, fails := 0, expect := (x.expect + 1) % 4096 }
      let s := match x.raw with
        | some r => s.chargeLink l r f
        | none => s
      s.takeLinkFlit l from_ f
  s.pumpLink l

/-! ### Mirror slots (R305, R306) -/

/-- The slot that holds a journal of a package. -/
def State.slotFor (s : State) (src journal : Nat) : Option Nat :=
  (List.range 8).find? (fun m => s.is CST_MIRROR_SLOT.VALID m && !(s.is CST_MIRROR_SLOT.ORPHAN m) &&
    s.fld CST_MIRROR_SLOT.SOURCE m == src && s.fld CST_MIRROR_SLOT.JOURNAL m == journal)

/-- That slot, or a free one taken for it. -/
def State.takeSlot (s : State) (src journal : Nat) : Option (Nat × State) :=
  match s.slotFor src journal with
  | some m => some (m, s)
  | none =>
    match (List.range 8).find? (fun m => !(s.is CST_MIRROR_SLOT.VALID m)) with
    | some m => some (m, ((s.set CST_MIRROR_SLOT.VALID m 1).set CST_MIRROR_SLOT.SOURCE m src).set CST_MIRROR_SLOT.JOURNAL m journal)
    | none => none

/-- The units that all mirror slots hold. -/
def State.mirrorUnits (s : State) : Nat := ((List.range 8).map s.slotUnits).sum

/-- R305: a record comes to a slot, which holds its records in sequence order, and is acknowledged; the source's DRAINED_SEQ frees records. -/
def State.mirrorRecord (s : State) (src journal seq : Nat) (bytes : List Byte) (drained : Nat) : State :=
  match s.takeSlot src journal with
  | none => s
  | some (m, s) =>
    let s := s.dropMirrored m (fun r => decide (r.seq ≤ drained))
    if s.cst.mirrored.any (fun r => r.slot == m && r.seq == seq) then s.toPackage src 3 [journal, seq]
    else if 49152 < s.mirrorUnits + bytes.length / 64 then s
    else
      let later := fun (r : MirRec) => r.slot == m && decide (seq < r.seq)
      let s : State := { s with cst := { s.cst with
        mirrored := s.cst.mirrored.filter (fun r => !(later r)) ++ [⟨m, seq, bytes, 0⟩] ++ s.cst.mirrored.filter later } }
      (s.set CST_MIRROR_SLOT.UNITS m (s.slotUnits m)).toPackage src 3 [journal, seq]

/-- R306: the marks of a record, and DRAINED_SEQ; a slot whose mirroring has ended is freed once it is empty. -/
def State.mirrorMark (s : State) (src journal seq fl drained : Nat) (ended : Bool) : State :=
  match s.slotFor src journal with
  | none => s
  | some m =>
    let s : State := { s with cst := { s.cst with mirrored := s.cst.mirrored.map (fun (r : MirRec) =>
      if r.slot = m ∧ r.seq = seq then { r with flags := r.flags ||| fl % 4 } else r) } }
    let s : State := if ended ∧ s.cst.ended.contains m = false then { s with cst := { s.cst with ended := s.cst.ended ++ [m] } } else s
    s.dropMirrored m (fun r => decide (r.seq ≤ drained))

end Sys2Proof.Machine
end

