-- ==== Sys2Proof/Machine/FabricRows.lean ====
section
/-! DEFINITION. The packets of the rings (R236 to R267): requests at home slices, memory controllers, snoops, and answers at requesters.
A target takes a packet once it has come to it (`State.hasPkt`). -/

namespace Sys2Proof.Machine

/-! ### Requests at a home slice (R256, R260) -/

/-- Whether a packet's header is one that a requester sends: its class, opcode and line. -/
def Pkt.isA (p : Pkt) (cls op : Nat) : Bool := p.cls == cls && p.op == op && decide (p.line < 2 ^ 46)

/-- The home slice that a request comes to: that of its DEST, if it is the line's home. -/
def State.homeFor (s : State) (p : Pkt) : Option Nat :=
  match sliceOf p.dest with
  | none => none
  | some h => match s.lineHome p.line with
    | some k => if k = h then some h else none
    | none => some h

/-- A request that has come to its home slice. -/
def State.homeRequest (s : State) (p : Pkt) (ok : Bool) : State :=
  match s.homeFor p with
  | some h => if ok then s.acceptAt h p else s
  | none => s

/-- Whether the bytes that an OPERAND names lie within the line (R248), and the data unit is whole. -/
def Pkt.fits (p : Pkt) : Bool := decide (bitsOf p.operand 0 6 + bitsOf p.operand 6 6 + 1 ≤ 64) && p.data.length == 64

/-- FETCH_SHARE (R260). -/
def execFetchShare (t : Stamp) (p : Pkt) (s : State) : Res := liveS t s (fun s => s.homeRequest p (p.isA 3 1))

/-- FETCH_OWN (R260). -/
def execFetchOwn (t : Stamp) (p : Pkt) (s : State) : Res := liveS t s (fun s => s.homeRequest p (p.isA 3 2))

/-- OWN_ZERO (R260). -/
def execOwnZero (t : Stamp) (p : Pkt) (s : State) : Res := liveS t s (fun s => s.homeRequest p (p.isA 3 3))

/-- EVICT_DIRTY (R264). -/
def execEvictDirty (t : Stamp) (p : Pkt) (s : State) : Res :=
  liveS t s (fun s => s.homeRequest p (p.isA 3 4 && p.data.length == 64))

/-- READ_UC (R260). -/
def execReadUc (t : Stamp) (p : Pkt) (s : State) : Res := liveS t s (fun s => s.homeRequest p (p.isA 3 8))

/-- WRITE_UC (R260). -/
def execWriteUc (t : Stamp) (p : Pkt) (s : State) : Res := liveS t s (fun s => s.homeRequest p (p.isA 3 9 && p.fits))

/-- Whether an ATOMIC's OPERAND names an operation (R248): its size and function are not reserved, and its bytes lie in the line. -/
def Pkt.atomicOk (p : Pkt) : Bool :=
  decide (2 ≤ bitsOf p.operand 6 2) && decide (bitsOf p.operand 8 4 ≤ 8) &&
    decide (bitsOf p.operand 0 6 + 2 ^ bitsOf p.operand 6 2 ≤ 64) && p.data.length == 64

/-- ATOMIC (R260, R298); the reserved sizes and functions of R248 name no operation. -/
def execAtomic (t : Stamp) (p : Pkt) (s : State) : Res := liveS t s (fun s => s.homeRequest p (p.isA 3 10 && p.atomicOk))

/-! ### Memory controllers (R222, R225, R230, R247) -/

/-- The state that the line's transaction will grant. -/
def State.dueState (s : State) (line : Nat) : Nat :=
  match s.mainTxn line with
  | some x => grantState x
  | none => 0

/-- MC_READ (R247): the data unit goes to SRC, with the state granted and the queue level; the request's queue entry frees. -/
def execMcRead (t : Stamp) (p : Pkt) (s : State) : Res :=
  liveS t s (fun s =>
    if p.isA 3 0x10 ∧ s.mcTurn p then
      match s.mcOf p.line with
      | none => s
      | some c =>
        let d := s.lineAt p.line
        let level := s.queueLevel (queueOf c)
        let toHome := (sliceOf p.src).isSome && p.pkg.isNone
        let a : Pkt := { p.cause 1 1 p.src ((if toHome then 0 else s.dueState p.line) + 8 * level) with
                         data := d.1, poison := d.2 }
        ((s.takePkt p).countMc c p 0).answer (mcCode c) a
    else s)

/-- MC_WRITE (R225, R247, R404): the named bytes are written, in a mirror and in the save shadow too; MC_DONE answers. -/
def execMcWrite (t : Stamp) (p : Pkt) (s : State) : Res :=
  liveS t s (fun s =>
    if p.isA 3 0x11 ∧ p.fits ∧ s.mcTurn p then
      match s.mcOf p.line with
      | none => s
      | some c =>
        let level := s.queueLevel (queueOf c)
        let off := bitsOf p.operand 0 6
        let n := bitsOf p.operand 6 6 + 1
        let s := ((s.takePkt p).countMc c p 1).writeLine p.line off ((p.data.drop off).take n) p.poison
        s.sendFrom (mcCode c) { p.cause 0 5 p.src level with pkg := none }
    else s)

/-! ### Snoops (R261, R262, R264, R297) -/

/-- What a block answers to a snoop of a line it holds (R262): whether it forwards data to the requester, whether it sends data home, and the
state it goes to; none for I. -/
def snoopTable (st : Moesi) (op : Nat) : Bool × Bool × Option Moesi :=
  match st, op with
  | .m, 1 => (true, false, some .o)
  | .o, 1 => (true, false, some .o)
  | .e, 1 => (true, false, some .s)
  | .s, 1 => (false, false, some .s)
  | .s, 2 => (false, false, none)
  | _, 2 => (true, false, none)
  | .m, 4 => (false, true, some .s)
  | .o, 4 => (false, true, some .s)
  | _, 4 => (false, false, some .s)
  | .m, _ => (false, true, none)
  | .o, _ => (false, true, none)
  | _, _ => (false, false, none)

/-- The line as a block has it after a snoop: a line in the writeback buffer stays there until its GRANT, and is dirty no more once its
data has gone, and no copy once the snoop has taken it. -/
def State.snooped (s : State) (bb line : Nat) (x : CLine) (next : Option Moesi) : State :=
  if x.wb then s.putLine bb line { x with st := next.getD .s, gone := next.isNone }
  else
    match next with
    | some st => s.putLine bb line { x with st := st }
    | none => s.dropLine bb line

/-- A block answers a snoop: its answer bits (R248). -/
def State.blockSnoop (s : State) (bb : Nat) (p : Pkt) : Nat × State :=
  match s.held bb p.line with
  | none => (0, s)
  | some x =>
    if x.gone then (0, s)
    else
    let r := snoopTable x.st p.op
    let from_ := unitCode (bb / 6) (bb % 6) 0
    let s := if r.1 then
        (s.answer from_ { p.cause 1 1 p.src ((if p.op = 1 then 1 else 4) + 32) with data := x.data, poison := x.poison }).count
          (blockBank (bb / 6) (bb % 6)) { code := 0x105, world := some p.world, tag := some p.tag, addr := some (64 * p.line) }
      else s
    let s := if r.2.1 then
        match s.lineHome p.line with
        | some h => s.sendFrom from_ { p.cause 1 2 (sliceCode h) 0 with src := from_, data := x.data, poison := x.poison, pkg := none }
        | none => s
      else s
    let bits := 1 + 2 * flag r.1 + 4 * flag r.2.1 + 8 * flag x.wb + 16 * flag x.dirty
    (bits, s.snooped bb p.line x r.2.2)

/-- The place of a snoop in a block's snoop queue, whatever its block mask (R261). -/
def State.snoopQueued (s : State) (p : Pkt) (bb : Nat) : Option Nat :=
  s.fab.snoops.findIdx? (fun q => q.1 == bb && { q.2 with operand := p.operand }.like p)

/-- A snoop at block `k` of its brick, from the block's snoop queue: the block answers its course stop, unless it keeps the line for an
access (R263). -/
def State.snoopBlock (s : State) (p : Pkt) (k : Nat) : State :=
  let bb := 6 * unitRegion p.dest + k
  let kept := match s.held bb p.line with
    | some x => x.fill.isSome
    | none => false
  match s.snoopQueued p bb with
  | none => s
  | some i =>
    if kept then s
    else
      let s := ({ s with fab := { s.fab with snoops := s.fab.snoops.eraseIdx i } } : State).reserveEntry (bb / 6) k p.cls
      let s := s.count (blockBank (bb / 6) (bb % 6)) { code := 0x104, world := some p.world, tag := some p.tag, addr := some (64 * p.line) }
      let r := s.blockSnoop bb p
      r.2.sendFrom (unitCode (bb / 6) k 0) { p.cause 0 3 p.dest r.1 with src := unitCode (bb / 6) k 0, pkg := none }

/-- R264 and R297: a writeback that a proxy home has sent its exporter answers the exporter's snoop. -/
def State.proxyBuffer (s : State) (line : Nat) : Option Remote :=
  s.cst.remotes.find? (fun r => r.line == line && r.req.op == 4 && !r.quarantined)

/-- R297: an exporter's snoop at a proxy home: it snoops its own bricks and answers once; a request of its own for the line that waits for
the exporter does not hold it up. -/
def State.snoopProxy (s : State) (h : Nat) (p : Pkt) : State :=
  let free := (s.snoopTxn p.line).isNone && (match s.mainTxn p.line with
    | some x => x.mem || x.parked
    | none => true)
  match p.pkg, lineWindow p.line with
  | some g, some w =>
    if !(s.hasPkt p) || !free then s
    else
      let s := s.takePkt p
      match s.proxyBuffer p.line with
      | some r =>
        let fill := p.op == 1 || p.op == 2
        let d : Pkt := { (if fill then p.cause 1 1 p.src ((if p.op = 1 then 1 else 4) + 32) else p.cause 1 2 0 0) with
                         data := r.req.data, poison := r.req.poison, pkg := none }
        (s.sendOut (if fill then g else w) d).sendOut w { p.cause 0 4 0 (if fill then 27 else 29) with pkg := none }
      | none =>
        let e := s.shown h p.line
        let x : Txn := { slice := h, line := p.line, req := p, start := s.stb, had := e.1, own := e.2 }
        let s' : State := { s with fab := { s.fab with txns := s.fab.txns ++ [x] } }
        s'.homes
  | _, _ => s

/-- A snoop at block `k`, or at a proxy home. -/
def State.snoopAt (s : State) (p : Pkt) (op k : Nat) : State :=
  if p.isA 2 op then
    match sliceOf p.dest with
    | some h => s.snoopProxy h p
    | none => s.snoopBlock p k
  else s

/-- SNOOP_SHARE (R262) at block `k`. -/
def execSnoopShare (t : Stamp) (p : Pkt) (k : Nat) (s : State) : Res := liveS t s (fun s => s.snoopAt p 1 k)

/-- SNOOP_OWN (R262) at block `k`. -/
def execSnoopOwn (t : Stamp) (p : Pkt) (k : Nat) (s : State) : Res := liveS t s (fun s => s.snoopAt p 2 k)

/-- SNOOP_KILL (R262) at block `k`. -/
def execSnoopKill (t : Stamp) (p : Pkt) (k : Nat) (s : State) : Res := liveS t s (fun s => s.snoopAt p 3 k)

/-- SNOOP_FLUSH (R262) at block `k`. -/
def execSnoopFlush (t : Stamp) (p : Pkt) (k : Nat) (s : State) : Res := liveS t s (fun s => s.snoopAt p 4 k)

/-- SNOOP_PART (R261): the course stop ORs the block's answer in; with the last it sends SNOOP_SUM. -/
def execSnoopPart (t : Stamp) (p : Pkt) (s : State) : Res :=
  liveS t s (fun s =>
    let k := unitStop p.src
    match s.fab.combines.find? (fun c => c.snoop.dest == p.dest && c.snoop.line == p.line && c.blocks.contains k) with
    | none => s
    | some c =>
      if p.isA 0 3 ∧ unitRegion p.src = c.brick ∧ s.hasPkt p then
        let s := s.takePkt p
        let rest := s.fab.combines.filter (fun x => !(x.snoop.dest == p.dest && x.snoop.line == p.line))
        let blocks := c.blocks.filter (fun x => x != k)
        let answers := c.answers ||| p.operand % 32
        if blocks.isEmpty then
          let s : State := { s with fab := { s.fab with combines := rest } }
          match s.lineHome p.line with
          | some h => s.sendFrom p.dest { c.snoop.cause 0 4 (sliceCode h) answers with src := p.dest, pkg := none }
          | none => s
        else { s with fab := { s.fab with combines := rest ++ [{ c with blocks := blocks, answers := answers }] } }
      else s)

/-- Who answers with a SNOOP_SUM: a brick, or a member of the group at 12 + its index. -/
def sumFrom (p : Pkt) : Nat :=
  match p.pkg with
  | some n => 12 + n % 4
  | none => unitRegion p.src

/-- SNOOP_SUM (R258, R260): "no copy" clears the brick's presence. -/
def execSnoopSum (t : Stamp) (p : Pkt) (s : State) : Res :=
  liveS t s (fun s =>
    let b := sumFrom p
    match sliceOf p.dest, s.fab.txns.find? (fun x => x.line == p.line && x.sums.contains b) with
    | some h, some x =>
      if p.isA 0 4 ∧ x.slice = h ∧ s.hasPkt p then
        let had := if p.operand.testBit 0 then x.had else withoutBit x.had b
        ((s.takePkt p).setTxn { x with sums := x.sums.filter (fun y => y != b), answers := x.answers ||| p.operand % 32, had := had }).homes
      else s
    | _, _ => s)

/-- FLUSH_DATA (R260, R262): dirty data is written to memory; a proxy home passes it to the exporter, and OWN_ZERO discards it. -/
def execFlushData (t : Stamp) (p : Pkt) (s : State) : Res :=
  liveS t s (fun s =>
    match sliceOf p.dest, s.fab.txns.find? (fun x => x.line == p.line && x.started && !x.granted && x.dirty.isNone) with
    | some h, some x =>
      if p.isA 1 2 ∧ x.slice = h ∧ s.hasPkt p then
        let s := s.takePkt p
        let d := (p.data, p.poison)
        let s :=
          if x.req.cls = 2 then
            match lineWindow x.line with
            | some w => (s.sendOut w { p.cause 1 2 0 0 with data := p.data, poison := p.poison, pkg := none }).setTxn { x with dirty := some d }
            | none => s.setTxn { x with dirty := some d }
          else if x.req.op = 3 ∨ x.remote then s.setTxn { x with dirty := some d }
          else s.writeBack x d
        s.homes
      else s
    | _, _ => s)

/-! ### Answers -/

/-- The remote transaction of a proxy home that a packet answers (R299). -/
def State.remoteOf (s : State) (h : Nat) (p : Pkt) : Option Remote := s.cst.remotes.find? (fun r => r.slice == h && r.txn == p.txn)

/-- Takes a remote transaction off; requests that waited for its tracker entry go on. -/
def State.endRemote (s : State) (r : Remote) : State :=
  { s with cst := { s.cst with remotes := s.cst.remotes.filter (fun x => !(x.slice == r.slice && x.txn == r.txn)) } }

/-- R299: a late answer is discarded; it frees the quarantined ID and raises a NOTE. -/
def State.lateAnswer (s : State) (r : Remote) : State :=
  ((s.endRemote r).set LINK_EVT.LATE_ANSWER r.link 1).raise { coll := linkColl r.link, bit := 2, addr := 64 * r.line }

/-- A proxy home has all that its exporter answers: a coherent request and READ_UC are answered with GRANT_SEEN (R263). -/
def State.proxyDone (s : State) (h : Nat) (r : Remote) (p : Pkt) (x : Txn) : State :=
  let full := match r.req.op with
    | 4 => x.rgrant.isSome
    | 8 => x.reply.isSome
    | 9 => x.rgrant.isSome
    | 10 => x.rgrant.isSome
    | _ => match x.rgrant with
      | some g => g.testBit 3 || x.reply.isSome
      | none => false
  let s := s.setTxn x
  if !full then s
  else
    let s := s.endRemote r
    let s := match r.req.op, lineWindow r.line with
      | 4, _ => s
      | 9, _ => s
      | 10, _ => s
      | _, some w => s.sendOut w { p.cause 0 2 0 0 with src := sliceCode h, pkg := none }
      | _, none => s
    s.setTxn (if r.req.op = 4 then { x with wr := false, rgrant := none } else { x with mem := false })

/-- An exporter's answer at a proxy home, which `f` takes into its transaction. -/
def State.proxyAnswer (s : State) (h : Nat) (p : Pkt) (f : State → Txn → State × Txn) : State :=
  if !(s.hasPkt p) then s
  else
    match s.remoteOf h p with
    | none => s.takePkt p
    | some r =>
      let s := s.takePkt p
      if r.quarantined then s.lateAnswer r
      else
        match s.mainTxn r.line with
        | none => s.endRemote r
        | some x =>
          let q := f s x
          (q.1.proxyDone h r p q.2).homes

/-- GRANT (R263, R300): at a core, or at a proxy home. -/
def execGrant (t : Stamp) (p : Pkt) (s : State) : Res :=
  liveS t s (fun s =>
    if !(p.isA 0 1) then s
    else
      match p.core, sliceOf p.dest with
      | some h, _ => if s.hasPkt p then (s.takePkt p).coreGrant h p else s
      | none, some h => s.proxyAnswer h p (fun s x =>
        (s, { x with rgrant := some p.operand, reply := if p.poison then some (leBytes 64 0, true) else x.reply }))
      | none, none => s)

/-- GRANT_SEEN (R257): the line's transaction closes, and the next request for the line is taken. -/
def execGrantSeen (t : Stamp) (p : Pkt) (s : State) : Res :=
  liveS t s (fun s =>
    match sliceOf p.dest, s.mainTxn p.line with
    | some h, some x =>
      if p.isA 0 2 ∧ x.slice = h ∧ x.granted ∧ x.req.src = p.src ∧ x.req.txn = p.txn ∧ x.req.pkg = p.pkg ∧ s.hasPkt p then
        ((s.takePkt p).closeTxn x).homes
      else s
    | _, _ => s)

/-- MC_DONE (R257, R260). -/
def execMcDone (t : Stamp) (p : Pkt) (s : State) : Res :=
  liveS t s (fun s =>
    match sliceOf p.dest, s.fab.txns.find? (fun x => x.line == p.line && x.wr) with
    | some h, some x =>
      if p.isA 0 5 ∧ x.slice = h ∧ s.hasPkt p then ((s.takePkt p).setTxn { x with wr := false }).homes else s
    | _, _ => s)

/-- LINE_DATA (R260, R263): at a core; at a home slice the line of an ATOMIC, or what a proxy home's exporter sends. -/
def execLineData (t : Stamp) (p : Pkt) (s : State) : Res :=
  liveS t s (fun s =>
    if !(p.isA 1 1) then s
    else
      match p.core, sliceOf p.dest with
      | some h, _ => if s.hasPkt p then (s.takePkt p).coreData h p else s
      | none, some h =>
        match s.mainTxn p.line with
        | some x =>
          if x.remote then s.proxyAnswer h p (fun s x => (s, { x with reply := some (p.data, p.poison) }))
          else if s.hasPkt p ∧ x.slice = h ∧ x.req.op = 10 ∧ x.mem then ((s.takePkt p).doAtomic x p.data p.poison).homes
          else s
        | none => s.proxyAnswer h p (fun s x => (s, x))
      | none, none => s)

/-- ATOMIC_OLD (R260): at a core; a proxy home passes it on. -/
def execAtomicOld (t : Stamp) (p : Pkt) (s : State) : Res :=
  liveS t s (fun s =>
    if !(p.isA 1 4) then s
    else
      match p.core, sliceOf p.dest with
      | some h, _ => if s.hasPkt p then (s.takePkt p).coreData h p else s
      | none, some h => s.proxyAnswer h p (fun s x =>
          (s.answer (sliceCode h) { x.req.cause 1 4 x.req.src 0 with data := p.data, poison := p.poison }, x))
      | none, none => s)

/-- R266: an exporter refuses a proxy home's request: its requester is refused, and an entry made for it goes. A refused writeback is
discarded (R308). -/
def State.proxyRefused (s : State) (h : Nat) (p : Pkt) : State :=
  if !(s.hasPkt p) then s
  else
    match s.remoteOf h p with
    | none => s.takePkt p
    | some r =>
      let s := s.takePkt p
      if r.quarantined then s.lateAnswer r
      else
        let s := s.endRemote r
        match s.mainTxn r.line with
        | none => s
        | some x =>
          if r.req.op = 4 then (s.setTxn { x with wr := false }).homes
          else (((s.refuse h x.req (p.operand % 16)).show x.slice x.line x.had x.own).endTxn x).homes

/-- ERR at a core (R28, R266). R355: with reason 4 from an endpoint port, whose function may issue no request, it is an aborted answer, and an
op that the core holds is aborted. -/
def State.errAtCore (s : State) (h : Nat) (p : Pkt) : State :=
  let s := s.coreErr h p
  if p.operand % 16 = 4 ∧ (List.range 8).any (fun q => portCode q == p.src && s.portRole q == 2) then s.abortHeld h 1 else s

/-- ERR (R28, R266, R318): at a core, or at a proxy home. -/
def execErr (t : Stamp) (p : Pkt) (s : State) : Res :=
  liveS t s (fun s =>
    if !(p.isA 0 15) then s
    else
      match p.core, sliceOf p.dest with
      | some h, _ => if s.hasPkt p then (s.takePkt p).errAtCore h p else s
      | none, some h => s.proxyRefused h p
      | none, none => s)

/-- DEV_ACK (R256). -/
def execDevAck (t : Stamp) (p : Pkt) (s : State) : Res :=
  liveS t s (fun s =>
    match p.core with
    | some h => if p.isA 0 6 ∧ s.hasPkt p then (s.takePkt p).coreDevice h p else s
    | none => s)

/-! ### Cores and blocks -/

/-- TABLE_WALK (R199 to R213): a walk of a hart's walker for an access that is not speculative. -/
def execTableWalk (t : Stamp) (h : Nat) (va : Nat) (w : Want) (s : State) : Res :=
  live t s (fun s => if s.hartRuns h then s.ownWalk h (va % 2 ^ 64) w else s)

/-- CORE_LOAD_STORE_FETCH (R28, R170, R216, R329): a hart that can execute makes an access, or a debugger has a halted hart make one, which is
no fetch. -/
def execCoreLoadStoreFetch (t : Stamp) (h : Nat) (a : Access) (s : State) : Res :=
  liveS t s (fun s => if s.mayAct h ∧ a.legal ∧ ((s.hart h).halted = false ∨ a.kind ≠ .fetch) then s.beginAccess h a else s)

/-- R263: whether 64 cycles of a block's clock have passed since a stamp; a cycle of n steps of 25 MHz takes 160 / n ticks. -/
def State.holdOver (s : State) (bb : Nat) (since : Stamp) : Bool := decide (64 * 160 ≤ (s.stb - since) * s.blockSteps bb)

/-- FILL_HOLD_EXPIRY (R263): 64 block-clock cycles after a fill, the block keeps the line no longer for its access. -/
def execFillHoldExpiry (t : Stamp) (bb : Nat) (line : Nat) (s : State) : Res :=
  liveS t s (fun s =>
    match s.held bb line with
    | some x =>
      match x.fill with
      | some f => if s.holdOver bb f then s.putLine bb line { x with fill := none } else s
      | none => s
    | none => s)

/-- TRANSACTION_TIMEOUT (R266): a transaction open for 10 ms is abandoned, with a FATAL fault. -/
def execTransactionTimeout (t : Stamp) (h : Nat) (line : Nat) (s : State) : Res :=
  liveS t s (fun s =>
    match s.fab.txns.find? (fun x => x.line == line && x.slice == h) with
    | some x =>
      if x.start + msTicks 10 ≤ s.stb then
        (((s.logHome h 4 line).closeTxn x).raise { coll := sliceColl h, bit := 2, addr := 64 * line }).homes
      else s
    | none => s)

end Sys2Proof.Machine
end

