-- ==== Sys2Proof/Machine/CstRows.lean ====
section
/-! DEFINITION. The rows of the constellation (chapter 10): joining and leaving, routes, journal mirroring, link flits, time marks,
containment, and remote transactions. What comes from other packages is the rows' operands (log 9). -/

namespace Sys2Proof.Machine

/-! ### Joining (R309) -/

/-- R309, step 2: a link with fibre trains with its peer, on the widest good group of wavelengths that is no wider than the training found
(R290); a peer whose number contradicts the topology is fenced. -/
def State.trainLink (s : State) (q : Nat × Nat × Nat × Nat) : State :=
  let l := q.1
  match waveGroup (s.fld LINK_STATUS.BAD_WAVES l) q.2.2.2 with
  | none => s
  | some g =>
    if 8 ≤ l ∨ s.units.linkDown.contains l then s
    else
      let s := (s.set LINK_STATUS.PEER l q.2.1).set LINK_STATUS.PEER_LINK l q.2.2.1
      if s.contradicts l q.2.1 then (s.set LINK_STATUS.STATE l 3).set LINK_EVT.WRONG_PEER l 1
      else
        let s := ((s.set LINK_STATUS.STATE l 2).set LINK_STATUS.WIDTH l (widthCode g.length)).setLinkRx l { FlitDir.init with map := g, home := g }
        let s : State := { s with cst := { s.cst with down := dropKey l s.cst.down } }
        s.set LINK_STATUS.MARKS_OK l (flag (!((s.fld LB_STATUS.COUPLER_LOST 0).testBit l)))

/-- Every link goes down. -/
def State.linksDown (s : State) : State :=
  (List.range 8).foldl (fun (s : State) l => if s.fld LINK_STATUS.STATE l = 0 then s else s.dropLink l 0) s

/-- The fields of CST_STATUS that the join sets from its payload. -/
def State.setConst (s : State) (p : List Byte) : State :=
  let s := ((s.set CST_STATUS.NUMBER 0 (leAt p 0 2)).set CST_STATUS.COH_GROUP 0 (leAt p 2 2)).set CST_STATUS.GROUP_SIZE 0 (leAt p 4 1)
  (((s.set CST_STATUS.TOPOLOGY 0 (leAt p 5 1)).set CST_STATUS.DIM_X 0 (leAt p 6 1 - 1)).set CST_STATUS.DIM_Y 0 (leAt p 7 1 - 1)).set
    CST_STATUS.DIM_Z 0 (leAt p 8 1 - 1)

/-- The package is no member of a constellation. -/
def State.clearConst (s : State) : State :=
  let s := (List.range 16).foldl (fun (s : State) i => s.setWord .CST_MEMBERS i 0 0) (s.setWord .CST_STATUS 0 0 0)
  s.set CHIP_ID.CONST_NUMBER 0 0

/-- R309: a join that does not reach step 6: the links go down. -/
def State.joinFails (s : State) (act st detail : Nat) : Reply :=
  ⟨some ⟨st, detail, []⟩, (s.linksDown.clearConst).closeAct act 4 st⟩

/-- R309, steps 6 and 7: the package is a member. -/
def State.joined (s : State) (act gm : Nat) (members : List Nat) : Reply :=
  let n := s.fld CST_STATUS.NUMBER 0
  let s := ((s.set CST_STATUS.MEMBER 0 1).set CST_STATUS.GM 0 gm).set CST_STATUS.IS_GM 0 (flag (gm == n))
  let s := ((n :: members).foldl (fun (s : State) p => s.setMember p true) s).set CHIP_ID.CONST_NUMBER 0 n
  .ok (((s.sendUpdate n 0).constEvent n 0).closeAct act 2 stOk)

/-- R309, steps 4 and 5: the delay of the parent link, the step of the STB to the parent's meridian, and source 2. -/
def State.followParent (s : State) (act : Nat) (x : Found) : Reply :=
  match s.firstLink x.gm, x.value with
  | some l, some v =>
    let s := s.set LINK_STATUS.DELAY l x.delay
    if v % 32768 ≠ 0 then s.joinFails act stTimeout 0
    else if v < s.stb then s.joinFails act stBadParam 0xFFFF
    else
      let s := if s.stb < v then s.stepTo v else s
      let s := ((s.set STB_STATE.SOURCE 0 2).set STB_STATE.LINK 0 l).setDisc 1
      let s := (s.set STB_CTRL.SOURCE 0 2).set STB_CTRL.LINK 0 l
      let s : State := { s with clock := { s.clock with mayStep := false, seen := 0, marks := 0, thetas := 0 } }
      s.joined act x.gm x.members
  | _, _ => s.joinFails act stTimeout 0

/-- CONST_JOIN (R295, R309); `x` is what the join finds on its links. DESIGN CHOICE (log 43): where the matrix queues it, it is refused with ST_CONFLICT_MAINT. -/
def cmdConstJoin (x : Found) (c : Caller) (p : List Byte) (s : State) : Reply :=
  let s := s.set CST_STATUS.JOINING 0 0
  paramChecks s (s.joinChecks p) fun _ =>
    if s.joinBlocked c.box then .no s stConflict
    else
      let n := leAt p 0 2
      let q := s.addAct { joinAct c.box with state := 1, start := s.stb }
      let s := x.links.foldl State.trainLink (q.2.setConst p)
      if x.members.isEmpty then s.joined q.1 n []
      else if x.members.contains n then s.joinFails q.1 stBadParam 0
      else s.followParent q.1 x

/-- CONST_JOIN (R309). -/
def execConstJoin (t : Stamp) (m : Nat) (x : Found) (s : State) : Res := rowCommand t m 0x0900 (cmdConstJoin x) s

/-! ### Leaving (R310) -/

/-- R310, step 2: open transactions end, the lines of other packages are written back, the lines that members hold are
back-invalidated, mirrored journals have lost their mirrors, and the slots held here are orphaned. -/
def State.drainConst (s : State) : State :=
  let s := (s.failRemotes (fun _ => true)).homes
  let s := (s.fab.lines.filter (fun q => (lineWindow q.1.2).isSome)).foldl (fun (s : State) q => s.evictNow q.1.1 q.1.2 q.2) s
  let s := s.recallLines (fun _ => true)
  s.otherMembers.foldl (fun (s : State) q => ((s.forgetPackage q).mirrorsGone q).orphanSlots q) s

/-- CONST_LEAVE (R310); `refs` says whether STB_PPS and STB_REF are valid. -/
def cmdConstLeave (refs : Bool) (_ : Caller) (p : List Byte) (s : State) : Reply :=
  if s.is CST_STATUS.MEMBER 0 = false then .no s stNotFound
  else
    let s := s.set CST_STATUS.LEAVING 0 0
    paramChecks s [(0, decide (1 < leAt p 0 1)), rsv p 1 7] fun _ =>
      let n := s.fld CST_STATUS.NUMBER 0
      let s := if leAt p 0 1 = 0 then s.drainConst else s
      let s := (List.range 8).foldl (fun (s : State) l =>
        if s.linkUp l then (s.toPackage (s.fld LINK_STATUS.PEER l) 9 [l]).dropLink l 0 else s) s
      let s := s.constEvent n 1
      let src := if refs then 1 else 0
      let s := ((s.set STB_STATE.SOURCE 0 src).set STB_STATE.LINK 0 0).setDisc src
      let s : State := { s with clock := { s.clock with seen := 0 } }
      .ok ((s.set STB_CTRL.SOURCE 0 src).set STB_CTRL.LINK 0 0).clearConst

/-- CONST_LEAVE (R310). -/
def execConstLeave (t : Stamp) (m : Nat) (refs : Bool) (s : State) : Res := rowCommand t m 0x0901 (cmdConstLeave refs) s

/-! ### Routes and mirroring -/

/-- CONST_ROUTE (R292). -/
def cmdConstRoute (_ : Caller) (p : List Byte) (s : State) : Reply :=
  let d := leAt p 0 2
  let a := leAt p 2 1
  let b := leAt p 3 1
  let i := d / 8
  let e := d % 8
  paramChecks s [(0, decide (1023 < d)), (2, decide (7 < a)), (3, decide (7 < b) && b != 255), rsv p 4 4] fun _ =>
    if s.isMember d = false then .no s stNotFound
    else paramChecks s [(2, !(s.linkUp a)), (3, b != 255 && !(s.linkUp b))] fun _ =>
      let s := (s.set (CST_ROUTE.PRIMARY.nth 8 e) i a).set (CST_ROUTE.ALTERNATE.nth 8 e) i (if b = 255 then 0 else b)
      .ok ((s.set (CST_ROUTE.ALT_VALID.nth 8 e) i (flag (b != 255))).set (CST_ROUTE.VALID.nth 8 e) i 1)

/-- CONST_ROUTE (R292). -/
def execConstRoute (t : Stamp) (m : Nat) (s : State) : Res := rowCommand t m 0x0902 cmdConstRoute s

/-- JOURNAL_MIRROR (R166, R305); `answer` is the partner's: none in time, or whether it has a free slot. DESIGN CHOICE (log 43): the end of the mirroring of a journal that is not mirrored is ST_OK. -/
def cmdJournalMirror (answer : Option Bool) (_ : Caller) (p : List Byte) (s : State) : Reply :=
  let j := leAt p 0 1
  let q := leAt p 2 2
  let us := leAt p 4 4
  let start := leAt p 1 1 == 0
  paramChecks s [(0, decide (63 < j)), (1, decide (1 < leAt p 1 1)), (2, decide (1023 < q)),
      (4, start && (us == 0 || decide (10000 < us))), rsv p 8 8] fun _ =>
    if start = false then
      match s.mirrorTo j with
      | some r => .ok (({ s with jnl := { s.jnl with mirrors := dropKey j s.jnl.mirrors, parting := nput s.jnl.parting j r.1 } }).toPackage r.1 6 [j, 0])
      | none => .ok s
    else if s.isMember q = false then .no s stNotFound
    else
      match answer with
      | none => .no (s.toPackage q 6 [j, 1]) stTimeout
      | some false => .bad (s.toPackage q 6 [j, 1]) 2
      | some true =>
        let s : State := { s with jnl := { s.jnl with mirrors := nput s.jnl.mirrors j (q, usTicks us), parting := dropKey j s.jnl.parting } }
        .ok ((s.set JNL_SEQ.MIRROR_LOST j 0).toPackage q 6 [j, 1])

/-- JOURNAL_MIRROR (R305). -/
def execJournalMirror (t : Stamp) (m : Nat) (answer : Option Bool) (s : State) : Res :=
  rowCommand t m 0x0903 (cmdJournalMirror answer) s

/-- MIRROR_RECORD (R305): a record of a member's journal comes, with its DRAINED_SEQ. -/
def execMirrorRecord (t : Stamp) (src journal seq : Nat) (bytes : List Byte) (drained : Nat) (s : State) : Res :=
  liveS t s (fun s =>
    if s.isMember src ∧ journal < 64 ∧ 0 < bytes.length ∧ bytes.length % 64 = 0 then s.mirrorRecord src journal seq bytes drained else s)

/-- MIRROR_MARK (R306): confirm (bit 0) and void (bit 1) marks of a record come; `ended` says that the mirroring has ended. -/
def execMirrorMark (t : Stamp) (src journal seq fl drained : Nat) (ended : Bool) (s : State) : Res :=
  liveS t s (fun s => s.mirrorMark src journal seq fl drained ended)

/-! ### Links -/

/-- LINK_FLIT_RECEIVE (R289, R290, R293): a link that is up gets a flit of 512 bytes; `from_` is the package whose packets it brings. -/
def execLinkFlitReceive (t : Stamp) (l : Nat) (f : List Byte) (from_ : Nat) (s : State) : Res :=
  liveS t s (fun s =>
    if 8 ≤ l ∨ f.length ≠ 512 ∨ 1024 ≤ from_ ∨ s.linkUp l = false then s
    else if flitGood f then s.goodLinkFlit l from_ f else s.badLinkFlit l f)

/-- TIME_MARK (R302): the marks of one frame on a link: `sA` and `sB` the values that the peer's and this package's marks carry, `rB`
and `rA` the stamps at which they arrive here and there, all in units of 10 ps; `number` is the sender's. -/
def execTimeMark (t : Stamp) (l : Nat) (sA rB sB rA : Nat) (number : Nat) (s : State) : Res :=
  liveS t s (fun s0 =>
    let s := s0
    if 8 ≤ l ∨ s.linkUp l = false then s
    else if s.contradicts l number then (s.set LINK_EVT.WRONG_PEER l 1).dropLink l 0
    else
      let there : Int := (rB : Int) - sA
      let back : Int := (rA : Int) - sB
      let d := (there + back) / 2
      let s := (s.set LINK_STATUS.PEER l (number % 1024)).set LINK_STATUS.DELAY l (d / 25).toNat
      if (s.fld LB_STATUS.COUPLER_LOST 0).testBit l then s.set LINK_STATUS.MARKS_OK l 0
      else
        let s := s.set LINK_STATUS.MARKS_OK l 1
        if s.fld STB_STATE.SOURCE 0 = 2 ∧ s.fld STB_STATE.LINK 0 = l then
          let n := s.clock.marks + 1
          let sum := s.clock.thetas + (there - back) / 2
          if n < 122070 then { s with clock := { s.clock with marks := n, thetas := sum } }
          else
            let s : State := { s with clock := { s.clock with marks := 0, thetas := 0 } }
            (s.disciplinePulse (10 * (sum / 122070)) true).landed s0
        else s)

/-- LINK_DOWN (R287, R307, R308): a link goes down: 0 on replay failure or width loss, 1 on loss of light, 2 on a fence flit, by which its
sender is lost too, 3 on a wrong peer. -/
def execLinkDown (t : Stamp) (l : Nat) (cause : Nat) (s : State) : Res :=
  liveS t s (fun s =>
    if 8 ≤ l ∨ 4 ≤ cause ∨ (s.fld LINK_STATUS.STATE l ≠ 2 ∧ s.fld LINK_STATUS.STATE l ≠ 1) then s
    else
      let s := s.dropLink l 0
      let p := s.fld LINK_STATUS.PEER l
      match cause with
      | 1 => s.set LB_STATUS.LINK_PATH_LOST 0 (withBit (s.fld LB_STATUS.LINK_PATH_LOST 0) l)
      | 2 =>
        let s := s.set LINK_EVT.FENCE_RX l 1
        if s.isMember p ∧ p ≠ s.fld CST_STATUS.NUMBER 0 then (s.loseMember p).sendUpdate p 1 else s
      | 3 => s.set LINK_EVT.WRONG_PEER l 1
      | _ => s)

/-! ### Members -/

/-- MEMBER_LOST (R308): this package's links to a member have been down for 1 ms: the member is lost, and every member is told. -/
def execMemberLost (t : Stamp) (p : Nat) (s : State) : Res :=
  liveS t s (fun s =>
    if s.isMember p ∧ p ≠ s.fld CST_STATUS.NUMBER 0 ∧ s.cutOff p then
      (s.loseMember p).sendUpdate p 1
    else s)

/-- MEMBERSHIP_UPDATE (R308, R309): a member's Falip tells that a package has joined, or left. -/
def execMembershipUpdate (t : Stamp) (p : Nat) (came : Bool) (s : State) : Res :=
  liveS t s (fun s =>
    if s.is CST_STATUS.MEMBER 0 = false ∨ 1024 ≤ p ∨ p = s.fld CST_STATUS.NUMBER 0 then s
    else if came then (if s.isMember p then s else (s.setMember p true).constEvent p 0)
    else s.loseMember p)

/-- R303: whether a member can be the grandmaster, by what this package knows: the lowest-numbered member that is LOCKED on source 1, or where
none is, the lowest-numbered one. A package knows its own state alone. -/
def State.mayElect (s : State) (gm : Nat) : Bool :=
  let n := s.fld CST_STATUS.NUMBER 0
  let locked := s.fld STB_STATE.STATE 0 == 2 && s.fld STB_STATE.SOURCE 0 == 1
  s.isMember gm && (if gm = n then locked || (List.range n).all (fun p => !(s.isMember p)) else !(locked && decide (n < gm)))

/-- GRANDMASTER_ELECTION (R303): Falip finds the grandmaster; any other member takes its time from the first link toward it, through
the STB re-sync activity. A package that R303 rules out is not elected. -/
def execGrandmasterElection (t : Stamp) (gm : Nat) (s : State) : Res :=
  liveS t s (fun s =>
    if s.mayElect gm = false then s
    else
      let mine := gm == s.fld CST_STATUS.NUMBER 0
      let s := (s.set CST_STATUS.GM 0 gm).set CST_STATUS.IS_GM 0 (flag mine)
      if mine then s
      else
        match s.firstLink gm with
        | some l =>
          if s.fld STB_STATE.SOURCE 0 = 2 ∧ s.fld STB_STATE.LINK 0 = l then s
          else s.keeperAct (newAct 9 0x00FFFFFF
            (resyncParam 2 l (s.fld STB_STATE.HOLDOVER_EN 0) (s.fld STB_CTRL.HOLDOVER_S 0) 0) .keeper)
        | none => s)

/-! ### Remote requests (R294, R296, R299) -/

/-- The exporter's checks of R294 that are its own; the populated address and the world are checked at the home. -/
def State.exportRefuses (s : State) (p : Pkt) (g : Nat) : Bool :=
  let k := 64 * p.line % 2 ^ 41 / 2 ^ 36
  let a := 64 * s.importLine p.line
  let coherent := decide (1 ≤ p.op) && decide (p.op ≤ 4)
  !(s.is CST_EXPORT.VALID k) || addrKind a != .local_ ||
    (s.populated a && s.addrSecure a == p.world && coherent && (!(s.inGroup g) || !(s.is CST_EXPORT.COH k)))

/-- REMOTE_REQUEST (R294, R296): a request of another package for a line of this package's window, at the cell of its link, is refused, or
goes on to its home slice. -/
def execRemoteRequest (t : Stamp) (p : Pkt) (s : State) : Res :=
  liveS t s (fun s =>
    match p.pkg, lineWindow p.line with
    | some g, some w =>
      if s.is CST_STATUS.MEMBER 0 = false ∨ w ≠ s.fld CST_STATUS.NUMBER 0 ∨ p.cls ≠ 3 ∨
          [1, 2, 3, 4, 8, 9, 10].contains p.op = false ∨ (carriesData p.cls p.op ∧ p.data.length ≠ 64) ∨
          (p.op = 9 ∧ p.fits = false) ∨ (p.op = 10 ∧ p.atomicOk = false) ∨ s.hasPkt p = false then s
      else
        let s := s.takePkt p
        if s.is CST_STATUS.LEAVING 0 then s.sendOut g (p.cause 0 15 p.src 4)
        else if s.exportRefuses p g then s.sendOut g (p.cause 0 15 p.src 1)
        else
          let line := s.importLine p.line
          s.sendFrom p.dest { p with line := line, dest := sliceCode (homeSlice (64 * line)) }
    | _, _ => s)

/-- REMOTE_TIMEOUT (R299): no answer within REMOTE_TO: the request is refused with reason 4, and the transaction ID is quarantined. -/
def execRemoteTimeout (t : Stamp) (slice txn : Nat) (s : State) : Res :=
  liveS t s (fun s =>
    match s.remoteAt slice txn with
    | some r =>
      if r.quarantined ∨ s.stb < r.start + usTicks (s.fld CST_CTRL.REMOTE_TO 0) then s
      else ((s.quarantine r).set LINK_EVT.REMOTE_TIMEOUT r.link 1).failRemote r
    | none => s)

/-- REMOTE_QUARANTINE_EXPIRY (R299): 4 × REMOTE_TO after its issue a quarantined ID is free. -/
def execRemoteQuarantineExpiry (t : Stamp) (slice txn : Nat) (s : State) : Res :=
  liveS t s (fun s =>
    match s.remoteAt slice txn with
    | some r =>
      if r.quarantined ∧ r.start + 4 * usTicks (s.fld CST_CTRL.REMOTE_TO 0) ≤ s.stb then (s.dropRemote r).homes else s
    | none => s)

end Sys2Proof.Machine
end

