-- ==== Sys2Proof/Machine/PowerRows.lean ====
section
/-! DEFINITION. The rows of power: its commands (R77), cell states (R380 to R383), domains (R384), the package states (R386 to R388), the
rails (R390), PMBus polling and arming (R391, R403), and capping (R394, R395). -/

namespace Sys2Proof.Machine

/-- R80: EV_THERMAL reports CAPPING when what a command does changes it. -/
def State.thermal (s : State) (f : State → State) : State :=
  let s' := f s
  if s'.capping = s.capping then s' else s'.event 0x09 s'.stb (leBytes 1 s'.capping)

/-! ### SET_VOTE_POLICY (R77, R326, R384, R387) -/

/-- SET_VOTE_POLICY. A vote or an ungating for which a rail's voltage is not yet acknowledged awaits it (R62, R390; log 44). -/
def cmdSetVotePolicy (c : Caller) (p : List Byte) (s : State) : Reply :=
  let i := votePlace p
  let on := leAt p 4 1 == 1
  let clock := leAt p 5 1
  paramChecks s [(0, decide (152 < i)), (4, decide (1 < leAt p 4 1)), (5, decide (2 < clock) || (decide (136 ≤ i) && clock != 0)),
      rsv p 6 2] fun _ =>
    if (s.boxPort c.box).isSome ∨ (i = 152 ∧ c.secure = false) then .no s stDeniedWorld
    else if i = 152 then .ok (s.set PWR_DOMAIN.PACKAGE_VOTE 152 (flag on))
    else
      let held := if i < 136 then s.blkHeld i else s.secureVote i
      if c.secure = false ∧ held ∧ (on = false ∨ clock = 1) then .no (s.noteSecure FLT_SECURE.HELD_SECURE (leAt p 0 4)) stHeldSecure
      else
        match s.voteRails p, c.cmd with
        | [], _ => .ok (s.applyVote c.box p)
        | _, none => .ok (s.applyVote c.box p)
        | rs, some n => .later (rs.foldl (fun s r => s.askRail r (s.railCommitted r (fun _ => true)) (some (c.box, n))) s)

/-- POWER_LIMIT (R77, R392). -/
def execPowerLimit (t : Stamp) (m : Nat) (s : State) : Res := rowCommand t m 0x0B00 cmdPowerLimit s
/-- THERMAL_STATUS (R77). -/
def execThermalStatus (t : Stamp) (m : Nat) (s : State) : Res := rowCommand t m 0x0B01 cmdThermalStatus s
/-- SET_VOTE_POLICY (R77, R384, R387). -/
def execSetVotePolicy (t : Stamp) (m : Nat) (s : State) : Res := rowCommand t m 0x0B02 cmdSetVotePolicy s

/-! ### Cell states (R380 to R383) -/

/-- The state that a core enters at WFI: 1 GATED, 2 RETAIN, 3 OFF; GATED in a service group (R383). -/
def State.idleState (s : State) (c : Nat) : Nat :=
  if s.is DSP_CORE.IN_GROUP c then 1
  else
    match s.fld CORE_PWR.IDLE_STATE c with
    | 1 => 2
    | 2 => 3
    | _ => 1

/-- The trailing core of a binary pair, which follows its leading core (R383). -/
def State.trailing (s : State) (c : Nat) : Option Nat :=
  if s.fld CORE_PAIR.STATE c = 2 then some (s.fld CORE_PAIR.PARTNER c) else none

/-- A core and its trailing core. -/
def State.asPair (s : State) (c : Nat) : List Nat := c :: (s.trailing c).toList

/-- R380: a core enters a state: RETAIN and OFF empty its L1s, OFF keeps nothing. -/
def State.enterState (s : State) (c st : Nat) : State :=
  (s.asPair c).foldl (fun (s : State) k =>
    let s := if 2 ≤ st then s.clearL1 k else s
    (if st = 3 then s.wipeHart k else s).setCorePwr k st) s

/-- The exception of a WFI that the hart's mode may not execute (mstatus.TW, hstatus.VTW, U and VU modes; log 14). -/
def State.wfiTrap (s : State) (h : Nat) : Option Nat :=
  let x := s.hart h
  if x.priv < 3 ∧ wbits (s.csr h csrMstatus) 21 1 = 1 then some 2
  else if x.priv = 0 then some (if x.virt then 22 else 2)
  else if x.virt ∧ wbits (s.csr h csrHstatus) 21 1 = 1 then some 22
  else none

/-- R170: WRS.NTO (0x00D00073): it waits until the reservation is lost or an interrupt is pending; one that would wait traps as a WFI
does (log 14). -/
def State.wrsNto (s : State) (h : Nat) : State :=
  if (s.hart h).resv.isNone ∨ s.wakes h then s.nextPc h 4
  else
    match s.wfiTrap h with
    | some cause => s.badIns h cause 0x00D00073
    | none =>
      let s := s.nextPc h 4
      s.setHart h { s.hart h with stalled := true }

/-- WFI (R380, R383), and the waits of Zawrs (R170): `x` is the instruction. WRS.STO (0x01D00073), which waits at most 256 ns, ends at
once. -/
def execWfi (t : Stamp) (x : Fetched) (s : State) : Res :=
  liveS t s (fun s =>
    let h := x.hart
    let ins := x.ins
    if !(s.ready h) then s
    else if ins = 0x00D00073 then s.wrsNto h
    else if ins = 0x01D00073 then s.nextPc h 4
    else if ins ≠ 0x10500073 then s
    else
      match s.wfiTrap h with
      | some cause => s.badIns h cause ins
      | none =>
        let s := s.nextPc h 4
        if s.wakes h then s else (s.setHart h { s.hart h with waiting := true }).enterState h (s.idleState h))

/-- CORE_WAKE (R381): an enabled interrupt brings a core back from GATED or RETAIN after its WFI; from OFF, an interrupt pending in its
IMSIC starts it at its reset vector on its oscillator. -/
def execCoreWake (t : Stamp) (h : Nat) (s : State) : Res :=
  liveS t s (fun s =>
    if decide (288 ≤ h) || !(s.coreUp h) || s.fld PWR_DOMAIN.ON (8 * (h / 24) + h % 24 / 4) == 0 || s.fld CORE_PAIR.STATE h == 3 then s
    else if s.fld CORE_PWR.STATE h = 3 then
      if s.imsic.any (fun q => q.1 == h) then
        let s := s.startCore h false
        (s.trailing h).elim s (fun k => s.setCorePwr k 0)
      else s
    else if (s.hart h).waiting ∧ s.wakes h then
      (s.asPair h).foldl (fun (s : State) k => s.setCorePwr k 0) (s.setHart h { s.hart h with waiting := false })
    else s)

/-- CLOCK_SWITCH (R382): the switch to the block PLL, which has locked, takes place. -/
def execClockSwitch (t : Stamp) (c : Nat) (s : State) : Res :=
  liveS t s (fun s => if c < 288 then s.set CORE_PWR.CLK_SWITCHING c 0 else s)

/-! ### Domains (R384) -/

/-- DOMAIN_OFF (R384, R416): a domain that nothing holds goes OFF. -/
def execDomainOff (t : Stamp) (i : Nat) (s : State) : Res :=
  liveS t s (fun s => if s.domainThere i && s.is PWR_DOMAIN.ON i && !(s.domainHeld i) then s.domainOff i else s)

/-- DOMAIN_ON (R384, R416): a domain on which a hold has arisen comes ON; a block's region comes ON with it. -/
def execDomainOn (t : Stamp) (i : Nat) (s : State) : Res :=
  liveS t s (fun s =>
    if s.domainThere i && s.fld PWR_DOMAIN.ON i == 0 && s.domainHeld i && !s.pow.eclipse && !s.nf.triggered then
      let r := 136 + i / 8
      let s := if i < 136 ∧ i / 8 < 16 ∧ s.fld PWR_DOMAIN.ON r = 0 then s.domainOn r else s
      s.domainOn i
    else s)

/-! ### Package states (R386 to R388) -/

/-- IDLE_ENTRY (R386). -/
def execIdleEntry (t : Stamp) (s : State) : Res := liveS t s State.enterIdle

/-- The blocks of the save domain (R398) among the chip's. -/
def saveBlocks : List Nat := [0, 1, 3, 4, 5, 7]

/-- R387: the domains that are OFF in ECLIPSE: those of the bricks and of the keystone outside the save domain. -/
def eclipseOff : List Nat :=
  (List.range 128) ++ [130, 134] ++ (List.range 16).map (fun l => 136 + l)

/-- Whether every condition of R387 holds. -/
def State.mayEclipse (s : State) : Bool :=
  s.fld PWR_DOMAIN.PACKAGE_VOTE 152 == 0 && s.svc.channels.isEmpty && s.alm.books.isEmpty &&
    (List.range 288).all (fun c => !(s.is DSP_CORE.HOLDING c)) && !(s.is CST_STATUS.MEMBER 0) &&
    (List.range 32).all (fun i => s.fld PCIE_LINK.STATE i != 2) &&
    s.maint.acts.all (fun a => decide (2 ≤ a.state)) && s.is NF_STATUS.ARMED 0

/-- Sets READY of every mailbox that has a path. -/
def State.setReady (s : State) (on : Bool) : State :=
  let s := (List.range 64).foldl (fun (s : State) m => if s.fld MBX_CFG.PATH m = 3 then s else s.set MBX_STATUS.READY m (flag on)) s
  if on then s.portsReady else s

/-- ECLIPSE_ENTRY (R387): at a keeper tick. -/
def execEclipseEntry (t : Stamp) (s : State) : Res :=
  liveS t s (fun s =>
    if s.mayEclipse ∧ s.stb % 1024 = 0 ∧ s.pow.eclipse = false ∧ s.nf.triggered = false then
      let s := (eclipseOff.filter (fun i => s.is PWR_DOMAIN.ON i)).foldl State.domainOff s
      let s : State := { s with pow := { s.pow with eclipse := true } }
      (s.endIdle).setReady false
    else s)

/-- A PCI Express link that has trained. -/
def State.linkTrained (s : State) (x : Trained) : State :=
  let i := linkIdx x.port x.link
  if x.port < 8 ∧ x.link < 4 then
    (((s.set PCIE_LINK.STATE i 2).set PCIE_LINK.WIDTH i x.width).set PCIE_LINK.SPEED i x.speed).set PCIE_LINK.FLIT i (flag x.flit)
  else s

/-- ECLIPSE_WAKE (R388): an address match on the SMBus, or on the I3C bus, wakes the package; its transfer has no effect. -/
def execEclipseWake (t : Stamp) (i3c : Bool) (trained : List Trained) (s : State) : Res :=
  liveS t s (fun s =>
    if s.pow.eclipse ∧ s.nf.triggered = false then
      let s := (s.set PPM_STATUS.WAKE_CAUSE 0 (if i3c then 2 else 1)).emit .smbusNack [flag i3c]
      let s : State := { s with pow := { s.pow with eclipse := false, quiet := 0 } }
      let s := (eclipseOff.filter s.domainThere).foldl State.domainOn s
      let s := s.setReady true
      let cores := (List.range 288).filter (fun c => s.coreUp c && s.fld CORE_PAIR.STATE c != 3)
      let s := cores.foldl (fun (s : State) c => s.startCore c false) s
      (trained.foldl State.linkTrained s).set PWR_DOMAIN.PACKAGE_VOTE 152 1
    else s)

/-! ### Rails (R390) -/

/-- AVSBUS_ACKNOWLEDGEMENT (R390). -/
def execAvsbusAcknowledgement (t : Stamp) (r : Nat) (s : State) : Res := liveS t s (fun s => s.thermal (fun s => s.railAck r))
/-- AVSBUS_TIMEOUT (R390, R77). -/
def execAvsbusTimeout (t : Stamp) (r : Nat) (s : State) : Res := liveS t s (fun s => s.thermal (fun s => s.railLate r))
/-- AVSBUS_RETRY (R390). -/
def execAvsbusRetry (t : Stamp) (r : Nat) (s : State) : Res := liveS t s (fun s => s.thermal (fun s => s.railRetry r))

/-! ### PMBus polling and arming (R391, R403) -/

/-- R391: what a poll reads of the regulators, in the order of R389, and of the input of the VSAVE regulator in mV. -/
def State.poll (s : State) (regs : List RegStatus) (vin : Nat) : State :=
  let s := regs.foldl (fun (s : State) x => if x.fault || !x.read then s.raise { coll := .chip, bit := 35 } else s) s
  let s := [0, 1].foldl (fun (s : State) r =>
    match regs[r]? with
    | some x => if x.read then s.readWarn r x.ocWarn else s
    | none => s) s
  let s : State := match regs[4]? with
    | some x => { s with nf := { s.nf with reading := if x.read then some (vin, !x.fault)
                                                      else s.nf.reading.map (fun q => (q.1, false)) } }
    | none => s
  s.decideArming

/-- PMBUS_POLL (R391, R403). -/
def execPmbusPoll (t : Stamp) (regs : List RegStatus) (vin : Nat) (s : State) : Res :=
  liveS t s (fun s => if s.nf.triggered then s else (s.emit .pmbus [vin]).poll regs vin)

/-! ### Capping (R394, R395) -/

/-- One lowering by a cause: f_c falls by 100 MHz, and the next falls due a period after this one. -/
def State.capStep (s : State) (key cause bit wait : Nat) (ds : List Nat) : State :=
  let t0 := nget s.pow.hot key 0
  let s := (s.lowerFc cause ds).raise { coll := .chip, bit := bit }
  { s with pow := { s.pow with hot := nput s.pow.hot key (t0 + wait) } }

/-- R394: f_c rises by a step, and the next rises 100 ms later; where a rail's voltage does not yet carry it, the voltage is asked for
first (R390). -/
def State.liftCap (s : State) (key cause : Nat) (ds : List Nat) : State :=
  let s' := s.raiseFc cause ds
  match s.needsRail s' with
  | [] => { s' with pow := { s'.pow with cool := nput s'.pow.cool key (nget s.pow.cool key 0 + msTicks 100) } }
  | rs => rs.foldl (fun (t : State) r =>
      if t.fld PPM_RAIL.PENDING r = 0 ∧ (t.rail r).retry.isNone then t.askRail r (s'.railCommitted r (fun _ => true)) none else t) s

/-- JUNCTION_CAPPING (R394): the hottest junction of a die has been at or above 103 °C for a further 1 ms. -/
def execJunctionCapping (t : Stamp) (die : Nat) (s : State) : Res :=
  liveS t s (fun s => s.thermal (fun s =>
    if die < 13 ∧ s.heldFor s.pow.hot die (msTicks 1) then
      if die = 12 then s.capStep die 4 33 (msTicks 1) domains else s.capStep die 0 33 (msTicks 1) (brickDomains die)
    else s))

/-- LID_CAPPING (R394): the lid has been at or above 85 °C for a further 1 ms. -/
def execLidCapping (t : Stamp) (s : State) : Res :=
  liveS t s (fun s => s.thermal (fun s =>
    if s.heldFor s.pow.hot 16 (msTicks 1) then s.capStep 16 1 34 (msTicks 1) domains else s))

/-- REGULATOR_CAPPING (R394): IOUT_OC_WARN on a VCORE rail, every 10 ms while it lasts. -/
def execRegulatorCapping (t : Stamp) (r : Nat) (s : State) : Res :=
  liveS t s (fun s => s.thermal (fun s =>
    if r < 2 ∧ s.pow.warn.contains r ∧ s.heldFor s.pow.hot (32 + r) 0 then
      let s' := s.lowerFc 2 (railDomains r)
      { s' with pow := { s'.pow with hot := nput s'.pow.hot (32 + r) (s.stb + msTicks 10) } }
    else s))

/-- CAPPING_LIFT (R394): a cause (0 a die's junction, 1 the lid, 2 a VCORE rail) has been clear for a further 100 ms. -/
def execCappingLift (t : Stamp) (cause u : Nat) (s : State) : Res :=
  liveS t s (fun s => s.thermal (fun s =>
    let lift := fun (key c : Nat) (ds : List Nat) =>
      if s.heldFor s.pow.cool key (msTicks 100) then s.liftCap key c ds else s
    match cause with
    | 0 => if u < 12 then lift u 0 (brickDomains u) else if u = 12 then lift 12 4 domains else s
    | 1 => lift 16 1 domains
    | 2 => if u < 2 then lift (32 + u) 2 (railDomains u) else s
    | _ => s))

/-- THERMAL_TRIP (R395): a junction at or above 110 °C; one event per trip. -/
def execThermalTrip (t : Stamp) (die : Nat) (s : State) : Res :=
  liveS t s (fun s =>
    if die < 13 ∧ 110 * 16 ≤ celsius16 (nget s.pow.temps die 0) ∧ s.pins.thermtripN then
      ({ s with pins := { s.pins with thermtripN := false } }).raise { coll := .chip, bit := 36 }
    else s)

end Sys2Proof.Machine
end

