-- ==== Sys2Proof/Machine/FrameRows.lean ====
section
/-! DEFINITION. MERIDIAN (R121): what a frame's opening does. Rules that have a row of their own at a meridian (replica markers, deferred
stalls, IDLE) are those rows'. -/

namespace Sys2Proof.Machine

/-- R190: the bank-wait count of a core for the frame that has ended; how often it waited is not the model's to say (log 8). -/
def State.arbHint (s : State) (c : Nat) : State :=
  if s.coreUp c = false ∨ s.fld PWR_DOMAIN.ON (8 * (c / 24) + c % 24 / 4) = 0 then s
  else
    let q := if s.fab.asked.contains c ∧ s.fld CORE_PAIR.STATE c ≠ 3 then s.free else (0, s)
    let n := q.1 % 65536
    let s := q.2.set CORE_ARB_HINT.LAST_WAIT c n
    let thr := s.fld CORE_ARB_HINT.THRESHOLD c
    if thr ≠ 0 ∧ thr ≤ n ∧ (s.word .CHIP_CAP_EFFECTIVE 0 0).toNat.testBit 12 then
      (s.setMip c 21 true).setHart c { s.hart c with hint := some s.stb }
    else s

/-- R274: a frame in which a spare's receiver has found an error charges the physical lane: (2 × course + direction) × 128 + lane. -/
def State.spareError (s : State) (x : Nat) : State :=
  let i := x / 256
  let d := x / 128 % 2
  if i < 48 ∧ s.courseUp i ∧ (s.spares i d).contains (x % 128) then s.chargeLane i d (x % 128) 0 else s

/-- R302 and R306: what goes to other packages at a meridian: a time mark (FTYPE 3) on every link that is up and whose replay buffer has
room, and DRAINED_SEQ of mirrored
journals, and of those whose mirroring has ended until their mirrored records are drained (R305). -/
def State.frameMessages (s : State) : State :=
  let s := (List.range 8).foldl (fun (s : State) l =>
    if s.linkUp l ∧ (s.linkRx l).sent.length < 2048 then
      s.sendFlit l 3 (s.fld CST_STATUS.NUMBER 0) 0 (leBytes 8 s.stb ++ leBytes 2 (s.fld CST_STATUS.NUMBER 0))
    else s) s
  let s := s.jnl.mirrors.foldl (fun (s : State) q => s.toPackage q.2.1 10 [q.1, s.fld JNL_SEQ.DRAINED_SEQ q.1, 0]) s
  let s := s.jnl.parting.foldl (fun (s : State) q => s.toPackage q.2 10 [q.1, s.fld JNL_SEQ.DRAINED_SEQ q.1, 1]) s
  { s with jnl := { s.jnl with parting := s.jnl.parting.filter (fun q => s.jnl.recs.any (fun r => r.journal == q.1 && r.mirrored)) } }

/-- R121 to R123, R425 and R393: a frame opens. -/
def State.openFrame (s : State) (x : Measures) (errs : List Nat) : State :=
  let s := s.turnFrame
  let s := (List.range 16).foldl State.trimDue (s.refFrame x.refHz)
  let s := s.capture (frameOf s.stb - 1)
  let s := (List.range 288).foldl State.arbHint s
  let s : State := { s with fab := { s.fab with asked := [] } }
  let s := errs.eraseDups.foldl State.spareError s
  let s := (s.thermal (fun s => s.powerFrame x)).countQuiet
  let s := s.set STB_OFFSET.HOLDOVER_MS 0 s.holdoverMs
  s.frameMessages

/-- MERIDIAN (R121): the meridian at stamp `t`, a multiple of 32,768; `x` is what the power manager measures, `errs` the spare lanes that
found an error in the frame that has ended. -/
def execMeridian (t : Stamp) (x : Measures) (errs : List Nat) (s : State) : Res :=
  liveS t s (fun s => if t % 32768 = 0 ∧ s.stb = t then s.openFrame x errs else s)

end Sys2Proof.Machine
end

