-- ==== Sys2Proof/Machine/Keeper.lean ====
section
/-! DEFINITION. The keeper and its mailboxes: divergence and restart, doorbells, taking and completing commands, and the
sideband bus (spec chapter 02). -/

namespace Sys2Proof.Machine

/-- R39: one hour in ticks, within which a second divergence is FATAL. -/
def hourTicks : Nat := 14400000000000

/-- R39: the keeper diverges: both cores are reset and a restart begins. A second divergence within 1 hour of the last is
FATAL. A divergence during a restart is one more divergence. -/
def keeperDiverge (s : State) : State :=
  let again := match s.keeper.lastDiv with
    | some d => decide (s.stb - d < hourTicks)
    | none => false
  let s := { s with keeper := { s.keeper with
    lastDiv := some s.stb, restarting := some 0,
    restartAt := if s.keeper.restarting.isSome then s.keeper.restartAt else s.stb } }
  let s := (List.range 64).foldl (fun s m => s.set MBX_STATUS.KEEPER_RESTART m 1) s
  let s := s.raise { coll := .chip, bit := 25 }
  if again then s.raise { coll := .chip, bit := 26 } else s

/-- KEEPER_DIVERGENCE (R39). -/
def execKeeperDivergence (t : Stamp) (s : State) : Res := liveS t s keeperDiverge

/-- R39 and R51: takes back what a command that ends with ST_INTERNAL or ST_TIMEOUT has done so far: a function being quiesced is
assigned again, a join or leave has not begun, a rail that is awaited keeps its voltage, a vote or limit that waits for it is not made, an activation is called off,
ops that a RELEASE_GROUP has withdrawn are queued again where their answers have not been issued (log 44), and the activity that it started
is aborted where it can be. -/
def State.undoCommand (s : State) (m : Nat) (k : Taken) : State :=
  if k.ran = false then (if k.opcode = 0x0900 then s.set CST_STATUS.JOINING 0 0 else if k.opcode = 0x0901 then s.set CST_STATUS.LEAVING 0 0 else s)
  else
    match k.opcode with
    | 0x0A01 =>
      let p := leAt k.payload 0 1
      let i := vfIdx p (leAt k.payload 2 2)
      if s.fld TNT_VF.STATE i = 2 then s.set TNT_VF.STATE i 1 else s
    | 0x0204 => if leAt k.payload 1 1 = 1 then s.unwithdraw (leAt k.payload 0 1) else s
    | 0x0B00 => s.railForget (m, k.id)
    | 0x0B02 => s.railForget (m, k.id)
    | 0x0D01 => { s with keeper := { s.keeper with activate := none } }
    | _ =>
      match k.maint.bind s.activity with
      | some a => if a.state = 1 ∧ s.isPast a = false then (s.setAct { a with cmd := none }).abortAct a else s
      | none => s

/-- The commands of a mailbox that `p` picks end with a status and without an effect. -/
def State.dropCommands (s : State) (m st : Nat) (p : Taken → Bool) : State :=
  let s := ((s.box m).taken.filter p).foldl (fun (s : State) k => s.undoCommand m k) s
  s.mapTaken m p (fun k => { k with ran := true, due := true, final := some ⟨st, 0, []⟩ })

/-- R39: the end of a restart for one mailbox. A command taken before it that had started no maintenance activity ends with
ST_INTERNAL; after FW_ACTIVATE's restart (R79) there is none but the activation, which has been carried out. Bounds are extended by the
restart's duration; held completions are written. -/
def restartBox (cause ext : Nat) (s : State) (m : Nat) : State :=
  let b := s.box m
  let s := s.setBox m { b with
    waiting := b.waiting.map (fun e => { e with ext := e.ext + ext }),
    taken := b.taken.map (fun k => if k.final.isNone then { k with bound := k.bound + ext } else k) }
  let s := if cause = 0 then s.dropCommands m stInternal (fun k => k.final.isNone && k.maint.isNone)
    else s.mapTaken m (fun k => k.final.isNone && k.ran && k.opcode == 0x0D01) (fun k => { k with final := some ⟨stOk, 0, []⟩ })
  (s.set MBX_STATUS.KEEPER_RESTART m 0).flushBox m

/-- R39 and R347: the keeper runs again: mailboxes go on, the BST of every endpoint port is rebuilt, held events and
EV_KEEPER_RESTART with the cause are written. -/
def keeperRestartEnd (s : State) : State :=
  match s.keeper.restarting with
  | none => s
  | some cause =>
    let ext := s.stb - s.keeper.restartAt
    let held := s.keeper.held
    let s := { s with keeper := { s.keeper with restarting := none, held := [] } }
    let s := (List.range 64).foldl (restartBox cause ext) s
    let s := (List.range 64).foldl State.lostEvent s
    let s := [0, 2, 4, 6].foldl State.rebuildBst s
    let s := held.foldl (fun s e => s.event e.code e.stamp e.payload e.scope) s
    s.event 0x0A s.keeper.restartAt (leBytes 1 cause)

/-- KEEPER_RESTART_END (R39). -/
def execKeeperRestartEnd (t : Stamp) (s : State) : Res := liveS t s keeperRestartEnd

/-- MBX_DOORBELL_CMD_TAIL (R47). Before the package has started the doorbell is ignored with BAD_DOORBELL (R434). -/
def execMbxDoorbellCmdTail (t : Stamp) (m : Nat) (via : Via) (tail : Nat) (s : State) : Res :=
  if 64 ≤ m ∨ s.up then
    live t s (fun s =>
      if 64 ≤ m then s
      else if s.pathOk m via then s.doorbell m tail
      else (s.pathViolation m 8 via).settle)
  else .next (if s.pathOk m via then s.set MBX_ERR.BAD_DOORBELL m 1 else s)

/-- MBX_DOORBELL_RESET (R52). -/
def execMbxDoorbellReset (t : Stamp) (m : Nat) (via : Via) (s : State) : Res :=
  liveS t s (fun s =>
    if 64 ≤ m then s
    else if s.pathOk m via then s.boxReset m else s.pathViolation m 8 via)

/-- MAILBOX_RESET_END (R52). -/
def execMailboxResetEnd (t : Stamp) (m : Nat) (s : State) : Res :=
  liveS t s (fun s =>
    let b := s.box m
    if m < 64 ∧ b.resetting then ((s.setBox m { b with resetting := false }).set MBX_STATUS.READY m 1).portsReady else s)

/-- MBX_CMP_HEAD (R49). -/
def execMbxCmpHead (t : Stamp) (m : Nat) (via : Via) (head : Nat) (s : State) : Res :=
  liveS t s (fun s =>
    if 64 ≤ m then s
    else if s.pathOk m via then s.cmpHead m head else s.pathViolation m 0x10 via)

/-- MBX_EVT_HEAD (R53). -/
def execMbxEvtHead (t : Stamp) (m : Nat) (via : Via) (head : Nat) (s : State) : Res :=
  liveS t s (fun s =>
    if 64 ≤ m then s
    else if s.pathOk m via then s.evtHead m head else s.pathViolation m 0x18 via)

/-- R49 to R51 and R60: takes the next command of a mailbox: CMD_HEAD and SEQ_EXPECT advance; a command whose bound exceeds
100 µs gets ST_PENDING, one that fails a generic check its final completion; a booking command sees the capacities in force
now (R107), and a join or a leave begins (R309, R310). -/
def State.takeFrom (s : State) (m : Nat) : State :=
  match (s.box m).waiting with
  | [] => s
  | e :: rest =>
    let bad := s.genericCheck m e.bytes
    let op := leAt e.bytes 0 2
    let p := (e.bytes.drop 16).take (min (leAt e.bytes 2 2) 240)
    let bound := s.boundOf op p e.stamp
    let pend := decide (usTicks 100 < bound)
    let k : Taken := { id := s.keeper.nextId, opcode := op, seq := leAt e.bytes 4 4, token := leAt e.bytes 12 4, payload := p,
                       stamp := e.stamp, bound := e.stamp + bound + e.ext, pended := pend, ran := bad.isSome, maint := none,
                       final := bad, due := bad.isSome, discard := false,
                       caps := if bookingOp op then (List.range 182).map (fun n => (s.fld ALM_CAP.BOOKABLE n, s.fld ALM_CAP.DERATED n)) else [],
                       took := some s.stb }
    let b := s.box m
    let s := ((s.setBox m { b with waiting := rest, taken := b.taken ++ [k] }).bump MBX_STATUS.CMD_HEAD m).bump
      MBX_SEQ.SEQ_EXPECT m
    let s : State := { s with keeper := { s.keeper with nextId := k.id + 1 } }
    let s := if bad.isSome then s else s.beginConst m op p
    (if pend then s.writeCmp m ⟨op, k.seq, stPending, false, 0, k.token, []⟩ else s).flushBox m

/-- COMMAND_TAKE (R48, R49). During a keeper restart no command is taken (R39), nor while an activation waits for the commands in
progress (R79). -/
def execCommandTake (t : Stamp) (s : State) : Res :=
  liveS t s (fun s =>
    if s.keeper.restarting.isSome ∨ s.keeper.activate.isSome then s
    else
      match s.firstBox with
      | some m => s.takeFrom m
      | none => s)

/-- COMMAND_BOUND_EXPIRY (R51): a command that has not ended by its bound completes with ST_TIMEOUT. -/
def execCommandBoundExpiry (t : Stamp) (m : Nat) (seq : Nat) (s : State) : Res :=
  liveS t s (fun s =>
    if s.keeper.restarting.isSome then s
    else (s.dropCommands m stTimeout (fun k => k.seq == seq && k.final.isNone && decide (k.bound ≤ s.stb))).flushBox m)

/-- FINAL_COMPLETION (R51): a command that received ST_PENDING and whose end is known gets its final completion. -/
def execFinalCompletion (t : Stamp) (m : Nat) (seq : Nat) (s : State) : Res :=
  liveS t s (fun s =>
    if s.keeper.restarting.isSome then s
    else (s.mapTaken m (fun k => k.seq == seq && k.pended && k.final.isSome) (fun k => { k with due := true })).flushBox m)

/-! ### The sideband bus -/

/-- SMBUS_POINTER_WRITE (R46): code 0xA0. A bad PEC is NACKed and has no effect; an offset that is no multiple of 8 or lies
beyond the window, or a mailbox beyond 63, is no pointer. -/
def execSmbusPointerWrite (t : Stamp) (m : Nat) (off : Nat) (pecOk : Bool) (s : State) : Res :=
  liveS t s (fun s =>
    if !pecOk ∨ s.pow.eclipse then s.emit .smbusNack [0xA0]
    else if m < 64 ∧ off % 8 = 0 ∧ off < 0x4000 then { s with keeper := { s.keeper with ptrBox := m, ptrOff := off } }
    else s.emit .smbusNack [0xA0])

/-- Writes 8-byte words at the sideband pointer, in ascending order. -/
def smbusStore : Nat → List Byte → State → State
  | 0, _, s => s
  | n + 1, d, s =>
    let s := s.windowStore s.keeper.ptrBox s.keeper.ptrOff (leAt d 0 8) .sideband
    smbusStore n (d.drop 8)
      { s with keeper := { s.keeper with ptrOff := (s.keeper.ptrOff + 8) % 0x4000 } }

/-- SMBUS_DATA_WRITE (R46): code 0xA1, 8 to 32 bytes, a multiple of 8. -/
def execSmbusDataWrite (t : Stamp) (data : List Byte) (pecOk : Bool) (s : State) : Res :=
  liveS t s (fun s =>
    if pecOk ∧ s.pow.eclipse = false ∧ data.length % 8 = 0 ∧ 8 ≤ data.length ∧ data.length ≤ 32 then smbusStore (data.length / 8) data s
    else s.emit .smbusNack [0xA1])

/-- Reads 8-byte words at the sideband pointer, in ascending order. -/
def smbusLoad : Nat → State → List Byte × State
  | 0, s => ([], s)
  | n + 1, s =>
    let q := s.windowLoad s.keeper.ptrBox s.keeper.ptrOff .sideband
    let s := { q.2 with keeper := { q.2.keeper with ptrOff := (q.2.keeper.ptrOff + 8) % 0x4000 } }
    let r := smbusLoad n s
    (leBytes 8 q.1.toNat ++ r.1, r.2)

/-- SMBUS_DATA_READ (R46): code 0xA2, 32 bytes. -/
def execSmbusDataRead (t : Stamp) (s : State) : Res :=
  liveS t s (fun s =>
    if s.pow.eclipse then s.emit .smbusNack [0xA2]
    else
      let q := smbusLoad 4 s
      q.2.emit .smbus [0xA2] q.1)

/-- ALERT_RESPONSE_ADDRESS (R46): while SMBALERT_N is asserted the package answers with its target address. -/
def execAlertResponseAddress (t : Stamp) (s : State) : Res :=
  liveS t s (fun s =>
    if s.pins.smbalertN then s else s.emit .alertAddress [s.fld STRAP_STATUS.SMB_ADDR_USED 0])

end Sys2Proof.Machine
end

