-- ==== Sys2Proof/Machine/MaintRows.lean ====
section
/-! DEFINITION. The rows of fault collection (R357 to R365) and of the maintenance sequencer (R226, R227, R275, R279, R374,
R376, R377). -/

namespace Sys2Proof.Machine

/-! ### Events of sources -/

/-- R225, R226 and R229: a read of a controller's copy of a line is uncorrectable. Where a mirror has a good copy, a read from `CHAN_A` falls
back to it and the line is rewritten, which is source 6; a copy in `CHAN_B` stays bad until the line is written (log 47). Else the line is
poisoned. Answers the source that the error is. -/
def State.uncorrectable (s : State) (c line : Nat) : Nat × State :=
  match s.mirrorOf c with
  | some b =>
    if s.fld MC_STATUS.STATE b = 5 ∨ s.fld MC_STATUS.STATE b = 7 ∨ s.mem.torn.contains (b, line) then
      (1, ((s.logMc c 2 (64 * line)).breakLine line).mended line)
    else if (lookupKey c s.mem.mirrors).isSome then (6, (s.logMc c 5 (64 * line)).mended line)
    else (1, { s.logMc c 2 (64 * line) with mem := { s.mem with torn := s.mem.torn ++ [(c, line)] } })
  | none => (1, (s.logMc c 2 (64 * line)).breakLine line)

/-- DETAIL of a memory channel's record (R363). The rank, bank, row, column and syndrome of a line are free: the spec gives no map from a line to
them (log 47). -/
def State.freeRow (s : State) : List Byte × State :=
  let a := s.free
  let b := a.2.free
  (leBytes 3 a.1 ++ leBytes 1 0 ++ leBytes 4 (a.1 / 2 ^ 24) ++ leBytes 2 (a.1 / 2 ^ 56) ++ leBytes 2 0 ++ leBytes 8 b.1 ++ leBytes 4 0, b.2)

/-- R227: a line is found correctable: where this is the first read after its rewrite, that is a hard error of row-table entry `e`. -/
def State.correctable (s : State) (c line : Nat) (e : Option Nat) : State :=
  let s := s.logMc c 1 (64 * line)
  let hard := s.mem.rewritten.any (fun x => x.1 == line && (x.2.isNone || x.2 == some s.stb))
  let s : State := { s with mem := { s.mem with rewritten := s.mem.rewritten.filter (fun x => x.1 != line) } }
  if hard then
    let q := s.freeRow
    q.2.raise { coll := mcColl c, bit := 2, elem := e, addr := 64 * line, detail := q.1, action := 1 }
  else s

/-- What a memory error does at its controller, and the event that is raised. -/
def State.mcError (s : State) (c : Nat) (e : FaultEvt) : FaultEvt × State :=
  let line := e.addr / 64
  match e.bit with
  | 0 => (e, (s.correctable c line e.elem).scrubLater c line)
  | 1 =>
    let q := s.uncorrectable c line
    (if q.1 = 1 then e else { e with bit := 6, action := 1 }, q.2)
  | 6 => (e, s.logMc c 5 e.addr)
  | _ => (e, s)

/-- R181: what a cache error does to its line: a clean line is invalidated, a dirty one poisoned; L1I parity invalidates the
line in the L1I. -/
def State.cacheError (s : State) (bb : Nat) (core : Option Nat) (b line : Nat) : State :=
  match s.held bb line with
  | none => s
  | some x =>
    match core, b with
    | some c, 0 => s.putLine bb line { x with l1 := withoutBit x.l1 (c % 4) }
    | some c, 2 => s.putLine bb line { x with l1 := withoutBit x.l1 (4 + c % 4) }
    | _, 3 => s.putLine bb line { x with poison := true }
    | none, 17 => if x.dirty then s else s.dropLine bb line
    | none, 18 => s.putLine bb line { x with poison := true }
    | _, _ => s

/-- R350 to R352: an error of a PCI Express port that `elem` names as 64 × function (of a root port, link) + its AER bit: its status, and of a
fatal error of a root link its containment. -/
def State.portError (s : State) (p : Nat) (e : FaultEvt) : FaultEvt × State :=
  match e.elem with
  | none => (e, s)
  | some x =>
    let n := x / 64
    let b := x % 64
    let root := s.portRole p == 1
    let fn := if root then linkFn n else n
    let e := { e with elem := none }
    if (if root then !((s.linksOf p).contains n) else !(s.hasFn p n)) then (e, s)
    else if e.bit = 0 ∧ [0, 6, 7, 8, 12].contains b then (e, s.aerCor p fn b)
    else if (e.bit = 2 ∧ [12, 15, 20].contains b) ∨ (e.bit = 3 ∧ fatalAer.contains b) then
      let s := if b = 12 then s.aerAdvisory p fn b else s.aerUnc p fn b
      ({ e with detail := s.headerDetail p fn }, if (root && e.bit == 3) || s.fatalAt p fn b then s.containLink p n else s)
    else (e, s)

/-- What the unit of a source does at its event, and the event that is raised. -/
def State.unitActs (s : State) (e : FaultEvt) : FaultEvt × State :=
  match e.coll, e.coll.kind with
  | .cell l b k, .core => (e, s.cacheError (6 * l + b) (some (24 * l + 4 * b + k)) e.bit (e.addr / 64))
  | .block l b, .coreBlock => (e, s.cacheError (6 * l + b) none e.bit (e.addr / 64))
  | .cell l n k, .slice => (e, if e.bit < 2 then s.logHome (16 * (l - 12) + 8 * (n - 3) + k) (e.bit + 1) (e.addr / 64) else s)
  | .cell l _ k, .pcie => s.portError (2 * (l - 12) + k) e
  | .region l, _ => (e, if e.bit = 8 then s.bumpSat RING_STATUS.HDR_CORRECTED l 1 else s)
  | c, _ =>
    match c.mc with
    | some m => s.mcError m e
    | none => (e, s)

/-- R229: the interface of an HBM3E stack fails, which retires the stack and its node. PRESUMED (log 47): the event names block Kq.2 and,
as for a pair whose training fails in service, bit 5; the block has no source of R367, so nothing is latched. -/
def State.stackFails (s : State) (e : FaultEvt) : State :=
  match e.coll with
  | .block l 2 =>
    let q := l - 12
    if 12 ≤ l ∧ l < 16 ∧ e.bit = 5 ∧ s.units.stackDown.contains q = false ∧ s.fld MEM_NODE.STATE q ≠ 0
    then (s.retireStack q).retiredEvent (0x00FF0200 + l) else s
  | _ => s

/-- FAULT_EVENT (R357, R365, R367). -/
def execFaultEvent (t : Stamp) (e : FaultEvt) (s : State) : Res :=
  liveS t s (fun s =>
    match e.coll.source e.bit with
    | none => s.stackFails e
    | some _ =>
      let q := s.unitActs e
      (q.2.raise q.1).sourceAction e.coll q.1.bit)

/-- BUCKET_LEAK (R365): a bucket loses 1 for each stamp of its schedule that has come since the last; `e` names the element of an element
bucket. -/
def execBucketLeak (t : Stamp) (c : Coll) (b : Nat) (e : Option Nat) (s : State) : Res :=
  live t s (fun s =>
    let now := s.stampIn c.home
    match e with
    | none =>
      if ((c.source b).map Source.elem) = some .none then s.leakSource c b now (s.fld FLT_SRC.LEAK_MS (srcIdx c b)) else s
    | some x =>
      let s : State := { s with faults := { s.faults with elems := s.faults.elems.map (fun (q : ElemBucket) =>
        if q.coll = c ∧ q.bit = b ∧ q.elem = x then q.leak now (s.elemCfg c b x).2 else q) } }
      s.elemReport c b)

/-! ### Records -/

/-- R364: the order of the records written in one keeper tick: stamp, unit, bit. -/
def recBefore (a b : PendRec) : Bool :=
  decide (a.stamp < b.stamp) || (a.stamp == b.stamp &&
    (decide (recUnit a.evt < recUnit b.evt) || (recUnit a.evt == recUnit b.evt && decide (a.evt.bit < b.evt.bit))))

/-- Puts a record in its place, after those that do not come later. -/
def insertRec (r : PendRec) : List PendRec → List PendRec
  | [] => [r]
  | p :: q => if recBefore r p then r :: p :: q else p :: insertRec r q

/-- Who may be told of a record: that of its unit; records of the secure collector reach secure mailboxes only (R361). -/
def State.recScope (s : State) (r : FaultRec) : EvScope :=
  let sc := s.unitScope r.unit
  { sc with secure := sc.secure || r.rflags % 2 == 1 }

/-- Writes a record with the next SEQ, keeping 4,096, and EV_FAULT where its severity or its verdict asks for it (R362). -/
def State.writeRec (s : State) (r : PendRec) : State :=
  let rec_ : FaultRec := ⟨s.faults.nextSeq, r.stamp, recUnit r.evt, r.evt.bit, r.sev, r.verdict, r.action, r.level, r.thr, r.count,
    r.rflags, if r.rflags.testBit 1 then r.evt.element else 0, r.evt.addr, r.evt.detail⟩
  let recs := s.faults.recs ++ [rec_]
  let s : State := { s with faults := { s.faults with
    recs := if 4096 < recs.length then recs.drop 1 else recs, nextSeq := s.faults.nextSeq + 1 } }
  if 2 ≤ r.sev ∨ r.verdict = 1 then s.event 0x04 r.stamp rec_.bytes (s.recScope rec_) else s

/-- The keeper's reading of a source (R359): EVENTS is cleared, and a NOTE or CORRECTED bit too. -/
def State.readSource (s : State) (c : Coll) (b : Nat) : State :=
  let s := s.set FLT_SRC.EVENTS (srcIdx c b) 0
  let s : State := { s with faults := { s.faults with more := dropKey (srcIdx c b) s.faults.more } }
  if s.latched c b ∧ s.latchSev c b < 2 then s.unlatch c b else s

/-- FAULT_RECORD_WRITE (R359, R362, R364): the keeper writes the records that wait. -/
def execFaultRecordWrite (t : Stamp) (s : State) : Res :=
  liveS t s (fun s =>
    if s.keeper.restarting.isSome then s
    else
      let rs := s.faults.pend.foldl (fun xs r => insertRec r xs) []
      let s : State := { s with faults := { s.faults with pend := [] } }
      let s := rs.foldl State.writeRec s
      rs.foldl (fun (s : State) r => s.readSource r.evt.coll r.evt.bit) s)

/-- The sources that have events since their last reading. -/
def State.busySources (s : State) : List (Coll × Nat) :=
  (s.regs.filter (fun q => q.1.reg == Reg.FLT_SRC && q.1.word == 0 && wbits q.2 16 8 != 0)).map
    (fun q => (collAt (q.1.idx / 64), q.1.idx % 64))

/-- R363 and R364: the further record of a latched source: COUNT is its EVENTS, the stamp its LAST_STAMP, and the rest that of its latest
event. -/
def State.furtherRec (s : State) (c : Coll) (b : Nat) : PendRec :=
  let i := srcIdx c b
  let e : FaultEvt := { coll := c, bit := b }
  let d := ((c.source b).map Source.thr).getD 0
  let r := nget s.faults.more i ⟨e, 0, 0, if d = 0 then 2 else 0, 0, s.fld FLT_SRC.LEVEL i, s.fld FLT_SRC.THRESHOLD i, 0, s.recFlags e, false⟩
  { r with evt := { r.evt with coll := c, bit := b }, stamp := s.fld FLT_SRC.LAST_STAMP i, sev := s.latchSev c b, count := s.fld FLT_SRC.EVENTS i }

/-- R364: the latched DEGRADE and FATAL sources that have had further events, and no record waiting. -/
def State.pollable (s : State) : List (Coll × Nat) :=
  s.busySources.filter (fun q => s.latched q.1 q.2 && decide (2 ≤ s.latchSev q.1 q.2) &&
    !(s.faults.pend.any (fun r => r.evt.coll == q.1 && r.evt.bit == q.2)))

/-- R364: a further record is written, and its source's events are read. -/
def State.writeFurther (s : State) (r : PendRec) : State :=
  let i := srcIdx r.evt.coll r.evt.bit
  (({ s with faults := { s.faults with more := dropKey i s.faults.more } } : State).writeRec r).set FLT_SRC.EVENTS i 0

/-- LATCHED_SOURCE_POLL (R364): latched DEGRADE and FATAL sources with further events get one further record each, in the order of the records
of a keeper tick. -/
def execLatchedSourcePoll (t : Stamp) (s : State) : Res :=
  live t s (fun s =>
    if s.keeper.restarting.isSome then s
    else ((s.pollable.map (fun q => s.furtherRec q.1 q.2)).foldl (fun xs r => insertRec r xs) []).foldl State.writeFurther s)

/-! ### The sequencer -/

/-- MAINT_QUEUE_WALK (R374). -/
def execMaintQueueWalk (t : Stamp) (s : State) : Res :=
  liveS t s (fun s => if s.keeper.restarting.isSome then s else s.walkQueue)

/-- ACTIVITY_END (R376): the work of an activity that runs is done; `ok` is the outcome of a training or a self-test in it. -/
def execActivityEnd (t : Stamp) (id : Nat) (ok : Bool) (s : State) : Res :=
  liveS t s (fun s =>
    match s.activity id with
    | some a => if s.mayEnd a then s.endAct a ok else s
    | none => s)

/-- R226 and R227: what a patrol read finds: nothing, a correctable error, which is rewritten, or an uncorrectable one. -/
def State.patrolFind (s : State) (c line outcome : Nat) (e : Option Nat) : State :=
  match outcome with
  | 1 =>
    let d := ((s.correctable c line e).rewrite line).freeRow
    d.2.raise { coll := mcColl c, bit := 0, addr := 64 * line, detail := d.1, action := 1 }
  | 2 =>
    let q := s.uncorrectable c line
    let d := q.2.freeRow
    d.2.raise { coll := mcColl c, bit := q.1, addr := 64 * line, detail := d.1, action := if q.1 = 1 then 3 else 1 }
  | _ => s.readOnce line

/-- PATROL_SCRUB_READ (R226): the next line of a node's pass is read by the controller that serves it, while its queue level is 0. -/
def execPatrolScrubRead (t : Stamp) (n : Nat) (outcome : Nat) (e : Option Nat) (s : State) : Res :=
  liveS t s (fun s =>
    match s.running.find? (fun a => a.code == 0 && a.node == some n && a.pausers.isEmpty && decide (a.param < s.nodeLines n)) with
    | none => s
    | some a =>
      let line := slotBase n / 64 + a.param
      let next := s.setAct { a with param := a.param + 1 }
      match (s.memberAt (64 * line)).bind (fun q => s.server q.1) with
      | none => next
      | some c => if s.fld MC_STATUS.QLEVEL c = 0 then next.patrolFind c line outcome e else s)

/-- PATROL_PASS_LATE (R226, R367, R447): a NOTE on channel source 7; an HBM3E pair has no such source, and its NOTE is latched at
chip bit 41. Each pass is late once. -/
def execPatrolPassLate (t : Stamp) (n : Nat) (s : State) : Res :=
  liveS t s (fun s =>
    match s.running.find? (fun a => a.code == 0 && a.node == some n && a.pair == 0) with
    | none => s
    | some a =>
      let h := s.fld MEM_NODE.PATROL_H n
      if h ≠ 0 ∧ a.start + h * 21600000000000 ≤ s.stb then
        let s := s.setAct { a with pair := 1 }
        if n < 4 then s.note41 a.unit
        else s.raise { coll := mcColl (((unitRef a.unit).bind UnitRef.mc).getD ((s.nodeSet n).headD (4 * (n - 4)))), bit := 7 }
      else s)

/-- DEMAND_SCRUB_REWRITE (R125, R227): the oldest pending rewrite of a controller is performed, at a shared entry of its queue that is free. -/
def execDemandScrubRewrite (t : Stamp) (c : Nat) (s : State) : Res :=
  live t s (fun s =>
    match nget s.mem.scrub c [] with
    | [] => s
    | l :: _ => if s.sharedFree c then (s.rewrite l).fillQueue (queueOf c) else s)

/-- COPY_HOLD_END (R377). -/
def execCopyHoldEnd (t : Stamp) (i : Nat) (s : State) : Res :=
  live t s (fun s =>
    let hs := s.crs.holds.filter (fun x => x != i)
    ({ s with crs := { s.crs with holds := hs } }).set MNT_STATE.COPY_HOLD 0 (flag (!hs.isEmpty)))

/-- R275: a change that has waited for its meridian is made; a remap that finds no spare any more goes to half width where a
verdict asked for it, and fails where a command did. -/
def State.lateStall (s : State) (x : Stall) : State :=
  match x.change with
  | .remap d lane =>
    if (s.spares x.course d).isEmpty ∧ s.fld CRS_STATUS.WIDTH x.course = 0 then
      if x.verdict then
        ((((s.abandonRetrain x.course d).laneBad x.course d lane true).passed x.act).trigger (dirRes x.course) false
          (courseUnit x.course)).toHalf x.course
      else match x.act with
        | some id => s.closeAct id 4 stInsufficient
        | none => s
    else s.applyStall x
  | _ => s.applyStall x

/-- DEFERRED_STALL (R275): the oldest change that waits on a course is made once the course has not stalled in the frame. -/
def execDeferredStall (t : Stamp) (i : Nat) (s : State) : Res :=
  liveS t s (fun s =>
    match s.crs.stalls.find? (fun x => x.course == i) with
    | none => s
    | some x =>
      if s.stalledNow i then s
      else ({ s with crs := { s.crs with stalls := s.crs.stalls.erase x } }).lateStall x)

/-- BRICK_RETIREMENT (R279): a brick whose retirement has begun is retired. -/
def execBrickRetirement (t : Stamp) (b : Nat) (s : State) : Res :=
  liveS t s (fun s => if (lookupKey b s.units.retiring).isSome then s.retireBrick b else s)

end Sys2Proof.Machine
end

