-- ==== Sys2Proof/Machine/NightRows.lean ====
section
/-! DEFINITION. Nightfall (R397 to R404), the save store (R405 to R408), and restore (R409 to R412). -/

namespace Sys2Proof.Machine

/-! ### What a save holds -/

/-- The save-critical cores. -/
def State.criticalCores (s : State) : List Nat := (List.range 288).filter (fun c => s.nf.critical.testBit c)

/-- The slot that the next save writes: the lower-numbered free one (R408). -/
def State.freeSlot (s : State) : Option Nat := [0, 1].find? (fun k => !((s.imageIn k).any Image.held))

/-- R400, R406 and R408: the image of the state at the halt, with its header first written. -/
def State.imageNow (s : State) (slot cause : Nat) : Image where
  slot := slot
  state := 1
  seq := (s.nf.images.map Image.seq).foldl max 0 + 1
  trigger := s.stb
  halt := s.stb
  stop := 0
  cause := cause
  parts := 0
  crcOk := 0
  chipId := (s.word .CHIP_ID 0 0).toNat
  critical := s.nf.critical
  ranges := s.nf.ranges
  short := s.fld NF_STATUS.SHADOW_READY 0 == 0
  books := s.alm.books.map s.bookRecord
  cores := s.criticalCores.map (fun c => (c, s.coreRecord c))
  ops := s.svc.ops.map (fun q => (q.1, q.2.bytes.take 64))
  recs := s.jnl.recs
  drained := ((List.range 64).map (fun j => (j, s.fld JNL_SEQ.DRAINED_SEQ j))).filter (fun q => q.2 != 0)
  seqs := ((List.range 64).map (fun j => (j, s.fld JNL_SEQ.NEXT_SEQ j))).filter (fun q => q.2 != 1)
  data := s.nf.shadow
  faults := s.faults.recs
  slots := s.cst.mirrored

/-! ### The save store (R405, R406) -/

/-- A save part: its first offset in a slot and its size, by its PARTS_VALID bit. -/
def savePart : Nat → Nat × Nat
  | 0 => (0x1C00000, 0x4000000)
  | 1 => (0x0C00000, 0x1000000)
  | 2 => (0x5C00000, 0x2000000)
  | 3 => (0x0A00000, 0x120000)
  | 4 => (0x0900000, 0x100000)
  | _ => (0x0100000, 0x800000)

/-- The parts in the order in which a save writes them (R408). -/
def saveOrder : List Nat := [0, 1, 3, 4, 5, 2]

/-- The address in memory of a byte of the packed ranges. -/
def rangeAddr : List (Nat × Nat) → Nat → Option Nat
  | [], _ => none
  | q :: r, o => if o < q.2 then some (q.1 + o) else rangeAddr r (o - q.2)

/-- A byte of a listed range as an image holds it: what was not loaded is free (R404). -/
def Image.rangeByte (im : Image) (a off : Nat) : Byte :=
  match lookupKey a im.data with
  | some b => b
  | none => if im.short then Config.saveByte im.seq off else 0

/-- A byte of a part of an image. -/
def Image.partByte (im : Image) (off : Nat) : Byte :=
  let cell := fun (q : Option (List Byte)) (o : Nat) (d : Byte) => match q with
    | some l => l.getD o d
    | none => d
  if off < 0x100000 then 0
  else if off < 0x900000 then
    let o := off - 0x100000
    if o < 0x40000 then cell (im.faults[o / 64]?.map FaultRec.bytes) (o % 64) 0 else Config.saveByte im.seq off
  else if off < 0xA00000 then cell im.books[(off - 0x900000) / 64]? (off % 64) 0
  else if off < 0xB20000 then cell (lookupKey ((off - 0xA00000) / 4096) im.cores) (off % 4096) 0
  else if off < 0xC00000 then 0
  else if off < 0x1C00000 then cell (lookupKey ((off - 0xC00000) / 128) im.ops) (off % 128) (Config.saveByte im.seq off)
  else if off < 0x5C00000 then Config.saveByte im.seq off
  else if off < 0x7C00000 then
    match rangeAddr im.ranges (off - 0x5C00000) with
    | some a => im.rangeByte a off
    | none => 0
  else 0

/-- PART_CRC of a part. -/
def Image.partCrc (im : Image) (p : Nat) : Nat :=
  crc32c ((List.range (savePart p).2).map (fun i => im.partByte ((savePart p).1 + i)))

/-- R406: the 512 bytes of a header. -/
def Image.header (im : Image) : List Byte :=
  let ranges := im.ranges.flatMap (fun q => leBytes 8 q.1 ++ leBytes 4 (q.2 + (if im.short then 2 ^ 31 else 0)))
  let crcs := (List.range 6).flatMap (fun p => leBytes 4 (if im.parts.testBit p then im.partCrc p else 0))
  let head := leBytes 4 0x54464E42 ++ leBytes 2 1 ++ leBytes 1 im.state ++ leBytes 1 im.slot ++ leBytes 8 im.seq ++ leBytes 8 im.trigger ++
    leBytes 8 im.halt ++ leBytes 8 im.stop ++ leBytes 1 im.cause ++ leBytes 1 im.parts ++ leBytes 1 im.ranges.length ++ leBytes 5 0 ++
    leBytes 8 im.chipId ++ leBytes 36 im.critical ++ leBytes 4 0 ++ crcs ++ ranges
  let body := head ++ leBytes (508 - head.length) 0
  body ++ leBytes 4 (crc32c body)

/-- A byte of a slot. -/
def Image.byte (im : Image) (off : Nat) : Byte := if off < 512 then im.header.getD off 0 else im.partByte off

/-- Replaces the image of a slot. -/
def State.putImage (s : State) (im : Image) : State :=
  { s with nf := { s.nf with images := s.nf.images.filter (fun x => x.slot != im.slot) ++ [im] } }

/-! ### The trigger (R397 to R402) -/

/-- R401: every JCOMMIT that waits for a mirror acknowledgement retires, and its record has lost its mirror. -/
def State.endMirrors (s : State) : State :=
  s.svc.runs.foldl (fun (s : State) q => match q.2.jcommit with
    | some w => s.loseMirror w.2.1 w.2.2.1
    | none => s) s

/-- R400, step 3: every activity that has not ended is aborted, with no completion. -/
def State.abortAll (s : State) : State :=
  { s with maint := { s.maint with acts := s.maint.acts.map (fun (a : Activity) =>
      if a.state < 2 then { a with state := 3, result := stConflict, stop := s.stb, cmd := none } else a) } }

/-- R400, step 4: answers decided before the halt are issued; nothing else is answered (R401). -/
def State.lastAnswers (s : State) : State :=
  let s := (s.svc.answers.filter (fun a => decide (a.decided < s.stb))).foldl State.issueAnswer s
  { s with svc := { s.svc with answers := [], ops := s.svc.ops.map (fun (q : Nat × Op) => (q.1, { q.2 with decided := false })) } }

/-- R400, step 5: the domains outside the save domain are fenced; caches are lost, and the links go down. -/
def State.fenceAll (s : State) : State :=
  let s := (eclipseOff.filter (fun i => s.is PWR_DOMAIN.ON i)).foldl (fun (s : State) i => s.set PWR_DOMAIN.ON i 0) s
  let s := (List.range 32).foldl (fun (s : State) i => s.set PCIE_LINK.STATE i 0) s
  let s := (List.range 8).foldl (fun (s : State) l => s.set LINK_STATUS.STATE l 0) s
  { s with fab := { s.fab with net := [], lines := [], txns := [], waits := [], misses := [], walks := [], snoops := [], combines := [] },
           mem := { s.mem with queue := [] } }

/-- R400, steps 1 to 4: nothing is admitted or granted, mirror waits end, source 37 is latched, activities are aborted, and the answers
decided before the halt are issued. -/
def State.haltAll (s : State) : State :=
  let s : State := { s with nf := { s.nf with triggered := true } }
  (s.endMirrors.raise { coll := .chip, bit := 37 }).abortAll.lastAnswers

/-- R397, R400: what NF_STATUS and the pins say of a trigger: FAULT_N and NF_ACTIVE_N asserted, its cause, and its stamp, which is the
halt stamp too (log 26). -/
def State.noteTrigger (s : State) (cause : Nat) : State :=
  let pins : Pins := { s.pins with nfActiveN := false, sagN := s.pins.sagN && !(cause.testBit 0) }
  let s := ({ s with pins := pins } : State).holdFaultN 1 true
  (((s.set NF_STATUS.CAUSE 0 cause).set NF_STATUS.TRIGGER 0 s.stb).set NF_STATUS.HALT 0 s.stb).set NF_STATUS.STAGE 0 5

/-- R400, steps 5 to 7, and R403: the save of an armed package begins in a free slot; another writes nothing. -/
def State.fenceAndSave (s : State) (cause : Nat) : State :=
  match s.is NF_STATUS.ARMED 0, s.freeSlot with
  | true, some k =>
    let im := s.imageNow k cause
    let s := s.fenceAll.putImage im
    { s with nf := { s.nf with writing := some k } }
  | _, _ =>
    let s := s.fenceAll.set NF_STATUS.STAGE 0 7
    { s with pins := { s.pins with nfActiveN := true } }

/-- NIGHTFALL_TRIGGER (R397 to R403): `cause` as the header has it; steps 1 to 5 at its stamp (log 26), and the start of the save. -/
def execNightfallTrigger (t : Stamp) (cause : Nat) (s : State) : Res :=
  liveS t s (fun s => if s.nf.triggered ∨ cause = 0 ∨ 3 < cause then s else (s.haltAll.noteTrigger cause).fenceAndSave cause)

/-- SAVE_COMPLETE (R400, R408): every part and the header are written, and NF_ACTIVE_N is released. -/
def execSaveComplete (t : Stamp) (s : State) : Res :=
  liveS t s (fun s =>
    match s.nf.writing.bind s.imageIn with
    | none => s
    | some im =>
      let s := s.putImage { im with state := 2, stop := s.stb, parts := 0x3F, crcOk := 0x7F }
      let s : State := { s with nf := { s.nf with writing := none }, pins := { s.pins with nfActiveN := true } }
      (s.set NF_STATUS.STAGE 0 7).refreshHeld)

/-- SHADOW_LOAD_DONE (R404): the shadow holds every listed range as memory has it. -/
def execShadowLoadDone (t : Stamp) (s : State) : Res :=
  liveS t s (fun s =>
    if s.is NF_STATUS.SHADOW_READY 0 ∨ s.nf.triggered then s
    else
      let mine := s.mem.cells.filter (fun q => s.nf.ranges.any (fun r => decide (r.1 ≤ q.1) && decide (q.1 < r.1 + r.2)))
      ({ s with nf := { s.nf with shadow := mine } }).set NF_STATUS.SHADOW_READY 0 1)

/-! ### The save commands (R74, R410 to R412) -/

/-- The ranges of a SAVE_LIST_SET. -/
def saveRanges (p : List Byte) : List (Nat × Nat) := (List.range (leAt p 0 1)).map (fun n => (leAt p (48 + 12 * n) 8, leAt p (56 + 12 * n) 4))

/-- Whether every line of a run of bytes is populated Memory. -/
def State.allMemory (s : State) (base len : Nat) : Bool := (List.range (ceilDiv len 64)).all (fun i => s.populated (base + 64 * i))

/-- SAVE_LIST_SET. -/
def cmdSaveListSet (_ : Caller) (p : List Byte) (s : State) : Reply :=
  let rs := saveRanges p
  let bad := rs.zipIdx.flatMap (fun q =>
    [(48 + 12 * q.2, q.1.1 % 64 != 0 || !(s.allMemory q.1.1 q.1.2)), (56 + 12 * q.2, q.1.2 % 64 != 0)])
  paramChecks s ([(0, decide (14 < leAt p 0 1)), rsv p 1 7, rsv p 44 4] ++ bad) fun _ =>
    if 32 * 2 ^ 20 < (rs.map Prod.snd).sum then .no s stInsufficient
    else .ok (({ s with nf := { s.nf with critical := leAt p 8 36, ranges := rs, shadow := [] } }).set NF_STATUS.SHADOW_READY 0
      (flag rs.isEmpty))

/-- The newest image that a save has left. -/
def State.lastImage (s : State) : Option Image :=
  s.nf.images.foldl (fun b im => match b with
    | some x => if x.seq < im.seq then some im else b
    | none => some im) none

/-- The bytes that a save has written: the header and the parts (R408). -/
def Image.written (im : Image) : Nat := 512 + ((List.range 6).map (fun p => if im.parts.testBit p then (savePart p).2 else 0)).sum

/-- SAVE_STATUS (R74, R412). -/
def cmdSaveStatus (_ : Caller) (_ : List Byte) (s : State) : Reply :=
  let st := if s.restoring then 3 else if s.fld NF_STATUS.HELD 0 ≠ 0 then 2 else if s.is NF_STATUS.ARMED 0 then 0 else 1
  let im := s.lastImage
  .ok s (leBytes 1 st ++ leBytes 7 0 ++ leBytes 8 ((im.map Image.trigger).getD 0) ++ leBytes 8 ((im.map Image.written).getD 0) ++
    leBytes 4 ((im.map (fun x => (x.stop - x.trigger) / 4000)).getD 0))

/-- The oldest held image (R409). -/
def State.oldestImage (s : State) : Option Image :=
  (s.nf.images.filter Image.held).foldl (fun b im => match b with
    | some x => if im.seq < x.seq then some im else b
    | none => some im) none

/-- R410: the restore area, where NF_CFG names a valid one: 28 MiB of populated Memory in secure tiles. -/
def State.restoreArea (s : State) : Option Nat :=
  let base := s.fld NF_CFG.RESTORE_BASE 0 * 2 ^ 21
  if s.is NF_CFG.VALID 0 ∧ (List.range 14).all (fun i => s.addrSecure (base + i * 2 ^ 21)) ∧ s.allMemory base 0x1C00000 then some base
  else none

/-- R410: whether a part of an image may be restored. -/
def State.mayRestore (s : State) (im : Image) (parts : Nat) : Bool :=
  let ok := fun (p : Nat) => im.parts.testBit p && im.crcOk.testBit p
  (List.range 4).all (fun p => !(parts.testBit p) || ok p) &&
    (!(parts.testBit 1 || parts.testBit 3) || s.restoreArea.isSome) &&
    (!(parts.testBit 2) || im.ranges.all (fun q => s.allMemory q.1 q.2))

/-- R410 and R411: the journal store comes back, with its own numbers; records with neither mark are void. -/
def State.restoreJournal (s : State) (im : Image) : State :=
  let new := im.recs.filter (fun r => !(s.jnl.recs.any (fun x => x.journal == r.journal && x.seq == r.seq)))
  let new := new.map (fun (r : JRec) => { r with void := r.void || !r.confirmed, closed := true, mirrored := false, restored := true })
  let s : State := { s with jnl := { s.jnl with recs := new ++ s.jnl.recs }, nf := { s.nf with restored := true } }
  let s := im.drained.foldl (fun (s : State) q => s.set JNL_SEQ.DRAINED_SEQ q.1 (max q.2 (s.fld JNL_SEQ.DRAINED_SEQ q.1))) s
  s.pumpDrains

/-- Writes bytes of an image to memory, line by line. -/
def State.restoreBytes (s : State) (base len : Nat) (f : Nat → Byte) : State :=
  (List.range (ceilDiv len 64)).foldl (fun (s : State) i =>
    (s.traffic (keeperTraffic (s.addrSecure (base + 64 * i))) true (base + 64 * i) (min 64 (len - 64 * i))).storeNow (base + 64 * i) ((List.range (min 64 (len - 64 * i))).map (fun k => f (64 * i + k)))) s

/-- R410: the listed ranges come back to their addresses. -/
def State.restoreRanges (s : State) (im : Image) : State :=
  (im.ranges.foldl (fun (q : State × Nat) r =>
    (q.1.restoreBytes r.1 r.2 (fun o => im.byte (0x5C00000 + q.2 + o)), q.2 + r.2)) (s, 0)).1

/-- RESTORE_BEGIN (R410, R411). -/
def cmdRestoreBegin (_ : Caller) (p : List Byte) (s : State) : Reply :=
  let parts := leAt p 0 1
  paramChecks s [(0, decide (15 < parts)), rsv p 1 7] fun _ =>
    match s.oldestImage with
    | none => .no s stNotFound
    | some im =>
      if !(s.mayRestore im parts) then .bad s 0
      else
        let s := if parts.testBit 0 then s.restoreJournal im else s
        let s := match s.restoreArea with
          | some base => if parts.testBit 1 || parts.testBit 3 then s.restoreBytes base 0x1C00000 im.byte else s
          | none => s
        .ok (if parts.testBit 2 then s.restoreRanges im else s)

/-- SAVE_RELEASE (R412, R411, R403). -/
def cmdSaveRelease (_ : Caller) (_ : List Byte) (s : State) : Reply :=
  match s.oldestImage with
  | none => .no s stNotFound
  | some im =>
    let s := (s.putImage { im with state := 3 }).refreshHeld
    let s : State := { s with jnl := { s.jnl with recs := s.jnl.recs.filter (fun r => !(r.restored && (s.drainOf r.journal).isNone)) } }
    .ok s.decideArming

/-- SAVE_LIST_SET (R74, R404). -/
def execSaveListSet (t : Stamp) (m : Nat) (s : State) : Res := rowCommand t m 0x0800 cmdSaveListSet s
/-- SAVE_STATUS (R74, R412). -/
def execSaveStatus (t : Stamp) (m : Nat) (s : State) : Res := rowCommand t m 0x0801 cmdSaveStatus s
/-- RESTORE_BEGIN (R410). -/
def execRestoreBegin (t : Stamp) (m : Nat) (s : State) : Res := rowCommand t m 0x0802 cmdRestoreBegin s
/-- SAVE_RELEASE (R412). -/
def execSaveRelease (t : Stamp) (m : Nat) (s : State) : Res := rowCommand t m 0x0803 cmdSaveRelease s

/-! ### The end of a start -/

/-- What is left after a reset or the loss of power: the save store's images and the boot flash (R429, R85); what the model itself keeps. -/
def State.afterReset (s : State) (tripped : Bool) : State :=
  { State.reset with
    mem := { State.reset.mem with spared := s.mem.spared, hard := s.mem.hard },
    nf := { State.reset.nf with images := s.nf.images }, fw := { State.reset.fw with flash := s.fw.flash, serial := s.fw.serial },
    pins := { State.reset.pins with thermtripN := tripped, epPerst := s.pins.epPerst }, out := s.out, freshCount := s.freshCount, pending := s.pending }

/-- POWER_LOSS (R85, R395, R429): power is removed; `written` is the number of parts that a save in progress has written (R408). -/
def execPowerLoss (written : Nat) (s : State) : Res :=
  let s := match s.nf.writing.bind s.imageIn with
    | some im =>
      let parts := ((saveOrder.take written).map (fun p => 2 ^ p)).sum
      s.putImage { im with parts := parts, crcOk := parts }
    | none => s
  .next (s.afterReset true)

/-- PKG_RESET (R429): PKG_RST_N or PKG_PWROK falls; ignored once Nightfall has been triggered. -/
def execPkgReset (s : State) : Res :=
  .next (if s.nf.triggered then s else s.afterReset s.pins.thermtripN)

end Sys2Proof.Machine
end

