-- ==== Sys2Proof/Machine/PcieCfg.lean ====
section
/-! DEFINITION. Configuration spaces (R338, R340 to R342, R351, R353) and what BAR0 and the expansion ROM show (R343 to R347). -/

namespace Sys2Proof.Machine

/-! ### Configuration space -/

/-- The kind of a configuration space: 0 a physical function's, 1 a virtual function's, 2 a root link's. -/
def cfgKind (fn : Nat) : Nat := if fn = 0 then 0 else if fn < 384 then 1 else 2

/-- The header and the capabilities of a kind of space as runs of stated bytes: offset, length, value (R340 to R342, R353; identifiers and
places within a capability as the standards of R334 have them, log 15). -/
def cfgFixed (k : Nat) : List (Nat × Nat × Nat) :=
  let aer := if k = 2 then [(0x100, 4, 0x19030001), (0x190, 2, 0x001D)] else [(0x100, 4, 0x18030001), (0x180, 4, if k = 0 then 0x1901000E else 0x0001000E)]
  let common := [(0x04, 4, 0x00100000), (0x0E, 1, if k = 2 then 1 else 0), (0x50, 2, 0x9010), (0x54, 4, if k = 2 then 0x8022 else 0x10008022),
    (0x74, 4, if k = 2 then 0x00030183 else 0x00030003), (0x7C, 4, 0x7E), (0x118, 1, 0), (0x90, 2, 0x0011)] ++ aer
  if k = 2 then common ++ [(0x34, 1, 0x50), (0x00, 2, 0x1F94)]
  else
    common ++ [(0x00, 2, 0x1F94), (0x02, 2, if k = 0 then 0x9288 else 0x9289), (0x08, 4, 0x0B4000A2), (0x2C, 4, 0x92881F94), (0x3D, 1, 0),
      (0x34, 1, if k = 0 then 0x40 else 0x50), (0x52, 2, 0x0002), (0x92, 2, if k = 0 then 1023 else 63), (0x94, 4, 0x8000), (0x98, 4, 0xC000)] ++
    (if k = 0 then
      [(0x10, 4, 4), (0x14, 4, 0), (0x18, 4, 4), (0x1C, 4, 0), (0x20, 8, 0), (0x30, 4, 0), (0x40, 2, 0x5001), (0x42, 2, 0x0003),
       (0x190, 4, 0x1D010010), (0x19A, 2, 0), (0x19C, 4, 0x01000100), (0x1A2, 2, 0), (0x1A4, 4, 0x00010001), (0x1A8, 4, 0x92890000),
       (0x1AC, 4, 1), (0x1B4, 4, 4), (0x1B8, 24, 0), (0x1D0, 4, 0x1E010003), (0x1E0, 4, 0x20010025), (0x200, 4, 0x28010026),
       (0x280, 4, 0x3001002A), (0x300, 4, 0x34010031), (0x340, 4, 0x00010027)]
     else [(0x10, 24, 0), (0x30, 4, 0)])

/-- The bits of a byte that a write sets: runs of offset, length and mask. The AER masks and severities (R351), the command, device, MSI-X
and power controls, the BARs (R340), SR-IOV control (R342), and the bus numbers of a link. -/
def cfgRw (k : Nat) : List (Nat × Nat × Nat) :=
  [(0x04, 2, if k = 1 then 0x0004 else 0x0146), (0x58, 2, if k = 1 then 0 else 0x79FF), (0x108, 4, 0x07FFF030), (0x10C, 4, 0x07FFF030),
   (0x114, 4, 0xF1C1), (0x3C, 1, if k = 1 then 0 else 0xFF)] ++
  (match k with
    | 0 => [(0x10, 8, 0xFFFFFFFFFFFF0000), (0x18, 8, 0xFFFFFFFFFFF00000), (0x30, 4, 0xFFFF0001), (0x78, 1, 0x0F), (0x44, 1, 0x03),
            (0x92, 2, 0xC000), (0x198, 2, 0x0019), (0x1A0, 2, 0xFFFF), (0x1B4, 8, 0xFFFFFFFFFFFF0000)]
    | 1 => [(0x92, 2, 0xC000)]
    | _ => [(0x18, 3, 0xFFFFFF), (0x20, 4, 0xFFF0FFF0), (0x24, 4, 0xFFF0FFF0), (0x28, 8, 0xFFFFFFFFFFFFFFFF), (0x3E, 2, 0x0003),
            (0x6C, 2, 0x001F), (0x78, 1, 0x0F), (0x196, 2, 0x00FF)])

/-- The bits of a byte that a write of 1 clears: the AER status registers, and DPC status. -/
def cfgW1c (k : Nat) : List (Nat × Nat × Nat) :=
  [(0x104, 4, 0xFFFFFFFF), (0x110, 4, 0xFFFFFFFF)] ++ (if k = 2 then [(dpcStatus, 2, 0x0009), (0x130, 1, 0x7F), (0x72, 1, 0x01)] else [])

/-- The bytes that hold what the port itself has put there: the AER First Error Pointer and header log, and at a root link the sources of
its errors and PMEs (R351). -/
def cfgLogged (k : Nat) : List (Nat × Nat × Nat) :=
  [(0x118, 1, 0x1F), (0x11C, 16, 256 ^ 16 - 1), (0x138, 40, 256 ^ 40 - 1)] ++ (if k = 2 then [(0x134, 4, 0xFFFFFFFF), (0x70, 2, 0xFFFF)] else [])

/-- The bits of options that R334 and R342 do not name, in bytes that are not stated whole: they read 0. Of the AER capability the ECRC
Check Enable, multiple headers and the prefix logs; of SR-IOV all but the VFs' use of larger tags. -/
def cfgZero (k : Nat) : List (Nat × Nat × Nat) := [(0x119, 1, 0x1F)] ++ (if k = 0 then [(0x194, 4, 0xFFFFFFF3)] else [])

/-- The byte of a table of runs at an offset. -/
def runByte (t : List (Nat × Nat × Nat)) (off : Nat) : Option Nat :=
  (t.find? (fun r => decide (r.1 ≤ off) && decide (off < r.1 + r.2.1))).map (fun r => r.2.2 / 256 ^ (off - r.1) % 256)

/-- Whether an offset lies within a capability, so that a byte of it has a value even where none is stated. -/
def inCap (k off : Nat) : Bool :=
  let runs := [(0x50, 0x8C), (0x90, 0x9C), (0x100, 0x180)] ++
    (if k = 2 then [(0x02, 0x0C), (0x190, 0x1D0)] else [(0x180, 0x188)]) ++
    (if k = 0 then [(0x40, 0x48), (0x190, 0x1D0), (0x1D0, 0x1DC), (0x1E0, 0x1EC), (0x200, 0x228), (0x280, 0x2A0), (0x300, 0x320), (0x340, 0x388)] else [])
  runs.any (fun r => decide (r.1 ≤ off) && decide (off < r.2))

/-- R341: the Device Serial Number of a port. -/
def State.deviceSerial (s : State) (p : Nat) : Nat := s.fld DIE_ID.SERIAL 0 + 0x9288 * 2 ^ 32 + p * 2 ^ 48

/-- The Link Status of a function's or link's capability: the speed and the width that the link reached (R334). -/
def State.linkStatus (s : State) (p fn : Nat) : Nat :=
  let i := linkIdx p (fn - 384)
  s.fld PCIE_LINK.SPEED i + 16 * (if s.fld PCIE_LINK.WIDTH i = 0 then 0 else 2 ^ (s.fld PCIE_LINK.WIDTH i - 1))

/-- The Link Capabilities of a function's or link's port (R334, R335): the greatest speed and width, ASPM L1 of a root link alone, and what
the Base Specification asks of every port; the exit latencies and the Port Number are bits that no rule gives (log 7). -/
def State.linkCaps (s : State) (p k : Nat) : Nat :=
  let width := if k = 2 then 16 / 2 ^ s.fld PCIE_PORT_STATUS.BIFURCATION p else 16
  let open' := leNat ((List.range 4).map (fun j => BitVec.ofNat 8 (Config.cfgByte k (0x5C + j))))
  6 + 16 * width + 2 ^ 10 * (if k = 2 then 2 else 0) + 2 ^ 12 * bitsOf open' 12 6 + 2 ^ 20 * (if k = 2 then 3 else 0) + 2 ^ 22 + 2 ^ 24 * bitsOf open' 24 8

/-- A byte of a configuration space as it reads. -/
def State.cfgByteAt (s : State) (p fn off : Nat) : Nat :=
  let k := cfgKind fn
  let held := s.cfgNat (fnIdx p fn) off 1
  if k ≠ 1 ∧ (off = 0x62 ∨ off = 0x63) then s.linkStatus p fn / 256 ^ (off - 0x62) % 256
  else if 0x5C ≤ off ∧ off < 0x60 then s.linkCaps p k / 256 ^ (off - 0x5C) % 256
  else if k = 0 ∧ 0x1D4 ≤ off ∧ off < 0x1DC then s.deviceSerial p / 256 ^ (off - 0x1D4) % 256
  else
    let rw := ((runByte (cfgRw k) off).getD 0) ||| ((runByte (cfgW1c k) off).getD 0) ||| ((runByte (cfgLogged k) off).getD 0)
    let fixed := (runByte (cfgFixed k) off).getD
      (if inCap k off && (runByte (cfgRw k) off).isNone && (runByte (cfgW1c k) off).isNone then (Config.cfgByte k off % 256) &&& (255 ^^^ ((runByte (cfgZero k) off).getD 0)) else 0)
    (held &&& rw) ||| (fixed &&& (255 ^^^ rw))

/-- A read of `n` bytes of a configuration space. -/
def State.cfgRead (s : State) (p fn off n : Nat) : List Byte :=
  (List.range n).map (fun i => BitVec.ofNat 8 (s.cfgByteAt p fn (off + i)))

/-- A write of bytes to what a configuration space holds, with none of its consequences. -/
def State.cfgStore (s : State) (p fn off : Nat) : List Byte → State
  | [] => s
  | b :: r =>
    let k := cfgKind fn
    let i := fnIdx p fn
    let held := s.cfgNat i off 1
    let rw := (runByte (cfgRw k) off).getD 0
    let w1 := (runByte (cfgW1c k) off).getD 0
    let v := (((held &&& (255 ^^^ rw)) ||| (b.toNat &&& rw)) &&& (255 ^^^ (b.toNat &&& w1)))
    (s.setCfg i off 1 v).cfgStore p fn (off + 1) r

/-- R353: T in µs by its encoding. -/
def cplEncoding (v : Nat) : Option Nat :=
  match v with
  | 0 => some 50000 | 1 => some 100 | 2 => some 10000 | 5 => some 55000 | 6 => some 210000 | _ => none

/-! ### What BAR0 and the expansion ROM show (R343 to R347) -/

/-- R345 and R346: the Barcen Service Table of a port, with its CHECK. -/
def State.bst (s : State) (p : Nat) : List Byte :=
  let x := s.bstTable p
  let entries := ((x.entries.take 2044).map Prod.snd).flatten
  x.head.take 56 ++ leBytes 4 (crc32c (x.head ++ entries)) ++ x.head.drop 60 ++ entries

/-- R344: the start of the expansion ROM, before the BST: the signature, the pointer and the PCI Data Structure (its layout is the PCI
Firmware Specification's, log 15). -/
def romHead : List Byte :=
  leBytes 2 0xAA55 ++ leBytes 22 0 ++ leBytes 2 0x1C ++ leBytes 2 0 ++ leBytes 4 0x52494350 ++ leBytes 2 0x1F94 ++ leBytes 2 0x9288 ++
    leBytes 2 0 ++ leBytes 2 0x1C ++ leBytes 1 3 ++ leBytes 3 0x0B4000 ++ leBytes 2 128 ++ leBytes 2 0 ++ leBytes 1 0x70 ++ leBytes 1 0x80 ++
    leBytes 2 128 ++ leBytes 2 0 ++ leBytes 2 0 ++ leBytes 8 0

/-- Bytes of the expansion ROM. -/
def State.romRead (s : State) (p off n : Nat) : List Byte :=
  let d := ((romHead ++ s.bst p).drop off).take n
  d ++ leBytes (n - d.length) 0

/-- R343: a byte of BAR0 of a function as it reads. -/
def State.bar0Byte (s : State) (p fn off : Nat) : Byte :=
  let mine := (s.bstTable p).entries.filter (fun e => e.1 == fn)
  if 0x2000 ≤ off ∧ off < 0x4000 then
    match mine[(off - 0x2000) / 32]? with
    | some e => e.2.getD (off % 32) 0
    | none => 0
  else if 0x4000 ≤ off ∧ off < 0x4010 then
    (leBytes 2 mine.length ++ leBytes 2 0 ++ leBytes 4 (nget s.svc.bstGen p 0) ++ leBytes 8 (nget s.svc.bstAt p 0)).getD (off - 0x4000) 0
  else if 0x8000 + 16 * msixSize fn ≤ off ∧ off < 0xC000 then 0
  else if 0x8000 ≤ off ∧ off < 0x10000 then nget (s.pfn (fnIdx p fn)).msix (off - 0x8000) (msixReset (off - 0x8000))
  else 0

/-! ### MSI-X -/

/-- The pending interrupts of a function that may now be sent are (R341). -/
def State.flushMsix (s : State) (p fn : Nat) : State :=
  let i := fnIdx p fn
  (((s.pfn i).msix.filter (fun q => decide (0x4000 ≤ q.1))).map Prod.fst).foldl (fun (s : State) off =>
    (List.range 8).foldl (fun (s : State) b =>
      let f := s.pfn i
      let x := (nget f.msix off 0).toNat
      if x.testBit b then (s.setPfn i { f with msix := nputd f.msix off (BitVec.ofNat 8 (withoutBit x b)) 0 }).msix p fn (8 * (off - 0x4000) + b)
      else s) s) s

/-- A write to the MSI-X table; the pending-bit array is read-only. -/
def State.msixStore (s : State) (p fn off : Nat) (data : List Byte) : State :=
  let i := fnIdx p fn
  let f := s.pfn i
  let m := (List.range data.length).foldl (fun (m : NMap Byte) j =>
    let o := off + j
    if 16 * msixSize fn ≤ o then m
    else
      let b := data.getD j 0
      nputd m o (if o % 16 = 12 then b &&& 1 else if 12 < o % 16 then 0 else if o % 16 = 0 then b &&& 0xFC else b) (msixReset o)) f.msix
  (s.setPfn i { f with msix := m }).flushMsix p fn

end Sys2Proof.Machine
end

