-- ==== Sys2Proof/Machine/PcieFns.lean ====
section
/-! DEFINITION. Endpoint functions: bus mastering (R355), resets (R332, R356), configuration writes (R336, R340 to R342, R353) and the VF
commands (R76, R330, R331). -/

namespace Sys2Proof.Machine

/-- The outstanding requests of a function end: timed out where that stamp has come, else aborted (R355). -/
def State.abortReads (s : State) (p fn : Nat) : State :=
  (s.pcie.reads.filter (fun r => r.port == p && r.fn == fn)).foldl (fun s r =>
    if r.issued + s.cplTicks p ≤ s.stb then s.readTimesOut r else s.abortRead r 1) s

/-! ### Bus Master Enable (R355) -/

/-- Bus Master Enable of a function is cleared. -/
def State.clearBme (s : State) (p fn : Nat) : State :=
  let i := fnIdx p fn
  let was := s.bme p fn
  let s := s.setCfg i 0x04 1 (withoutBit (s.cfgNat i 0x04 1) 2)
  if was then
    let s := if s.pcie.reads.any (fun r => r.port == p && r.fn == fn) then s.set PCIE_PORT_EVT.BME_ABORT p 1 else s
    s.abortReads p fn
  else s

/-- Bus Master Enable of a function is set. -/
def State.setBme (s : State) (p fn : Nat) : State :=
  let i := fnIdx p fn
  let was := s.bme p fn
  let s := s.setCfg i 0x04 1 (withBit (s.cfgNat i 0x04 1) 2)
  if was then s else s.flushMsix p fn

/-! ### Resets (R332, R356) -/

/-- R332: a quiesce of a function in progress ends. -/
def State.endQuiesce (s : State) (p fn : Nat) : State :=
  ((s.keeper.boxes.map (fun q => (q.2.taken.filter (fun k =>
      k.opcode == 0x0A01 && k.ran && k.final.isNone && leAt k.payload 0 1 == p && leAt k.payload 2 2 == fn)).map
    (fun k => (q.1, k.id)))).flatten).foldl (fun s x => s.finish x.1 x.2 ⟨stOk, 0, []⟩) s

/-- R143: the answers of channels that are dropped unwritten; the op of a refusal or of a spoof, which has no entry, is no longer
outstanding. -/
def State.dropAnswers (s : State) (chans : List Nat) : State :=
  let gone := s.svc.answers.filter (fun a => chans.contains a.ch)
  let s := (gone.filter (fun a => a.ops.isEmpty)).foldl (fun (s : State) a => s.lessOutstanding a.engine a.ch) s
  { s with svc := { s.svc with answers := s.svc.answers.filter (fun a => !(chans.contains a.ch)) } }

/-- Steps 1 to 3 of a reset of a function: its ops are recorded as aborted with a RESULT. -/
def State.resetFn (s : State) (p fn result : Nat) : State :=
  if s.inReset p fn then s
  else
    let i := vfIdx p fn
    let s := s.endQuiesce p fn
    let s := if fn = 0 then s else (s.set TNT_VF.STATE i 4).set TNT_VF.ABORTED i 0
    let s := s.set PCIE_PORT_EVT.FLR p 1
    let chans := s.fnChans p fn
    let mine := (s.svc.ops.map Prod.snd).filter (fun o => chans.contains o.ch && o.state != .aborted && o.mate.isNone)
    let s : State := { s with pcie := { s.pcie with resets := s.pcie.resets ++ [⟨p, fn, s.stb, result, mine.length⟩] } }
    let s := s.dropDescs (fun d => chans.contains d.ch)
    let s := mine.foldl (fun (s : State) o => s.abortMarked o.id result) s
    let s := s.dropAnswers chans
    ((s.abortReads p fn).endReleases.endQuiesces.endWithdrawing).pumpDrains

/-- The virtual functions of a port are reset through their physical function. -/
def State.resetVfs (s : State) (p : Nat) : State :=
  if s.vfEnable p then (List.range (min (s.numVfs p) 256)).foldl (fun s v => s.resetFn p (v + 1) 3) s else s

/-- R356: a function-level reset. -/
def State.flr (s : State) (p fn : Nat) : State := if fn = 0 then (s.resetVfs p).resetFn p 0 2 else s.resetFn p fn 2

/-- Kept records of a function's ops that were aborted before a stamp are freed. -/
def State.freeAborted (s : State) (p fn : Nat) (before : Stamp) : State :=
  ((s.svc.ops.map Prod.snd).filter (fun o => o.state == .aborted && o.owner == some (p, fn) && decide (o.dispatched < before))).foldl
    (fun s o => s.freeEntry o.id) s

/-- A channel starts again at 0 (R331, R356). -/
def State.restartChan (s : State) (ch : Nat) : State :=
  match s.chan ch with
  | none => s
  | some k =>
    let i := chIdx (k.engine ch) ch
    let s := ((s.set IE_CH_STATE.SQ_HEAD i 0).set IE_CH_STATE.CQ_TAIL i 0).set IE_CH_STATE.PHASE i 1
    let s := s.setChan ch { k with sqTail := 0, cqHead := 0, stopped := false }
    { s with pcie := { s.pcie with misses := dropKey ch s.pcie.misses, retry := dropKey ch s.pcie.retry } }

/-- Step 4 of a reset of a function. -/
def State.endReset (s : State) (r : FnReset) : State :=
  let p := r.port
  let fn := r.fn
  let i := vfIdx p fn
  let s : State := { s with pcie := { s.pcie with resets := s.pcie.resets.erase r } }
  let s := s.setPfn (fnIdx p fn) ⟨[], []⟩
  let s := (s.fnChans p fn).foldl State.restartChan s
  let s := s.freeAborted p fn r.start
  let s :=
    if fn = 0 then
      ({ s with pcie := { s.pcie with safe := s.pcie.safe.filter (fun x => x != p) } }).set PCIE_PORT_STATUS.CPL_TO_US p 50000
    else s.set TNT_VF.STATE i (if s.fld TNT_VF.TENANT i = 0 then 0 else 1)
  let s := if fn = 0 then s.set PCIE_PORT_STATUS.CONTAINED p 0 else s
  let owner := if fn = 0 ∨ s.fld TNT_VF.TENANT i = 0 then 64 else s.fld TNT_VF.MANAGER i
  s.event 0x0E s.stb (leBytes 1 p ++ leBytes 2 fn ++ leBytes 4 r.ops) { owner := some owner }

/-! ### Configuration requests -/

/-- The Completion Timeout Value of a space: an encoding that is not listed leaves the field as it was; that of the physical function or
of link 0 is the port's (R353). -/
def State.cfgTimeout (s : State) (p fn old : Nat) : State :=
  let i := fnIdx p fn
  let new := s.cfgNat i 0x78 1
  match cplEncoding (new % 16) with
  | none => s.setCfg i 0x78 1 (new / 16 * 16 + old % 16)
  | some us =>
    if old % 16 ≠ new % 16 ∧ (fn = 0 ∨ fn = linkFn 0) then
      let s := s.set PCIE_PORT_STATUS.CPL_TO_US p us
      if fn = 0 then s.rebuildBst p else s
    else s

/-- R352: software clears DPC Trigger Status: the link is enabled again (log 25). -/
def State.clearDpc (s : State) (p j : Nat) : State :=
  let i := fnIdx p (linkFn j)
  let s := s.setCfg i dpcStatus 2 (withoutBit (s.cfgNat i dpcStatus 2) 0)
  let s := if s.fld PCIE_LINK.STATE (linkIdx p j) = 3 then s.set PCIE_LINK.STATE (linkIdx p j) 2 else s
  s.set PCIE_PORT_STATUS.CONTAINED p (flag ((s.linksOf p).any (fun x => s.fld PCIE_LINK.STATE (linkIdx p x) == 3)))

/-- Whether a write of bytes at an offset sets a bit of a 16-bit register to 1. -/
def writesOne (off : Nat) (data : List Byte) (reg b : Nat) : Bool :=
  let o := reg + b / 8
  decide (off ≤ o) && (data.getD (o - off) 0).toNat.testBit (b % 8)

/-- A configuration write to a function or a root link, with what it causes. -/
def State.cfgWrite (s : State) (p fn off : Nat) (data : List Byte) : State :=
  let i := fnIdx p fn
  let was := s.bme p fn
  let vfs := s.vfEnable p
  let n := s.numVfs p
  let cto := s.cfgNat i 0x78 1
  let dpc := (s.cfgNat i dpcStatus 2).testBit 0
  let power := s.cfgNat i 0x44 1
  let t := (s.cfgStore p fn off data).cfgTimeout p fn cto
  -- R341: a power state that is not implemented leaves the field as it was
  let t := if fn = 0 ∧ (t.cfgNat i 0x44 1 % 4 = 1 ∨ t.cfgNat i 0x44 1 % 4 = 2) then t.setCfg i 0x44 1 power else t
  if 384 ≤ fn then
    if dpc ∧ (t.cfgNat i dpcStatus 2).testBit 0 = false then t.clearDpc p (fn - 384) else t
  else
    -- a change of Bus Master Enable is made by the operations of R355
    let now := t.bme p fn
    let t := if now = was then t else t.setCfg i 0x04 1 ((if was then withBit else withoutBit) (t.cfgNat i 0x04 1) 2)
    let t := if now = was then t else if now then t.setBme p fn else t.clearBme p fn
    -- NumVFs is fixed while VF Enable is 1, and at most TotalVFs
    let t := if fn = 0 ∧ (vfs ∨ 256 < t.numVfs p) then t.setCfg i 0x1A0 2 n else t
    let on := t.vfEnable p
    let t :=
      if fn = 0 ∧ vfs ∧ on = false then
        (((t.setCfg i 0x198 1 (withBit (t.cfgNat i 0x198 1) 0)).resetVfs p)).setCfg i 0x198 1 (t.cfgNat i 0x198 1)
      else t
    let t := t.flushMsix p fn
    if writesOne off data 0x58 15 then t.flr p fn else t

/-- R336, R352 and R356: a function's answer to a configuration request; the completion's status is 0 for success, 1 for Unsupported
Request, 2 for Request Retry Status. -/
def State.cfgRequest (s : State) (p fn : Nat) (q : CfgReq) : State :=
  let (off, n) := match q with
    | .read o n => (o, n)
    | .write o d => (o, d.length)
  if s.portRole p ≠ 2 ∨ s.pins.epPerst.testBit p = false ∨ !([1, 2, 4].contains n && off % n == 0 && decide (off < 4096)) then s
  else if s.fld PCIE_PORT_STATUS.EP_READY p = 0 ∨ s.inReset p fn then s.emit .cfgAnswer [p, fn, off, 2]
  else if s.hasFn p fn = false then s.emit .cfgAnswer [p, fn, off, 1]
  else
    match q with
    | .read o n => s.emit .cfgAnswer [p, fn, o, 0] (s.cfgRead p fn o n)
    | .write o d => (s.emit .cfgAnswer [p, fn, o, 0]).cfgWrite p fn o d

/-! ### Memory requests to a BAR -/

/-- R350: an inbound request is answered Unsupported Request; for one that has a completion the error is advisory, as the Base Specification
permits (log 15). -/
def State.unsupported (s : State) (p fn : Nat) (posted : Bool) : State := s.portFails (!posted) p fn 20 2

/-- Whether a function takes memory requests to a BAR (R336, R340, R342, R352). -/
def State.barOpen (s : State) (p fn : Nat) (b : Bar) : Bool :=
  s.hasFn p fn && s.is PCIE_PORT_STATUS.EP_READY p && !(s.pcie.safe.contains p) && !(s.inReset p fn) &&
    s.cfgNat (fnIdx p 0) 0x44 1 % 4 == 0 &&
    (if fn = 0 then (s.cfgNat (fnIdx p 0) 0x04 1).testBit 1 else (s.cfgNat (fnIdx p 0) 0x198 1).testBit 3) &&
    (match b with
      | .bar0 => true
      | .bar2 => fn == 0
      | .rom => fn == 0 && (s.cfgNat (fnIdx p 0) 0x30 1).testBit 0)

/-- The size of a BAR. -/
def Bar.size : Bar → Nat
  | .bar2 => 0x100000
  | _ => 0x10000

/-- Reads 8-byte words of the mailbox unit for a port, in ascending order (R45). -/
def barLoad (p : Nat) : Nat → Nat → State → List Byte × State
  | 0, _, s => ([], s)
  | k + 1, off, s =>
    let q := s.windowLoad (off / 0x4000) (off % 0x4000) (.endpoint p)
    let r := barLoad p k (off + 8) q.2
    (leBytes 8 q.1.toNat ++ r.1, r.2)

/-- Writes 8-byte words of the mailbox unit for a port, in ascending order. -/
def barStore (p : Nat) : Nat → Nat → List Byte → State → State
  | 0, _, _, s => s
  | k + 1, off, d, s => barStore p k (off + 8) (d.drop 8) (s.windowStore (off / 0x4000) (off % 0x4000) (leAt d 0 8) (.endpoint p))

/-- A write to BAR0 in steps of 4 bytes: doorbells (R138) and the MSI-X table; an 8-byte doorbell is rung once, by its low half. -/
def State.bar0Store (s : State) (p fn : Nat) : Nat → List Byte → State
  | off, b0 :: b1 :: b2 :: b3 :: r =>
    let d := [b0, b1, b2, b3]
    let s :=
      if 0x1000 ≤ off ∧ off < 0x2000 then
        if off % 16 = 0 then s.ringSq (.bar0 p fn ((off - 0x1000) / 16)) (leNat d)
        else if off % 16 = 8 then s.ringCq (.bar0 p fn ((off - 0x1000) / 16)) (leNat d) else s
      else if 0x8000 ≤ off ∧ off < 0xC000 then s.msixStore p fn (off - 0x8000) d else s
    s.bar0Store p fn (off + 4) r
  | _, _ => s

/-- R45, R336 and R343: a memory request to a BAR. A read's completion carries its status and data. A poisoned write is reported (R350);
there is no memory behind a BAR to hold its data poisoned, and it changes nothing (log 25). -/
def State.barRequest (s : State) (p fn : Nat) (b : Bar) (q : BarReq) : State :=
  let (off, n) := match q with
    | .read o n => (o, n)
    | .write o d _ => (o, d.length)
  let step := match b with
    | .bar0 => 4
    | .bar2 => 8
    | .rom => 1
  if s.portRole p ≠ 2 ∨ s.pins.epPerst.testBit p = false ∨ n = 0 ∨ 4096 < n ∨ fn > 256 then s
  else if s.barOpen p fn b = false ∨ off % step ≠ 0 ∨ n % step ≠ 0 ∨ b.size < off + n then
    let f := if s.hasFn p fn then fn else 0
    match q with
    | .read _ _ => (s.unsupported p f false).emit .cpl [p, fn, 1, 0]
    | .write _ _ _ => s.unsupported p f true
  else
    match q, b with
    | .read o n, .bar0 => s.emit .cpl [p, fn, 0, 0] ((List.range n).map (fun i => s.bar0Byte p fn (o + i)))
    | .read o n, .bar2 =>
      let r := barLoad p (n / 8) o s
      r.2.emit .cpl [p, fn, 0, 0] r.1
    | .read o n, .rom => s.emit .cpl [p, fn, 0, 0] (s.romRead p o n)
    | .write _ _ true, _ => s.portFails true p fn 12 2
    | .write o d false, .bar0 => s.bar0Store p fn o d
    | .write o d false, .bar2 => barStore p (d.length / 8) o d s
    | .write _ _ false, .rom => s

/-! ### The VF commands -/

/-- The checks of a VF command's payload: the port is an endpoint port, the VF is one. -/
def State.vfChecks (s : State) (p : List Byte) : List (Nat × Bool) :=
  [(0, decide (8 ≤ leAt p 0 1) || s.portRole (leAt p 0 1) != 2), rsv p 1 1, (2, leAt p 2 2 == 0 || decide (256 < leAt p 2 2))]

/-- R61: whether a mailbox on an endpoint path names a function of another port. -/
def State.otherPort (s : State) (c : Caller) (p : Nat) : Bool :=
  match s.boxPort c.box with
  | some q => q != p
  | none => false

/-- VF_ASSIGN (R76, R330). -/
def cmdVfAssign (c : Caller) (p : List Byte) (s : State) : Reply :=
  paramChecks s (s.vfChecks p ++ [(2, decide (s.numVfs (leAt p 0 1) < leAt p 2 2)), (4, leAt p 4 1 == 0), (5, decide (3 < leAt p 5 1)), rsv p 6 2])
    fun _ =>
    let port := leAt p 0 1
    let vf := leAt p 2 2
    let x := leAt p 4 1
    let tags := leAt p 16 8
    let i := vfIdx port vf
    let manager := (lookupKey x s.svc.managers).getD c.box
    let taken := (onesBelow tags 64).any (fun t => match s.tagTenant t with
      | some y => y != x
      | none => false)
    if s.otherPort c port ∨ (manager ≠ c.box ∧ c.secure = false) ∨ taken then .no s stDeniedWorld
    else
      let old := (s.word .TNT_VF i 2).toNat
      let s : State := { s with svc := { s.svc with managers := nput s.svc.managers x manager } }
      let s := if s.fld TNT_VF.STATE i = 0 then s.set TNT_VF.STATE i 1 else s
      let s := (((s.set TNT_VF.TENANT i x).set TNT_VF.MAX_URGENCY i (leAt p 5 1)).set TNT_VF.MANAGER i manager)
      let s := (s.setWord .TNT_VF i 1 (BitVec.ofNat 64 (leAt p 8 8))).setWord .TNT_VF i 2 (BitVec.ofNat 64 tags)
      let s := (onesBelow (old ||| tags) 64).foldl State.refreshTag s
      .ok s

/-- VF_QUIESCE (R331): the command ends once the function's ops, its reads and their tags are gone. A function that is being reset has
nothing left to quiesce (log 25). DESIGN CHOICE (log 43): a function that is not assigned is not found. -/
def cmdVfQuiesce (c : Caller) (p : List Byte) (s : State) : Reply :=
  paramChecks s (s.vfChecks p ++ [rsv p 4 4]) fun _ =>
    let port := leAt p 0 1
    let vf := leAt p 2 2
    let i := vfIdx port vf
    if s.otherPort c port then .no s stDeniedWorld
    else if s.hasFn port vf = false ∨ s.fld TNT_VF.STATE i = 0 then .no s stNotFound
    else if s.fld TNT_VF.STATE i = 3 ∨ s.fld TNT_VF.STATE i = 4 then .ok s
    else
      let s := s.set TNT_VF.STATE i 2
      if s.quiet port vf then .ok (s.set TNT_VF.STATE i 3) else .later s

/-- VF_RESUME (R76, R331). -/
def cmdVfResume (c : Caller) (p : List Byte) (s : State) : Reply :=
  paramChecks s (s.vfChecks p ++ [rsv p 4 4]) fun _ =>
    let port := leAt p 0 1
    let vf := leAt p 2 2
    let i := vfIdx port vf
    if s.otherPort c port then .no s stDeniedWorld
    else if s.hasFn port vf = false then .no s stNotFound
    else if s.fld TNT_VF.STATE i ≠ 3 then .bad s 2
    else .ok (s.set TNT_VF.STATE i 1)

end Sys2Proof.Machine
end

