-- ==== Sys2Proof/Machine/RegRows.lean ====
section
/-! DEFINITION. The rows of the register space: writes and reads of registers (R4 to R9, R32, R326, R327, R382, R419 to R421),
doorbells between packages (R301), and user access to counters (R422 to R424). -/

namespace Sys2Proof.Machine

/-! ### Registers -/

/-- Whether an address names a register. -/
def namesReg (r : Reg) (a : Nat) : Bool :=
  match placeOf a with
  | .reg r' _ _ _ _ => r == r'
  | _ => false

/-- A write of `n` bytes of `v` at an address, where it names the register of the row. -/
def State.regRow (s : State) (r : Reg) (via : Via) (a n v : Nat) : State :=
  if namesReg r a then (s.regWrite via a n v).state else s

/-- Registers that a row of their own writes. -/
def ownRow (a : Nat) : Bool :=
  match placeOf a with
  | .reg .BLK_CLK_CTRL _ _ _ _ => true
  | .reg .WLD_BLK_SEC _ _ _ _ => true
  | .reg .CST_MSG_SEND _ _ _ _ => true
  | .reg .JNL_DRAIN _ 0 _ _ => true
  | .reg .CTR_CFG _ _ _ _ => true
  | .reg .CORE_PWR _ _ _ _ => true
  | .reg .IE_CH_DB _ _ _ _ => true
  | .window _ _ => true
  | _ => false

/-- REGISTER_WRITE (R32): a write to a register with no row of its own. -/
def execRegisterWrite (t : Stamp) (via : Via) (addr : Nat) (size : Nat) (value : Nat) (s : State) : Res :=
  liveS t s fun s => if ownRow addr then s else (s.regWrite via addr size value).state

/-- CTR_CFG (R419). -/
def execCtrCfg (t : Stamp) (via : Via) (addr : Nat) (size : Nat) (value : Nat) (s : State) : Res :=
  liveS t s fun s => s.regRow .CTR_CFG via addr size value

/-- CTR_VALUE (R420, R421): the read's value leaves as an output. -/
def execCtrValue (t : Stamp) (via : Via) (addr : Nat) (size : Nat) (s : State) : Res :=
  liveS t s fun s =>
    if namesReg .CTR_VALUE addr then
      let q := s.regRead via addr size
      q.state.emit .regRead [addr, q.err, q.val]
    else s

/-- BLK_CLK_CTRL (R327). -/
def execBlkClkCtrl (t : Stamp) (via : Via) (addr : Nat) (size : Nat) (value : Nat) (s : State) : Res :=
  liveS t s fun s => s.regRow .BLK_CLK_CTRL via addr size value

/-- SVOTE (R326): a write of a block's or a region's WLD_BLK_SEC. -/
def execSvote (t : Stamp) (via : Via) (addr : Nat) (size : Nat) (value : Nat) (s : State) : Res :=
  liveS t s fun s => s.regRow .WLD_BLK_SEC via addr size value

/-- SGATE (R327): a write of a block's WLD_BLK_SEC. -/
def execSgate (t : Stamp) (via : Via) (addr : Nat) (size : Nat) (value : Nat) (s : State) : Res :=
  liveS t s fun s => s.regRow .WLD_BLK_SEC via addr size value

/-- CLK_SRC (R382): a write of a core's CORE_PWR. -/
def execClkSrc (t : Stamp) (via : Via) (addr : Nat) (size : Nat) (value : Nat) (s : State) : Res :=
  liveS t s fun s => s.regRow .CORE_PWR via addr size value

/-- JNL_DRAIN_ENABLE (R168): a write of word 0 of a JNL_DRAIN. -/
def execJnlDrainEnable (t : Stamp) (via : Via) (addr : Nat) (size : Nat) (value : Nat) (s : State) : Res :=
  liveS t s fun s => s.regRow .JNL_DRAIN via addr size value

/-- CST_MSG_SEND (R301). -/
def execCstMsgSend (t : Stamp) (via : Via) (addr : Nat) (size : Nat) (value : Nat) (s : State) : Res :=
  liveS t s fun s => s.regRow .CST_MSG_SEND via addr size value

/-- DOORBELL_MESSAGE (R301): a message that has arrived from package `src`. -/
def execDoorbellMessage (t : Stamp) (src : Nat) (hart : Nat) (file : Nat) (guest : Nat) (eiid : Nat) (secure : Bool) (s : State) : Res :=
  liveS t s fun s => s.takeMessage src hart file guest eiid secure

/-! ### Counters -/

/-- COUNTER_WRAP (R422): of the counters whose events the model does not count one by one, and of those of ticks. -/
def execCounterWrap (t : Stamp) (bank : Nat) (i : Nat) (s : State) : Res :=
  liveS t s fun s =>
    if 8856 < bank ∨ bankSize bank ≤ i then s
    else if s.hiddenCount bank i then s.counterWrap bank i
    else if 2 ^ 48 ≤ (s.countParts bank i).1.1 then (s.settleCount bank i).counterWrap bank i
    else s

/-- The bank and the counter that COUNTER_ACCESS names, or the status that refuses it (R61, R424). -/
def State.counterNamed (s : State) (c : Caller) (p : List Byte) : Except Nat (Nat × Nat) :=
  let u := leAt p 4 4
  let i := leAt p 8 2
  if ((s.boxPort c.box).isSome && unitPort u != s.boxPort c.box) || (!c.secure && s.unitSecure u) then .error stDeniedWorld
  else
    match (unitRef u).bind bankOf with
    | none => .error stNotFound
    | some b => if bankSize b ≤ i ∨ s.fld PWR_DOMAIN.ON (bankDomain b) = 0 then .error stNotFound else .ok (b, i)

/-- The first field of COUNTER_ACCESS that fails its check: those of every SUBOP, and SUBOP itself. -/
def counterChecks (sub : Nat) (p : List Byte) : List (Nat × Bool) :=
  [(0, leAt p 0 1 != sub), rsv p 1 3, (4, (unitRef (leAt p 4 4)).isNone)]

/-- COUNTER_ACCESS, SUBOP 0: grants the counter to the lowest free slot. -/
def cmdCounterGrant (c : Caller) (p : List Byte) (s : State) : Reply :=
  paramChecks s (counterChecks 0 p) fun _ =>
    match s.counterNamed c p with
    | .error e => .no s e
    | .ok _ =>
      match (List.range 64).find? (fun k => !(s.is CTR_USER_MAP.VALID k)) with
      | none => .bad s 8
      | some k => .ok (((s.set CTR_USER_MAP.UNIT k (leAt p 4 4)).set CTR_USER_MAP.COUNTER k (leAt p 8 2)).set CTR_USER_MAP.VALID k 1)
          (leBytes 8 k ++ leBytes 8 s.stb)

/-- The lowest slot that holds a counter. -/
def State.slotOf (s : State) (u i : Nat) : Option Nat :=
  (List.range 64).find? (fun k => s.is CTR_USER_MAP.VALID k && s.fld CTR_USER_MAP.UNIT k == u && s.fld CTR_USER_MAP.COUNTER k == i)

/-- COUNTER_ACCESS, SUBOP 1: frees the slot of the counter. -/
def cmdCounterRevoke (c : Caller) (p : List Byte) (s : State) : Reply :=
  paramChecks s (counterChecks 1 p) fun _ =>
    match s.counterNamed c p with
    | .error e => .no s e
    | .ok _ =>
      match s.slotOf (leAt p 4 4) (leAt p 8 2) with
      | none => .no s stNotFound
      | some k => .ok (s.setWord .CTR_USER_MAP k 0 0)

/-- COUNTER_ACCESS, SUBOP 2: reads the counter (R420). -/
def cmdCounterRead (c : Caller) (p : List Byte) (s : State) : Reply :=
  paramChecks s (counterChecks 2 p) fun _ =>
    match s.counterNamed c p with
    | .error e => .no s e
    | .ok (b, i) =>
      let q := s.sample b i
      .ok q.2 (leBytes 8 q.1 ++ leBytes 8 s.stb)

/-- COUNTER_ACCESS, SUBOP 3: sets a counter's event and filter; FILTER is CTR_CFG[47:16], whose bits above 40 are reserved. -/
def cmdCounterSet (c : Caller) (p : List Byte) (s : State) : Reply :=
  let f := leAt p 12 4
  paramChecks s (counterChecks 3 p ++ [(12, bitsOf f 0 2 == 3 || bitsOf f 9 2 == 3 || bitsOf f 25 7 != 0)]) fun _ =>
    match s.counterNamed c p with
    | .error e => .no s e
    | .ok (b, i) =>
      let k := b * 16 + i
      if eventOk b (leAt p 10 2) = false then .bad s 10
      else if c.secure = false ∧ bitsOf f 0 2 = 2 then .no s stDeniedWorld
      else .ok ((s.settleCount b i).setWord .CTR_CFG k 0
        (wset (wset (s.word .CTR_CFG k 0) 0 16 (leAt p 10 2)) 16 47 f))

/-- A COUNTER_ACCESS row: the oldest such command with its SUBOP; a SUBOP above 3 is refused by the row of SUBOP 0. -/
def counterRow (t : Stamp) (m sub : Nat) (f : Caller → List Byte → State → Reply) (s : State) : Res :=
  liveS t s (runCommand m 0x0E00 (fun p => leAt p 0 1 == sub || (sub == 0 && decide (3 < leAt p 0 1))) f)

/-- COUNTER_ACCESS_GRANT (R423, R424). -/
def execCounterAccessGrant (t : Stamp) (m : Nat) (s : State) : Res := counterRow t m 0 cmdCounterGrant s
/-- COUNTER_ACCESS_REVOKE (R424). -/
def execCounterAccessRevoke (t : Stamp) (m : Nat) (s : State) : Res := counterRow t m 1 cmdCounterRevoke s
/-- COUNTER_ACCESS_READ (R424). -/
def execCounterAccessRead (t : Stamp) (m : Nat) (s : State) : Res := counterRow t m 2 cmdCounterRead s
/-- COUNTER_ACCESS_SET (R419, R424). -/
def execCounterAccessSet (t : Stamp) (m : Nat) (s : State) : Res := counterRow t m 3 cmdCounterSet s

end Sys2Proof.Machine
end

