-- ==== Sys2Proof/Machine/PortRows.lean ====
section
/-! DEFINITION. Device targets (R256, R337, R338), PCI Express requests, completions and resets (R334 to R356), and the VF commands. -/

namespace Sys2Proof.Machine

/-! ### Device targets -/

/-- The address of a device access. -/
def Pkt.devAddr (p : Pkt) : Nat := 64 * p.line + bitsOf p.operand 0 6

/-- The bytes of a device access. -/
def Pkt.devLen (p : Pkt) : Nat := bitsOf p.operand 6 6 + 1

/-- The bytes a device write carries. -/
def Pkt.devData (p : Pkt) : List Byte := (p.data.drop (bitsOf p.operand 0 6)).take p.devLen

/-- ERR from a device target (R248). -/
def State.devErr (s : State) (p : Pkt) (reason : Nat) : State := (s.takePkt p).sendFrom p.dest { p.cause 0 15 p.src reason with src := p.dest }

/-- DEV_ACK from a device target. -/
def State.devAck (s : State) (p : Pkt) : State := (s.takePkt p).sendFrom p.dest { p.cause 0 6 p.src 0 with src := p.dest }

/-- DEV_DATA from a device target. -/
def State.devData (s : State) (p : Pkt) (bytes : List Byte) : State :=
  (s.takePkt p).sendFrom p.dest { p.cause 1 3 p.src 0 with src := p.dest, data := unitBytes (p.devAddr % 64) bytes }

/-- A core's request of a port's window is issued; one through a contained link is not sent, and is answered as timed out at
once. It waits while no tag is free (R334). -/
def State.issueFor (s : State) (p : Pkt) (port fn : Nat) (who : Asker) (issue : State → Option State) : State :=
  match issue s with
  | none => s
  | some s' =>
    let s' := (s'.takePkt p).refreshTags port
    if s.contained port fn then
      let s : State := { s' with out := s.out }
      match s.pcie.reads.find? (fun r => r.port == port && r.asker == who) with
      | some r => s.readTimesOut r
      | none => s
    else s'

/-- A core's read of a port's window. -/
def State.portRead (s : State) (p : Pkt) (port h : Nat) : State :=
  let o := (p.devAddr - 0x4000000000000) % 2 ^ 44
  match s.portTarget port o p.devLen p.world with
  | .refused r => s.devErr p r
  | .absent => s.devData p (List.replicate p.devLen 0xFF)
  | .config j e =>
    if e < 0x1000 then s.devData p (s.cfgRead port (linkFn j) e p.devLen)
    else s.issueFor p port (linkFn j) (.config h) (fun s =>
      s.issueConfig port (linkFn j) e p.devLen (.config h) [])
  | .bus fn a => s.issueFor p port fn (.load h) (fun s => s.issueRead port fn a p.devLen (bitsOf o 43 1) (.load h))

/-- A core's write of a port's window: acknowledged once the port has placed it in its queue (R348); bit 2 of the attributes is EP (R350).
A configuration write holds a tag until its completion, and waits while none is free (R334). A write through a contained link is
discarded. -/
def State.portWrite (s : State) (p : Pkt) (port : Nat) : State :=
  let o := (p.devAddr - 0x4000000000000) % 2 ^ 44
  match s.portTarget port o p.devLen p.world with
  | .refused r => s.devErr p r
  | .absent => s.devAck p
  | .config j e =>
    if e < 0x1000 then (s.cfgWrite port (linkFn j) e p.devData).devAck p
    else if s.contained port (linkFn j) then s.devAck p
    else
      match s.issueConfig port (linkFn j) e p.devLen .write p.devData with
      | some s => (s.refreshTags port).devAck p
      | none => s
  | .bus fn a =>
    if s.contained port fn then s.devAck p
    else
      ((s.postWrite port fn a (bitsOf o 43 1 + 4 * flag p.poison) p.devData).portUnits port true p.world p.devAddr p.devLen).devAck p

/-- A message-signalled interrupt that comes as a write to a core's unit: the page of the line names the file (log 25). -/
def State.coreMsi (s : State) (p : Pkt) (h : Nat) : State :=
  let page := p.line / 64 % 16
  let s := s.msi h (if page = 0 then 0 else if page = 1 then 1 else 2) (page - 2) (leNat (p.devData.take 4))
  s.devAck p

/-- A device access whose bytes lie within its line, by a core (R249). -/
def Pkt.devSource (p : Pkt) : Option Nat :=
  if decide (p.devAddr % 64 + p.devLen ≤ 64) && p.pkg.isNone then codeCore p.src else none

/-- Whether a packet is an access to a register. -/
def Pkt.regAccess (p : Pkt) : Bool := p.cls == 3 && (p.op == 0x18 || p.op == 0x19) && addrKind p.devAddr == .regs

/-- The arbiter of a block's register port. -/
def regPort (p : Pkt) : Nat := 4000 + 16 * unitRegion p.dest + unitStop p.dest

/-- R21 and R32: whether a device access that has come to its target is served next: a block takes the register accesses that have come to
it one at a time, round-robin over the units that send them. -/
def State.devTurn (s : State) (p : Pkt) : Bool :=
  s.hasPkt p && (!p.regAccess || s.fab.net.all (fun g => !(g.arrived && g.pkt.regAccess && regPort g.pkt == regPort p) ||
    decide (turnRank (s.turn (regPort p)) p.src ≤ turnRank (s.turn (regPort p)) g.pkt.src)))

/-- The register port of a block has taken an access. -/
def State.portTaken (s : State) (p : Pkt) : State := if p.regAccess then s.setTurn (regPort p) p.src else s

/-- DEV_RD (R256): the target of a core's device read serves it. -/
def execDevRd (t : Stamp) (p : Pkt) (s : State) : Res :=
  liveS t s (fun s =>
    match p.devSource with
    | none => s
    | some h =>
      if !(p.isA 3 0x18 && s.devTurn p) then s
      else
        let s := s.portTaken p
        match addrKind p.devAddr with
        | .regs =>
          if s.regDest p.devAddr = some p.dest then
            let r := s.regRead (.core h p.world) p.devAddr p.devLen
            if r.err ≠ 0 then r.state.devErr p r.err else r.state.devData p (leBytes p.devLen r.val)
          else s.devErr p 1
        | .port q => if p.dest = portCode q then s.portRead p q h else s.devErr p 1
        | _ => s.devErr p 1)

/-- DEV_WR (R256): the target of a core's device write performs it. -/
def execDevWr (t : Stamp) (p : Pkt) (s : State) : Res :=
  liveS t s (fun s =>
    match p.devSource with
    | none => s
    | some h =>
      if !(p.isA 3 0x19 && p.data.length == 64 && s.devTurn p) then s
      else
        let s := s.portTaken p
        match codeCore p.dest with
        | some c => s.coreMsi p c
        | none =>
          match addrKind p.devAddr with
          | .regs =>
            if s.regDest p.devAddr = some p.dest then
              let r := s.regWrite (.core h p.world) p.devAddr p.devLen (leNat p.devData)
              if r.err ≠ 0 then r.state.devErr p r.err else r.state.devAck p
            else s.devErr p 1
          | .port q => if p.dest = portCode q then s.portWrite p q else s.devErr p 1
          | _ => s.devErr p 1)

/-! ### Completions (R353 to R355) -/

/-- The outstanding request of a port that a core's DEV_DATA answers. -/
def State.readFor (s : State) (p : Pkt) (h : Nat) : Option PcieRead :=
  if (s.missOf h p).isNone then none
  else s.pcie.reads.find? (fun r => portCode r.port == p.src && (r.asker == .load h || r.asker == .config h))

/-- R334 and R350: a completion ends a core's request: its tag is free; poisoned data is reported. -/
def State.endRead (s : State) (r : PcieRead) (p : Pkt) : State :=
  let s : State := { s with pcie := { s.pcie with reads := s.pcie.reads.erase r } }
  let s := (s.refreshTags r.port).portUnits r.port false p.world (64 * p.line) 1
  if p.poison then s.portFails true r.port r.fn 12 2 else s

/-- R338: whether a configuration read takes in the Vendor ID, and software sees Request Retry Status there. -/
def State.seesRetry (s : State) (r : PcieRead) (reg n : Nat) : Bool :=
  reg % 4096 == 0 && decide (2 ≤ n) && (s.cfgNat (fnIdx r.port r.fn) 0x6C 1).testBit 4

/-- R338: a configuration read is answered: with its data, with Unsupported Request (all ones, no exception), or with Request Retry Status: as
the Vendor ID 0x0001 where software sees that, else the port repeats the read, for up to 1 s from its first issue. OPERAND of the completion
tells which: 0, 1, 2 (log 25). -/
def State.configDone (s : State) (r : PcieRead) (h : Nat) (p : Pkt) (reg n : Nat) (first : Stamp) : State :=
  let answer := fun (bytes : List Byte) => (s.endRead r { p with poison := false }).coreDevice h { p with poison := false, data := unitBytes (reg % 64) bytes }
  match p.operand with
  | 0 => (s.endRead r p).coreDevice h p
  | 1 => answer (List.replicate n 0xFF)
  | _ =>
    if s.seesRetry r reg n then answer ([0x01, 0x00] ++ List.replicate (n - 2) 0xFF)
    else if s.stb < first + usTicks 1000000 then
      let s : State := { s with pcie := { s.pcie with reads := s.pcie.reads.map (fun x => if x = r then { r with issued := s.stb } else x) } }
      s.emit .pcieConfig [r.port, r.fn, s.wireTag r.port r.fn r.tag, reg, n]
    else s.readTimesOut r

/-- DEV_DATA (R256): the answer of a register, or the completion of a core's request of a port; one that comes after the request's time is
late (R354). -/
def execDevData (t : Stamp) (p : Pkt) (s : State) : Res :=
  liveS t s (fun s =>
    match p.core with
    | some h =>
      if !(p.isA 1 3 && p.data.length == 64) then s
      else if s.hasPkt p then (s.takePkt p).coreDevice h p
      else
        match s.readFor p h with
        | some r =>
          if r.issued + s.cplTicks r.port < s.stb then (s.readTimesOut r).lateCpl r.port r.tag true
          else
            (match r.again with
              | some (reg, n, first) => s.configDone r h p reg n first
              | none => (s.endRead r p).coreDevice h p).endQuiesces
        | none => s
    | none => s)

/-- COMPLETION_TIMEOUT (R354). -/
def execCompletionTimeout (t : Stamp) (p : Nat) (tag : Nat) (s : State) : Res :=
  liveS t s (fun s =>
    match s.pcie.reads.find? (fun r => r.port == p && r.tag == tag) with
    | some r => if r.issued + s.cplTicks p ≤ s.stb then s.readTimesOut r else s
    | none => s)

/-- LATE_COMPLETION (R354, R355): a completion of a quarantined tag; `last` says that it ends the request's byte count. The completion of a
configuration write, which no core awaits, comes here too (log 25). -/
def execLateCompletion (t : Stamp) (p : Nat) (tag : Nat) (last : Bool) (s : State) : Res :=
  liveS t s (fun s =>
    match s.pcie.reads.find? (fun r => r.port == p && r.tag == tag && r.asker == .write) with
    | some r =>
      if r.issued + s.cplTicks p < s.stb then (s.readTimesOut r).lateCpl p tag last
      else if last then ({ s with pcie := { s.pcie with reads := s.pcie.reads.erase r } }).refreshTags p else s
    | none => s.lateCpl p tag last)

/-- TAG_QUARANTINE_EXPIRY (R354, R355). -/
def execTagQuarantineExpiry (t : Stamp) (p : Nat) (tag : Nat) (s : State) : Res :=
  liveS t s (fun s =>
    match s.pcie.holds.find? (fun x => x.port == p && x.tag == tag) with
    | some x => if x.stop ≤ s.stb then s.freeHold x else s
    | none => s)

/-! ### Containment (R352) -/

/-- DOWNSTREAM_PORT_CONTAINMENT (R350, R352): link `j` of a root port receives ERR_FATAL, or detects the fatal error whose AER bit is
`err`. -/
def execDownstreamPortContainment (t : Stamp) (p : Nat) (j : Nat) (err : Option Nat) (s : State) : Res :=
  liveS t s (fun s =>
    if !((s.linksOf p).contains j) then s
    else
      match err with
      | none => s.containLink p j
      | some b =>
        if fatalAer.contains b then
          (s.portUnc p (linkFn j) b 3).containLink p j
        else s)

/-- DPC_TRIGGER_STATUS_CLEAR (R352). -/
def execDpcTriggerStatusClear (t : Stamp) (p : Nat) (j : Nat) (s : State) : Res :=
  liveS t s (fun s => if (s.linksOf p).contains j then s.clearDpc p j else s)

/-! ### Inbound requests at root ports (R339) -/

/-- The address and the length of a request. -/
def InReq.span : InReq → Nat × Nat
  | .read a n _ => (a, n)
  | .write a d _ => (a, d.length)
  | .atomic a fn d _ => (a, if fn = 2 then d.length / 2 else d.length)
  | .message _ _ => (0, 0)

/-- Whether a request is posted, and so has no completion. -/
def InReq.posted : InReq → Bool
  | .write _ _ _ => true
  | .message _ _ => true
  | _ => false

/-- The attributes of a request that has a completion (R348). -/
def InReq.attr : InReq → Nat
  | .read _ _ x => x
  | .atomic _ _ _ x => x
  | _ => 0

/-- The completion of an inbound request: its port, its link, its status (0 success, 1 Unsupported Request, 4 Completer Abort), EP, and the
attributes of the request (R348). -/
def State.complete (s : State) (p j status : Nat) (ep : Bool) (attr : Nat) (data : List Byte) : State :=
  s.emit .cpl [p, j, status, flag ep, attr] data

/-- R339: a request that fails check 2 or 3. -/
def State.inboundUr (s : State) (p j : Nat) (q : InReq) : State :=
  let s := (s.unsupported p (linkFn j) q.posted).set PCIE_PORT_EVT.INBOUND_UR p 1
  if q.posted then s else s.complete p j 1 false q.attr []

/-- R316 and R339: a request that its home slice refuses. -/
def State.inboundAbort (s : State) (p j line : Nat) (q : InReq) : State :=
  let s := s.worldRefused (homeSlice (64 * line)) line
  let s := (s.set PCIE_PORT_EVT.INBOUND_WORLD p 1).portFails false p (linkFn j) 15 2
  if q.posted then s else s.complete p j 4 false q.attr []

/-- R339, check 1: a write of 4 bytes in the MSI window. -/
def State.inboundMsi (s : State) (p off data : Nat) : State :=
  let h := off / 0x10000
  let i := off / 0x1000 % 16
  let bb := h / 4
  if 287 < h ∨ 8 < i ∨ data = 0 ∨ 2047 < data ∨ (s.fld RP_MSI.MACHINE_OK p = 0 ∧ i = 0) ∨
      s.blockSecure (bb / 6) (bb % 6) ≠ s.is WLD_PORT.SECURE p then
    s.note41 (portColl p).unit (s.fld RP_MSI.BUS_BASE p * 2 ^ 25 + off)
  else s.msi h (min i 2) (i - 2) data

/-- R334: whether a request is one that a device can make. -/
def InReq.legal : InReq → Bool
  | .read _ n x => decide (0 < n) && decide (n ≤ 4096) && decide (x < 4)
  | .write _ d _ => decide (0 < d.length) && decide (d.length ≤ 512)
  | .message k rid => decide (k < 3) && decide (rid < 2 ^ 16)
  | .atomic a fn d x => decide (x < 4) &&
    let n := if fn = 2 then d.length / 2 else d.length
    decide (fn < 3) && (n == 4 || n == 8) && d.length == (if fn = 2 then 2 * n else n) && a % n == 0

/-- R339, check 2: the package address of a request. -/
def State.inboundAddr (s : State) (p a n : Nat) : Option Nat :=
  ((List.range 8).find? (fun i =>
    let k := 8 * p + i
    let lo := s.fld RP_IN_WIN.BUS_BASE k * 4096
    s.is RP_IN_WIN.VALID k && decide (lo ≤ a) && decide (a + n ≤ lo + s.fld RP_IN_WIN.SIZE k * 4096))).map (fun i =>
      a - s.fld RP_IN_WIN.BUS_BASE (8 * p + i) * 4096 + s.fld RP_IN_WIN.TARGET (8 * p + i) * 4096)

/-- The lines that a span of bytes touches. -/
def linesOf (a n : Nat) : List Nat := (List.range (a % 64 + n + 63)).filterMap (fun i => if i % 64 = 0 ∧ i < a % 64 + n then some (a / 64 + i / 64) else none)

/-- The bytes of a write that fall in a line: the offset in the line and the bytes. -/
def linePart (a : Nat) (d : List Byte) (line : Nat) : Nat × List Byte :=
  if line = a / 64 then (a % 64, d.take (64 - a % 64)) else (0, (d.drop (64 * line - a)).take 64)

/-- An AtomicOp on the bytes at an address (R334, R339): the old value answers; a poisoned line is left as it is. -/
def State.inboundAtomic (s : State) (p j a fn : Nat) (d : List Byte) (attr : Nat) : State :=
  let n := if fn = 2 then d.length / 2 else d.length
  let g := portTraffic p (s.is WLD_PORT.SECURE p)
  let s := (s.traffic g false a n).traffic g true a n
  let q := s.readNow a n
  let old := leNat q.1
  let new := if fn = 0 then atomicOp 1 n old (leNat d) else if fn = 1 then leNat d else if old = leNat (d.take n) then leNat (d.drop n) else old
  let s := if q.2 then s else s.storeNow a (leBytes n new)
  s.complete p j 0 q.2 attr q.1

/-- R351: a message of a device below a root link: an error, or a PME, which Root Status records with its Requester ID. -/
def State.rootMessage (s : State) (p fn kind rid : Nat) : State :=
  let i := fnIdx p fn
  if kind < 2 then s.rootError p fn kind rid
  else
    let st := s.cfgNat i 0x72 1
    (if st.testBit 0 then s.setCfg i 0x72 1 (withBit st 1) else (s.setCfg i 0x72 1 (withBit st 0)).setCfg i 0x70 2 rid).rootIrq p

/-- R339, check 1: whether a request is an MSI: a write of 4 bytes in the RP_MSI window; its offset there and its data. -/
def State.asMsi (s : State) (p : Nat) : InReq → Option (Nat × Nat)
  | .write a d _ =>
    let base := s.fld RP_MSI.BUS_BASE p * 2 ^ 25
    if d.length = 4 ∧ s.is RP_MSI.VALID p ∧ base ≤ a ∧ a + 4 ≤ base + 2 ^ 25 then some (a - base, leNat d) else none
  | _ => none

/-- R339, R311, R316, R349: a request of a device behind link `j` of a root port, in order of arrival. One that R126 holds waits in
its port. -/
def State.inbound (s : State) (p j : Nat) (q : InReq) : State :=
  let (a, n) := q.span
  match q, s.asMsi p q with
  | .message k rid, _ => s.rootMessage p (linkFn j) k rid
  | _, some (off, data) => s.inboundMsi p off data
  | _, none =>
    match s.inboundAddr p a n with
    | none => s.inboundUr p j q
    | some x =>
      let lines := linesOf x n
      let world := s.is WLD_PORT.SECURE p
      if !(lines.all (fun l => s.populated (64 * l))) then s.inboundUr p j q
      else if !(lines.all (fun l => s.lineFree (portTraffic p world) q.posted l)) then s
      else
        match lines.find? (fun l => s.addrSecure (64 * l) != world), q with
        | some l, .read _ _ _ => s.inboundAbort p j l q
        | some l, .atomic _ _ _ _ => s.inboundAbort p j l q
        | none, .read _ _ attr =>
          let r := s.readNow x n
          ((s.traffic (portTraffic p world) false x n).portUnits p true world x n).complete p j 0 r.2 attr r.1
        | none, .atomic _ fn d attr => (s.portUnits p false world x n).inboundAtomic p j x fn d attr
        | bad, .write _ d ep =>
          let s := s.portUnits p false world x n
          let s := if ep then s.portFails true p (linkFn j) 12 2 else s
          let s := (lines.filter (fun l => s.addrSecure (64 * l) == world)).foldl (fun (s : State) l =>
            let part := linePart x d l
            let s := s.lineTraffic (portTraffic p world) true l
            let s := s.writeNow l part.1 part.2
            if ep then s.setPoison l true else s) s
          match bad with
          | some l => s.inboundAbort p j l q
          | none => s
        | _, .message _ _ => s

/-- INBOUND_REQUEST (R339). -/
def execInboundRequest (t : Stamp) (p : Nat) (j : Nat) (q : InReq) (s : State) : Res :=
  liveS t s (fun s =>
    if (s.linksOf p).contains j ∧ q.legal ∧ s.fld PCIE_LINK.STATE (linkIdx p j) = 2 then s.inbound p j q else s)

/-! ### Endpoint functions -/

/-- ENDPOINT_CONFIG_REQUEST (R336). -/
def execEndpointConfigRequest (t : Stamp) (p : Nat) (fn : Nat) (q : CfgReq) (s : State) : Res := liveS t s (fun s => s.cfgRequest p fn q)

/-- ENDPOINT_MEMORY_REQUEST (R45, R343). -/
def execEndpointMemoryRequest (t : Stamp) (p : Nat) (fn : Nat) (b : Bar) (q : BarReq) (s : State) : Res :=
  liveS t s (fun s => s.barRequest p fn b q)

/-- FUNCTION_LEVEL_RESET (R332, R356): a function-level reset of function `fn`, or the clearing of VF Enable. -/
def execFunctionLevelReset (t : Stamp) (p : Nat) (fn : Nat) (vfClear : Bool) (s : State) : Res :=
  liveS t s (fun s =>
    if s.hasFn p fn = false ∨ s.inReset p fn then s
    else if vfClear then
      let s := s.resetVfs p
      s.setCfg (fnIdx p 0) 0x198 1 (withoutBit (s.cfgNat (fnIdx p 0) 0x198 1) 0)
    else s.flr p fn)

/-- RESET_COMPLETION (R356): a function's reset ends. -/
def execResetCompletion (t : Stamp) (p : Nat) (fn : Nat) (s : State) : Res :=
  liveS t s (fun s =>
    match s.pcie.resets.find? (fun r => r.port == p && r.fn == fn) with
    | some r => s.endReset r
    | none => s)

/-- BUS_MASTER_ENABLE_CLEAR (R355). -/
def execBusMasterEnableClear (t : Stamp) (p : Nat) (fn : Nat) (s : State) : Res :=
  liveS t s (fun s => if s.hasFn p fn && !(s.inReset p fn) then s.clearBme p fn else s)

/-- BUS_MASTER_ENABLE_SET (R355). -/
def execBusMasterEnableSet (t : Stamp) (p : Nat) (fn : Nat) (s : State) : Res :=
  liveS t s (fun s => if s.hasFn p fn && !(s.inReset p fn) then s.setBme p fn else s)

/-- PE_EP_PERST_N of a port is driven. -/
def State.setPerst (s : State) (p : Nat) (high : Bool) : State :=
  if 8 ≤ p then s
  else { s with pins := { s.pins with epPerst := if high then withBit s.pins.epPerst p else withoutBit s.pins.epPerst p } }

/-- ENDPOINT_FUNDAMENTAL_RESET (R336, R435): PE_EP_PERST_N of a port changes. Low, every function is reset and the link is down; high, the
link trains to the width and speed that its partner allows. Before START_UP the level alone is kept: the start finds it. -/
def execEndpointFundamentalReset (t : Stamp) (p : Nat) (high : Bool) (width : Nat) (speed : Nat) (flit : Bool) (s : State) : Res :=
  if s.up = false then .next (s.setPerst p high)
  else liveS t s (fun s =>
    if 8 ≤ p ∨ s.pins.epPerst.testBit p = high then s
    else
      let s := s.setPerst p high
      if s.portRole p ≠ 2 then s
      else if high then
        let s := if 1 ≤ width ∧ width ≤ 5 ∧ 1 ≤ speed ∧ speed ≤ 6 then
            (((s.set PCIE_LINK.STATE (linkIdx p 0) 2).set PCIE_LINK.WIDTH (linkIdx p 0) width).set PCIE_LINK.SPEED (linkIdx p 0) speed).set
              PCIE_LINK.FLIT (linkIdx p 0) (flag (speed == 6 || flit))
          else s.set PCIE_LINK.STATE (linkIdx p 0) 1
        s.portsReady
      else
        let s := (s.set PCIE_PORT_STATUS.EP_READY p 0).setWord .PCIE_LINK (linkIdx p 0) 0 0
        let s := s.flr p 0
        (s.pcie.resets.filter (fun r => r.port == p)).foldl State.endReset s)

/-! ### The VF commands -/

/-- VF_ASSIGN (R330). -/
def execVfAssign (t : Stamp) (m : Nat) (s : State) : Res := rowCommand t m 0x0A00 cmdVfAssign s
/-- VF_QUIESCE (R331). -/
def execVfQuiesce (t : Stamp) (m : Nat) (s : State) : Res := rowCommand t m 0x0A01 cmdVfQuiesce s
/-- VF_RESUME (R331). -/
def execVfResume (t : Stamp) (m : Nat) (s : State) : Res := rowCommand t m 0x0A02 cmdVfResume s

end Sys2Proof.Machine
end

