-- ==== Sys2Proof/Machine/ArbOps.lean ====
section
/-! DEFINITION. What a stop sends next: the order of positions (R237, R238), the ports of R254 with their tenures (R250 to R253), and the
packet that a stop injects or that a course carries. -/

namespace Sys2Proof.Machine

/-! ### Positions (R237, R238) -/

/-- The position of every stop in the ring cycle of a stamp (R103, R237): 20,480 cycles make a frame. -/
def ringPosition (t : Stamp) : Nat := ringCycles (t % 32768) % 64

/-- Whether a position is a fixed protocol position. -/
def protocolPos (pos : Nat) : Bool := pos % 16 == 0

/-- Whether a position of a ring is guaranteed: in ALM_RING_MASK on a brick ring, all but the protocol positions elsewhere (R237, R238). -/
def State.guaranteed (s : State) (ring pos : Nat) : Bool :=
  !(protocolPos pos) && (decide (12 ≤ ring) || (s.fld ALM_RING_MASK.POSITIONS ring).testBit pos)

/-- The order of a class at a position: SNOOP comes before FILL at the protocol positions, after it elsewhere (R237). -/
def classOrder (pos cls : Nat) : Nat :=
  if protocolPos pos then (match cls with
    | 1 => 2
    | 2 => 1
    | c => c)
  else cls

/-- The rank of a waiting packet at a position: the lower goes first; R111 within a class. -/
def State.injectRank (s : State) (ring pos : Nat) (p : Pkt) : Nat :=
  ((if s.guaranteed ring pos ∧ p.standing = false then 1 else 0) * 4 + classOrder pos p.cls) * 8 + p.rank111

/-- R122, R237 and R271: the rank of a packet at the flit of a course direction that a stamp lies in. -/
def State.flitRank (s : State) (b c d : Nat) (p : Pkt) : Nat :=
  let i := 4 * b + c
  let pos := s.ringStamp (if d = 0 then b else 12 + c) % 32768 / (if s.fld CRS_STATUS.WIDTH i = 0 then 8 else 16) % 64
  ((if (s.fld ALM_COURSE_MASK.POSITIONS (2 * i + (1 - d))).testBit pos ∧ p.standing = false then 1 else 0) * 4 + p.cls) * 8 + p.rank111

/-! ### Ports (R254) -/

/-- What a port serves: the injection at a stop, in one direction where each has a port of its own; a course's transmitter on the brick side;
or the request intake of a slice. -/
inductive PortUse where
  | entry (ring stop : Nat) (dir : Option Nat)
  | course (b c : Nat)
  | intake (h : Nat)
  | unused
deriving DecidableEq, Repr

/-- What instance `inst` of a port serves. A port is the place of its ARB_PORT: 2 × (8 × level + block) + n for block ports, 272 + 4 × level
+ n for level ports. Its instances are the directions of a block stop, the slices of a home block, the courses of a brick, the course stops
of a quadrant, the spine stops of quadrants, and the chip blocks. -/
def portUse (port inst : Nat) : PortUse :=
  if port < 272 then
    let l := port / 16
    let b := port / 2 % 8
    if port % 2 = 0 then (if l < 12 ∧ b < 6 ∧ inst < 2 then .entry l b (some inst) else .unused)
    else if 12 ≤ l ∧ l < 16 ∧ (b = 3 ∨ b = 4) ∧ inst < 8 then .intake (16 * (l - 12) + 8 * (b - 3) + inst) else .unused
  else
    let l := (port - 272) / 4
    match (port - 272) % 4 with
    | 0 => if l < 12 ∧ inst < 4 then .course l inst else if l = 16 ∧ inst < 4 then .entry (12 + inst) 11 none else .unused
    | 1 => if 12 ≤ l ∧ l < 16 ∧ inst < 3 then .entry l (8 + inst) none else if l = 16 ∧ inst < 8 then .entry 16 (4 + inst) none else .unused
    | 2 => if 12 ≤ l ∧ l < 16 ∧ inst = 0 then .entry 16 (l - 12) none else .unused
    | _ => .unused

/-- The port of an injection, as 8 × port + instance; none where R254 has none: the blocks of a quadrant, and a brick's course stops and
controller. -/
def entryKey (ring stop dir : Nat) : Option Nat :=
  if ring < 12 then (if stop < 6 then some (8 * (16 * ring + 2 * stop) + dir) else none)
  else if ring < 16 then
    if 8 ≤ stop ∧ stop < 11 then some (8 * (273 + 4 * ring) + (stop - 8))
    else if stop = 11 then some (8 * 336 + (ring - 12)) else none
  else if stop < 4 then some (8 * (274 + 4 * (12 + stop))) else some (8 * 337 + (stop - 4))

/-- The transmitter port of a course on the brick side. -/
def courseKey (b c : Nat) : Nat := 8 * (272 + 4 * b) + c

/-- The ring by whose cycles a port's beats are counted. -/
def portRing (port inst : Nat) : Nat :=
  match portUse port inst with
  | .entry ring _ _ => ring
  | .course b _ => b
  | .intake h => 12 + h / 16
  | .unused => 16

/-- How a port orders its sources (R254). -/
inductive ArbOrder where
  | block | arrival | classes | turns | slots | cells
deriving DecidableEq, Repr

/-- The order of a port. -/
def arbOrder (port : Nat) : ArbOrder :=
  if port < 272 then (if port % 2 = 1 then .arrival else .block)
  else
    match (port - 272) / 4, (port - 272) % 4 with
    | 16, 0 => .slots
    | 16, _ => .cells
    | _, 0 => .classes
    | _, 1 => .turns
    | _, _ => .slots

/-- Whether a best-effort tenure of the port can be revoked. -/
def arbRevocable (port : Nat) : Bool := arbOrder port != .arrival && arbOrder port != .turns

/-- Whether a beat of the port is a slot group of up to 24 packets, and not one packet. -/
def slotGroup (port : Nat) : Bool := arbOrder port == .turns || arbOrder port == .slots

/-! ### What waits -/

/-- R261: a course stop has a combining entry for a snoop, or room for one. -/
def State.combineRoom (s : State) (p : Pkt) : Bool :=
  s.fab.combines.any (fun c => c.snoop.dest == p.dest && c.snoop.line == p.line) ||
    decide ((s.fab.combines.filter (fun c => c.snoop.dest == p.dest)).length < 64)

/-- The packets that can enter a ring at a stop in a direction, with their places among those in flight; a snoop that comes to a brick needs
a combining entry of its course stop (R261). -/
def State.entering (s : State) (ring stop dir : Nat) : List (Nat × Flight) :=
  (s.fab.net.zipIdx.filter (fun x => x.1.entry == some (ring, stop) && ringDir ring stop (s.exitStop ring x.1.origin x.1.pkt) == dir &&
    s.mayPass x.1 && !(x.1.pkt.cls == 2 && decide (ring < 12) && !(s.combineRoom x.1.pkt)))).map (fun x => (x.2, x.1))

/-- The packets that wait for a course direction. -/
def State.crossing (s : State) (b c d : Nat) : List (Nat × Flight) :=
  (s.fab.net.zipIdx.filter (fun x => x.1.courseEntry == some (b, c, d) && s.mayPass x.1)).map (fun x => (x.2, x.1))

/-- What waits at a port. -/
def State.atPort (s : State) (port inst : Nat) : List Flight :=
  match portUse port inst with
  | .entry ring stop (some d) => (s.entering ring stop d).map Prod.snd
  | .entry ring stop none => (s.entering ring stop 0 ++ s.entering ring stop 1).map Prod.snd
  | .course b c => (s.crossing b c 0).map Prod.snd
  | .intake h => s.fab.net.filter (fun f => f.arrived && f.pkt.cls == 3 &&
      f.pkt.dest == unitCode (12 + h / 16) (3 + h % 16 / 8) (h % 8))
  | .unused => []

/-- The source that a packet is at its port (R254): at a block stop the miss queue 0, the writeback queue 1 or the snoop-answer queue 2;
elsewhere the course, the direction of its ejection, or the cell. DEDUCED (log 46): at a course's transmitter the packets that the brick
controller has sent are its source, 2. -/
def Flight.source (f : Flight) : Nat :=
  match f.place with
  | .waiting ring _ =>
    if ring < 12 then
      if (f.pkt.cls = 0 ∧ f.pkt.op = 3) ∨ f.pkt.cls = 1 then 2 else if f.pkt.cls = 3 ∧ f.pkt.op = 4 then 1 else 0
    else unitSub f.pkt.src
  | .ejected ring _ d => if ring < 12 ∧ unitRegion f.pkt.src = ring ∧ unitStop f.pkt.src = 10 then 2 else d
  | .received b _ _ => b % 4
  | .riding _ _ _ _ => 0

/-- The order of a request at a port: the lower goes first. Snoop responses and forwarded data go first at a block stop (R189); the ring
order of the position at the spine stops (R237); at a slice's intake the ring cycle in which the source's first request has come. -/
def State.arbRank (s : State) (port inst : Nat) (r : ArbReq) : Nat :=
  let p : Pkt := { cls := r.cls, op := 1, txn := 0, dest := 0, src := 0, line := 0, standing := r.standing, urgency := r.urgency }
  match arbOrder port with
  | .block => if r.source = 2 then 0 else 8 + p.rank111
  | .arrival => (((s.atPort port inst).filter (fun f => f.source == r.source)).map (fun f => ringCycles f.since)).foldl min (s.cycle (portRing port inst))
  | .classes => r.cls * 8 + p.rank111
  | .turns => 0
  | .slots => s.injectRank 16 (ringPosition (s.ringStamp (portRing port inst))) p
  | .cells => r.cls

/-- A waiting packet as a request at a port. -/
def Flight.req (f : Flight) : ArbReq := ⟨f.source, f.pkt.cls, f.pkt.standing, f.pkt.urgency, false, true⟩

/-- The requests at a port: each source's first, by the port's order. -/
def State.portReqs (s : State) (port inst : Nat) : List ArbReq :=
  let rs := (s.atPort port inst).map Flight.req
  (rs.map ArbReq.source).eraseDups.filterMap (fun i => firstBy (s.arbRank port inst) (rs.filter (fun r => r.source == i)))

/-! ### Tenures (R250 to R253) -/

/-- Among requests of one order: a revoked source first, flagged ones last, then round-robin from the pointer (R21, R252, R253). At a slice's
intake direction 0 comes first (R254). -/
def tieRank (x : Tenure) (port : Nat) (r : ArbReq) : Nat :=
  (if x.revoked.any (fun q => q.1 == r.source) then 0 else if x.flagged.contains r.source then 2 else 1) * 8192 +
    (if arbOrder port = .arrival then r.source else turnRank x.turn r.source)

/-- The winner among requests. -/
def State.arbPick (s : State) (port inst : Nat) (x : Tenure) (rs : List ArbReq) : Option ArbReq :=
  firstBy (fun r => s.arbRank port inst r * 32768 + tieRank x port r) rs

/-- R250 to R252: the next tenure of a port. A hinted source that has nothing to send lapses, and the arbiter decides again. -/
def State.decidePort (s : State) (port inst : Nat) : Nat → List ArbReq → State
  | 0, _ => s.setTenure (8 * port + inst) { s.tenure (8 * port + inst) with holder := none, flagged := [] }
  | n + 1, rs =>
    let x := s.tenure (8 * port + inst)
    match s.arbPick port inst x rs with
    | none => s.setTenure (8 * port + inst) { x with holder := none, flagged := [] }
    | some r =>
      if r.hint ∧ r.ready = false then (s.bump ARB_PORT.HINT_MISSES port).decidePort port inst n (rs.filter (fun y => y.source != r.source))
      else s.setTenure (8 * port + inst) { x with
        holder := some r.source, effort := !r.standing, decided := s.cycle (portRing port inst), beats := 0, inBeat := 0, flagged := [],
        limit := (lookupKey r.source x.revoked).getD (holdLimitReset port), revoked := dropKey r.source x.revoked, turn := r.source + 1 }

/-- The beats at which a tenure ends: its limit, and HOLD_LIMIT (R250, R253). -/
def State.beatLimit (s : State) (k : Nat) : Nat := min (s.tenure k).limit (s.fld ARB_PORT.HOLD_LIMIT (k / 8))

/-- R250: whether a packet can be sent in a beat of the port's tenure: its source holds it since an earlier ring cycle, and the tenure has a
beat left, or the slot group of the cycle has room. -/
def State.mayBeat (s : State) (k : Nat) (f : Flight) : Bool :=
  let x := s.tenure k
  let now := s.cycle (portRing (k / 8) (k % 8))
  x.holder == some f.source && decide (x.decided < now) &&
    (decide (x.beats < s.beatLimit k) || (slotGroup (k / 8) && x.beatAt == now && decide (0 < x.inBeat) && decide (x.inBeat < 24)))

/-- A packet is sent in a beat of its port's tenure; the packets of one ring cycle are one beat where beats are slot groups. -/
def State.recordBeat (s : State) (k : Nat) : State :=
  let x := s.tenure k
  let now := s.cycle (portRing (k / 8) (k % 8))
  s.setTenure k (if slotGroup (k / 8) ∧ x.beatAt = now ∧ 0 < x.inBeat ∧ x.inBeat < 24 then { x with inBeat := x.inBeat + 1 }
    else { x with beats := x.beats + 1, beatAt := now, inBeat := 1 })

/-! ### What is sent next -/

/-- The packet that a stop injects in a direction, with its place among those in flight: of the sources that may send, the first by the
position; then round-robin over the cells where R254 gives the stop no port, and the oldest of a source (R21, R111, R237). -/
def State.nextInject (s : State) (ring stop dir : Nat) : Option (Nat × Flight) :=
  let pos := ringPosition (s.ringStamp ring)
  match entryKey ring stop dir with
  | some k => firstBy (fun x => s.injectRank ring pos x.2.pkt) ((s.entering ring stop dir).filter (fun x => s.mayBeat k x.2))
  | none => firstBy (fun x => s.injectRank ring pos x.2.pkt * 8192 + turnRank (s.turn (6000 + 2 * (16 * ring + stop) + dir)) x.2.source)
      (s.entering ring stop dir)

/-- The turn of a course's transmitter on the keystone side, which R254 gives no port. -/
def sendKey (b c : Nat) : Nat := 7000 + 4 * b + c

/-- The packet that a course carries next in a direction: toward the keystone under the tenure of its transmitter (R237, R254), else in turn
among equals (R21). -/
def State.nextSent (s : State) (b c d : Nat) : Option (Nat × Flight) :=
  firstBy (fun x => s.flitRank b c d x.2.pkt * 8192 + turnRank (s.turn (sendKey b c)) x.2.source) ((s.crossing b c d).filter (fun x => d != 0 || s.mayBeat (courseKey b c) x.2))

end Sys2Proof.Machine
end

