-- ==== Sys2Proof/Machine/RingRows.lean ====
section
/-! DEFINITION. The rings' slots (R236 to R244, R261), the checks of packets (R249), and the arbiters of shared ports (R250 to R254). -/

namespace Sys2Proof.Machine

/-! ### Arrival at a stop -/

/-- Whether a packet is a snoop on the ring of the brick that it asks (R261). -/
def Pkt.snoops (p : Pkt) (ring : Nat) : Bool := p.cls == 2 && decide (ring < 12) && unitRegion p.dest == ring

/-- The ring, stop, direction and lane at which a riding packet comes to a stop in this ring cycle. -/
def State.atStop (s : State) (f : Flight) : Option (Nat × Nat × Nat × Nat) :=
  match s.rideSlot f with
  | some (ring, x, d, l) => if ringCycles f.since < s.cycle ring then some (ring, x, d, l) else none
  | none => none

/-- The stop, direction and lane at which a riding packet arrives in this ring cycle and has something to do there: its exit, or a block
whose answer a snoop asks for (R242, R261). -/
def State.arrival (s : State) (f : Flight) : Option (Nat × Nat × Nat) :=
  match s.atStop f with
  | none => none
  | some (ring, x, d, l) =>
    if (if f.pkt.snoops ring then decide (x < 6) && f.pkt.operand.testBit x else decide (x = s.exitStop ring f.origin f.pkt))
    then some (x, d, l) else none

/-- The packets that arrive at a stop of a ring in a direction in this cycle, with their places among those in flight. -/
def State.arriving (s : State) (ring stop dir : Nat) : List (Nat × Flight) :=
  (s.fab.net.zipIdx.filter (fun x => (s.rideSlot x.1).map Prod.fst == some ring &&
    (match s.arrival x.1 with
      | some a => a.1 == stop && a.2.1 == dir
      | none => false))).map (fun x => (x.2, x.1))

/-! ### Injection (R236, R237, R239) -/

/-- The claims on a direction of a ring. -/
def State.claims (s : State) (ring dir : Nat) : List Claim := nget s.fab.claims (2 * ring + dir) []

/-- The ring cycles that a claim of stop `a` takes to a stop: one for each stop on the way against the direction (R239). -/
def claimTime (ring dir a stop : Nat) : Nat := if dir = 0 then hops ring stop a else hops ring a stop

/-- Whether the claim of another stop keeps a stop from injecting in a direction (R239): it has come to the stop, and its drop has not. -/
def State.claimed (s : State) (ring stop dir : Nat) : Bool :=
  (s.claims ring dir).any (fun c =>
    let d := claimTime ring dir c.stop stop
    c.stop != stop && decide (c.since + d ≤ s.cycle ring) && c.drop.all (fun x => decide (s.cycle ring < x + d)))

/-- R239: a stop asserts a claim; those whose drop is on its way stay until it has gone round. -/
def State.assertClaim (s : State) (ring stop dir : Nat) : State :=
  let cs := (s.claims ring dir).filter (fun c => c.drop.any (fun x => decide (s.cycle ring < x + 12)))
  { s with fab := { s.fab with claims := nput s.fab.claims (2 * ring + dir) (⟨stop, s.cycle ring, none⟩ :: cs) } }

/-- R239: a stop drops the claim that it has on a direction. -/
def State.dropClaim (s : State) (ring stop dir : Nat) : State :=
  if (s.claims ring dir).any (fun c => c.stop == stop && c.drop.isNone) then
    ({ s with fab := { s.fab with claims := nput s.fab.claims (2 * ring + dir) ((s.claims ring dir).map (fun c =>
        if c.stop = stop ∧ c.drop.isNone then { c with drop := some (s.cycle ring) } else c)) } } : State).setTurn (2 * ring + dir) stop
  else s

/-- The course stop's combining entry for a snoop (R261). -/
def State.openCombine (s : State) (p : Pkt) : State :=
  if s.fab.combines.any (fun c => c.snoop.dest == p.dest && c.snoop.line == p.line) then s
  else { s with fab := { s.fab with combines := s.fab.combines ++ [⟨unitRegion p.dest, p, onesBelow p.operand 6, 0⟩] } }

/-- The events and counts of an injection. -/
def State.countInject (s : State) (ring : Nat) (p : Pkt) : State :=
  let e : CountEvt := { code := 0x201, world := some p.world, tag := some p.tag, master := some p.src }
  if ring < 16 then
    let s := s.count (regionBank ring) e
    if p.standing ∧ s.guaranteed ring (ringPosition (s.ringStamp ring)) then s.count (regionBank ring) { e with code := 0x202 } else s
  else s

/-- A stop injects a packet into a lane: the claim it had in the direction drops. -/
def State.inject (s : State) (ring stop dir lane i : Nat) (f : Flight) : State :=
  let p := { s.onPath f.origin f.pkt with circuits := 0, pinned := false }
  let s := s.countInject ring p
  let s := match entryKey ring stop dir with
    | some k => s.recordBeat k
    | none => s.setTurn (6000 + 2 * (16 * ring + stop) + dir) f.source
  let s := if p.cls = 2 ∧ ring < 12 then s.openCombine p else s
  let s := s.dropClaim ring stop dir
  let s := s.takeAt i
  { s with fab := { s.fab with net := s.fab.net ++ [⟨p, .riding ring stop dir lane, s.ringStamp ring, f.origin, f.flips, f.via⟩] } }

/-- PACKET_INJECT (R236, R237): a stop that has no packet still to eject from a direction injects into an empty slot of it. -/
def execPacketInject (t : Stamp) (ring : Nat) (stop : Nat) (dir : Nat) (s : State) : Res :=
  live t s (fun s =>
    match s.freeLane ring stop dir, s.nextInject ring stop dir with
    | some l, some (i, f) => if s.claimed ring stop dir ∨ (s.arriving ring stop dir).isEmpty = false then s else s.inject ring stop dir l i f
    | _, _ => s)

/-- Whether a stop's head packet in a direction has waited STARVE_LIMIT ring cycles. -/
def State.starved (s : State) (ring stop dir : Nat) : Bool :=
  (s.nextInject ring stop dir).any (fun x => decide (s.fld RING_CTRL.STARVE_LIMIT ring ≤ s.cycle ring - ringCycles x.2.since))

/-- R239: whether a stop's claim can be active: the direction has none, or one asserted in this cycle that comes after the stop's in the
order of R21. -/
def State.claimOpen (s : State) (ring stop dir : Nat) : Bool :=
  match (s.claims ring dir).find? (fun c => c.drop.isNone) with
  | none => true
  | some x => x.since == s.cycle ring && decide (turnRank (s.turn (2 * ring + dir)) stop < turnRank (s.turn (2 * ring + dir)) x.stop)

/-- STARVE_CLAIM (R239): a stop whose head packet has waited STARVE_LIMIT ring cycles asserts a claim, if the direction has none. -/
def execStarveClaim (t : Stamp) (ring : Nat) (stop : Nat) (dir : Nat) (s : State) : Res :=
  live t s (fun s =>
    if ring < 17 ∧ dir < 2 ∧ s.starved ring stop dir ∧ s.claimOpen ring stop dir then
      let s := (s.assertClaim ring stop dir).bump RING_STOP_CNT.CLAIMS (16 * ring + stop)
      if ring < 16 then s.count (regionBank ring) { code := 0x205 } else s
    else s)

/-! ### Ejection (R242, R243) -/

/-- The entries of an ejection buffer (R240). -/
def bufferSize (ring : Nat) : Nat := if ring < 12 then 16 else 64

/-- The free entries of an ejection buffer that are not reserved; those of a block's snoop queue of 16 for the snoops that ask it (R241,
R261). -/
def State.bufferFree (s : State) (ring stop cls : Nat) : Nat :=
  (if cls = 2 ∧ ring < 12 ∧ stop < 6 then 16 - (s.fab.snoops.filter (fun q => q.1 == 6 * ring + stop)).length
  else bufferSize ring - (s.fab.net.filter (fun f => (match f.place with
    | .ejected r x _ => r == ring && x == stop
    | _ => false) && f.pkt.cls == cls)).length) - (s.pinned (pinKey ring stop (4 + cls))).length

/-- R247: the opcodes of a class. -/
def opcodeKnown (cls op : Nat) : Bool :=
  match cls with
  | 0 => [1, 2, 3, 4, 5, 6, 15].contains op
  | 1 => [1, 2, 3, 4].contains op
  | 2 => [1, 2, 3, 4].contains op
  | 3 => [1, 2, 3, 4, 8, 9, 10, 0x10, 0x11, 0x18, 0x19].contains op
  | _ => false

/-- R243: a packet that has passed its destination 8 times is pinned, if its class's queue has room; a free entry is reserved at once. The
queue holds a packet until it ejects. -/
def State.pin (s : State) (ring stop : Nat) (p : Pkt) : Pkt × State :=
  let k := pinKey ring stop p.cls
  let queued := (s.pinned k).length + (s.pinned (pinKey ring stop (4 + p.cls))).length
  let me := (p.src, p.txn)
  if p.circuits < 8 ∨ (s.pinned k).contains me ∨ (s.pinned (pinKey ring stop (4 + p.cls))).contains me ∨ 32 ≤ queued then (p, s)
  else
    let room := s.bufferFree ring stop p.cls
    let s := (s.setPinned k (s.pinned k ++ [me])).bump RING_STOP_CNT.PINS (16 * ring + stop)
    let s := s.set RING_STOP_CNT.PIN_PEAK (16 * ring + stop) (max (s.fld RING_STOP_CNT.PIN_PEAK (16 * ring + stop)) (queued + 1))
    let s := if ring < 16 then s.count (regionBank ring) { code := 0x204 } else s
    ({ p with pinned := true }, if 0 < room then s.reserveEntry ring stop p.cls else s)

/-- The packets a stop can eject per direction in a cycle (R242). -/
def ejectPort (ring : Nat) : Nat := if ring < 12 then 1 else 8

/-- What a stop has ejected from a direction in this cycle, and the lane after the last one's. -/
def State.ejected (s : State) (ring stop dir : Nat) : Nat × Nat :=
  match lookupKey (ring, 2 * stop + dir) s.fab.ejects with
  | some x => (if x.1 = s.cycle ring then x.2.1 else 0, x.2.2)
  | none => (0, 0)

/-- The order in which a stop takes the packets that arrive in a direction (R242): pinned ones first, then lanes in round-robin order. -/
def State.ejectRank (s : State) (ring stop dir : Nat) (f : Flight) : Nat :=
  (if f.pkt.pinned then 0 else 4096) + (match f.place with
    | .riding _ _ _ l => (l + ringLanes ring - (s.ejected ring stop dir).2) % ringLanes ring
    | _ => 0)

/-- A packet ejects into its class's buffer; a request to a controller takes an entry of its queue as soon as there is one, and a forwarded
packet at the cell of its link leaves by it (R293). -/
def State.eject (s : State) (i ring stop dir lane : Nat) (f : Flight) : State :=
  let k4 := pinKey ring stop (4 + f.pkt.cls)
  let s := if f.pkt.pinned then s.setPinned k4 ((s.pinned k4).erase (f.pkt.src, f.pkt.txn)) else s
  let n := (s.ejected ring stop dir).1 + 1
  let s : State := { s with fab := { s.fab with
    net := s.fab.net.set i { f with place := .ejected ring stop dir, since := s.ringStamp ring },
    ejects := putBy pairLt (ring, 2 * stop + dir) (s.cycle ring, n, (lane + 1) % ringLanes ring) s.fab.ejects } }
  match f.via with
  | some v => if unitRegion f.pkt.dest = ring then (s.takeAt i).leaveBy v f.pkt else s
  | none =>
    if f.pkt.toMc ∧ unitRegion f.pkt.dest = ring then
      match s.mcOf f.pkt.line with
      | some c => s.fillQueue (queueOf c)
      | none => s
    else s

/-- A packet rides past its destination stop: a deflection (R242, R243). -/
def State.deflect (s : State) (i ring stop dir lane : Nat) (f : Flight) : State :=
  let s := s.bump RING_STOP_CNT.DEFLECTIONS (16 * ring + stop)
  let s := if ring < 16 then s.count (regionBank ring) { code := 0x203 } else s
  let q := s.pin ring stop { f.pkt with circuits := min 8 (f.pkt.circuits + 1) }
  { q.2 with fab := { q.2.fab with net := q.2.fab.net.set i { f with pkt := q.1, place := .riding ring stop dir lane, since := s.ringStamp ring } } }

/-- R241 and R261: a block copies a snoop into its snoop queue of 16 entries and clears its bit; with the last bit the snoop leaves the ring.
With no entry for it the snoop keeps circulating under R242 and R243. -/
def State.copySnoop (s : State) (i ring stop dir lane : Nat) (f : Flight) : State :=
  let me := (f.pkt.src, f.pkt.txn)
  let k4 := pinKey ring stop (4 + f.pkt.cls)
  let reserved := (s.pinned k4).contains me
  if reserved = false ∧ ((s.pinned (pinKey ring stop f.pkt.cls)).contains me ∨ s.bufferFree ring stop f.pkt.cls = 0) then
    s.deflect i ring stop dir lane f
  else
    let s := if reserved then s.setPinned k4 ((s.pinned k4).erase me) else s
    let left := withoutBit f.pkt.operand stop
    let s : State := { s with fab := { s.fab with snoops := s.fab.snoops ++ [(6 * ring + stop, { f.pkt with circuits := 0, pinned := false })] } }
    if left % 64 = 0 then s.takeAt i
    else
      let g := { f with pkt := { f.pkt with operand := left }, place := .riding ring stop dir lane, since := s.ringStamp ring }
      { s with fab := { s.fab with net := s.fab.net.set i g } }

/-- A packet at its exit: it ejects if its class's buffer has an entry for it and the port has room (R242, R243). -/
def State.arrive (s : State) (i : Nat) (f : Flight) (ring stop dir lane : Nat) : State :=
  let p := f.pkt
  let reserved := (s.pinned (pinKey ring stop (4 + p.cls))).contains (p.src, p.txn)
  if (s.ejected ring stop dir).1 < ejectPort ring ∧ (if p.pinned then reserved else decide (0 < s.bufferFree ring stop p.cls))
  then s.eject i ring stop dir lane f
  else s.deflect i ring stop dir lane f

/-! ### Checks (R249, R266) -/

/-- The collector of a ring's faults: its region's. DESIGN CHOICE (log 46): R367 gives the chip no such source, so a fault of the spine ring
at a stop is that of the stop's quadrant, or of the quadrant of the course to its chip block. -/
def ringColl (ring stop : Nat) : Coll := .region (if ring < 16 then ring else if stop < 4 then 12 + stop else 12 + (stop - 4) / 2)

/-- A single-bit error of a header is corrected: RING_STATUS counts it. -/
def State.correctedHeader (s : State) (ring stop : Nat) : State :=
  (s.bumpSat RING_STATUS.HDR_CORRECTED ring 1).raise { coll := ringColl ring stop, bit := 8 }

/-- R249: what arrives of a packet on whose header and data words bits have flipped: single-bit errors are corrected, a double-bit error in
a data word sets POISON; none where the header has a double-bit error. -/
def State.checked (s : State) (ring stop : Nat) (p : Pkt) (herr : Nat) (derr : List Nat) : Option Pkt × State :=
  match p.headerAfter herr with
  | none => (none, s.raise { coll := ringColl ring stop, bit := 9 })
  | some (h, fixed) =>
    let s := if fixed then s.correctedHeader ring stop else s
    let q := { headerOf h p.data with pkg := p.pkg, issued := p.issued }
    let d := unitAfter p.data derr
    if p.data.length ≠ 64 ∨ derr.all (fun e => e == 0) then (some q, s)
    else
      (some { q with data := d.1, poison := q.poison || d.2.2 },
        if 0 < d.2.1 ∨ d.2.2 then s.raise { coll := ringColl ring stop, bit := 8, addr := 64 * p.line } else s)

/-- The bits of a packet's data words that have flipped, with those of `e`. -/
def Flight.flipped (f : Flight) (e : List Nat) : List Nat :=
  let x := (List.range 8).map (fun i => f.flips.getD i 0 ^^^ e.getD i 0)
  if x.all (fun v => v == 0) then [] else x

/-- A packet that has been checked where it arrives: at its exit, or at a block that it snoops. -/
def State.arrivedAt (s : State) (i ring stop dir lane : Nat) (f : Flight) : State :=
  if unitRegion f.pkt.dest = ring ∧ opcodeKnown f.pkt.cls f.pkt.op = false then (s.takeAt i).raise { coll := ringColl ring stop, bit := 10 }
  else if f.pkt.snoops ring then s.copySnoop i ring stop dir lane f else s.arrive i f ring stop dir lane

/-- PACKET_ARRIVAL (R242, R243, R247, R249, R261): a packet comes to a stop, which checks its header; its data words are checked on the
ring of its consumer. Where it leaves its ring, or at a block that it snoops, it is taken when it is its turn among those of its direction.
`upset` are the bits that have flipped since the last stop. -/
def execPacketArrival (t : Stamp) (p : Pkt) (upset : Upset) (s : State) : Res :=
  liveS t s (fun s =>
    match (s.fab.net.findIdx? (fun f => f.pkt == p && (s.arrival f).isSome)).or
        (s.fab.net.findIdx? (fun f => f.pkt == p && (s.atStop f).isSome)) with
    | none => s
    | some i =>
      match s.fab.net[i]? with
      | none => s
      | some f =>
        match s.atStop f with
        | none => s
        | some (ring, stop, dir, lane) =>
          let due := (s.arrival f).isSome
          if due && (s.arriving ring stop dir).any (fun x => decide (s.ejectRank ring stop dir x.2 < s.ejectRank ring stop dir f)) then s
          else
            let last := due && unitRegion p.dest == ring && !(p.snoops ring)
            let e := f.flipped upset.data
            match s.checked ring stop p upset.header (if last then e else []) with
            | (none, s) => s.takeAt i
            | (some q, s) =>
              let f := { f with pkt := q, flips := if last then [] else e }
              if due then s.arrivedAt i ring stop dir lane f
              else { s with fab := { s.fab with net := s.fab.net.set i f } })

/-! ### Arbitration (R250 to R254) -/

/-- R250: the requests that an arbiter decides among: those present, and the hinted sources that have none. -/
def State.allReqs (s : State) (port inst : Nat) (hints : List ArbReq) : List ArbReq :=
  let rs := s.portReqs port inst
  rs ++ (hints.filter (fun h => !(rs.any (fun r => r.source == h.source)))).map (fun h => { h with hint := true })

/-- TENURE_DECISION (R250 to R252): the arbiter of instance `inst` of a port decides the next tenure when the present one has sent its last
beat, among the requests present and the `hints`, of which the sources `idle` have nothing to send when they are granted; or at a beat boundary, where a request of higher order revokes a best-effort tenure: its
source keeps the beats not yet sent. A tenure that has reached HOLD_LIMIT is cut off and not decided here (R253). -/
def execTenureDecision (t : Stamp) (port : Nat) (inst : Nat) (hints : List ArbReq) (idle : List Nat) (s : State) : Res :=
  live t s (fun s =>
    let k := 8 * port + inst
    let x := s.tenure k
    if portUse port inst = .unused ∨ (x.holder.isSome ∧ s.fld ARB_PORT.HOLD_LIMIT port ≤ x.beats) then s
    else
      let rs := s.portReqs port inst
      let all := s.allReqs port inst (hints.map (ArbReq.lapse idle))
      match x.holder.bind (fun h => rs.find? (fun r => r.source == h)) with
      | none => s.decidePort port inst (all.length + 1) all
      | some own =>
        if x.limit ≤ x.beats then s.decidePort port inst (all.length + 1) all
        else if arbRevocable port ∧ x.effort ∧ rs.any (fun r => decide (s.arbRank port inst r < s.arbRank port inst own)) then
          ((s.bump ARB_PORT.REVOKES port).setTenure k { x with revoked := nput x.revoked own.source (x.limit - x.beats) }).decidePort
            port inst (all.length + 1) all
        else s)

/-- HOLD_CUTOFF (R253): a tenure has reached HOLD_LIMIT beats; its holder is flagged and the arbiter decides afresh. -/
def execHoldCutoff (t : Stamp) (port : Nat) (inst : Nat) (hints : List ArbReq) (s : State) : Res :=
  live t s (fun s =>
    let k := 8 * port + inst
    let x := s.tenure k
    match x.holder with
    | none => s
    | some h =>
      if portUse port inst = .unused ∨ x.beats < s.fld ARB_PORT.HOLD_LIMIT port then s
      else
        let all := s.allReqs port inst hints
        ((s.bump ARB_PORT.HOLD_CUTOFFS port).setTenure k { x with flagged := [h] }).decidePort port inst (all.length + 1) all)

end Sys2Proof.Machine
end

