-- ==== Sys2Proof/Machine/SideRows.lean ====
section
/-! DEFINITION. Course flits (R271 to R275), sideband messages (R280 to R284), and the lightbed (R286, R287). -/

namespace Sys2Proof.Machine

/-! ### Course flits -/

/-- Whether two packets are the same on their way: class, opcode, ID, target, source and line. -/
def Pkt.same (p q : Pkt) : Bool :=
  p.cls == q.cls && p.op == q.op && p.txn == q.txn && p.dest == q.dest && p.src == q.src && p.line == q.line

/-- R273: a packet that a flit brings has crossed its course, and waits in the receive buffer; `d` is 0 toward the keystone. It is the one
that the transmitter sends next (R237, R254). -/
def State.offCourse (s : State) (i d : Nat) (p : Pkt) : State :=
  let b := i / 4
  let c := i % 4
  match s.nextSent b c d with
  | none => s
  | some (k, f) =>
    if f.pkt.same p then
      let s := if d = 0 then s.recordBeat (courseKey b c) else s.setTurn (sendKey b c) f.source
      let s := if carriesData p.cls p.op then s.carry (regionBank b) (2 * c + (1 - d)) f.pkt.standing else s
      let s := s.takeAt k
      { s with fab := { s.fab with net := s.fab.net ++
          [⟨{ f.pkt with poison := p.poison, circuits := 0, pinned := false }, .received b c d, s.ringStamp (if d = 0 then 12 + c else b), f.origin, f.flips, f.via⟩] } }
    else s

/-- R237 and R254: the packets that the transmitter of a direction lays into its next flit, at most `n` more, after those of a payload, and
how many they are. -/
def State.layPkts (s : State) (b c d : Nat) : Nat → List Byte × Nat → List Byte × Nat
  | 0, q => q
  | n + 1, q =>
    match s.nextSent b c d with
    | none => q
    | some (k, f) =>
      let bs := q.1 ++ f.pkt.inFlit
      if 502 < bs.length then q
      else State.layPkts ((if d = 0 then s.recordBeat (courseKey b c) else s.setTurn (sendKey b c) f.source).takeAt k) b c d n (bs, q.2 + 1)

/-- R272: the flit that the transmitter of a direction sends next, with an FSEQ: packets, or a control flit where none waits. -/
def State.layFlit (s : State) (i d fseq : Nat) : List Byte :=
  let q := s.layPkts (i / 4) (i % 4) d 33 ([], 0)
  flitBytes (if q.2 = 0 then 2 else 1) fseq (s.courseDir i (1 - d)).ack false q.2 q.1

/-- R272: the FSEQ last sent in a direction, which its idle flits repeat. -/
def FlitDir.lastSent (x : FlitDir) : Nat := (x.sent.getLast?.map (fun f => f.fseq)).getD x.ack

/-- R285: when the NAK of a flit that has failed leaves: at once, or 24 flits later where workaround 0 is applied. -/
def State.nakStamp (s : State) (i : Nat) : Stamp :=
  if (s.fld CHIP_WORKAROUND.ERRATA 0).testBit 0 then s.stb + 24 * (if s.fld CRS_STATUS.WIDTH i = 0 then 8 else 16) else s.stb

/-- R273: the transmitter of a direction sends again what is not acknowledged. -/
def State.replayCourse (s : State) (i d : Nat) : State :=
  (s.courseDir i d).sent.foldl (fun (s : State) f =>
    s.emit .courseFlit [i, d, s.stb] (flitAgain f.bytes (s.courseDir i (1 - d)).ack)) s

/-- R273: a flit fails its CRC: it is discarded, and an idle flit takes NAK back once; the transmitter keeps the flit in its replay buffer.
The eighth failure in succession retires the course (R278). -/
def State.badFlit (s : State) (i d : Nat) (f : List Byte) : State :=
  let x := s.courseDir i d
  if x.raw.isSome ∧ flitField f 2 12 ≠ x.expect then s
  else
    let kept := if x.sent.any (fun g => g.fseq == x.expect) then x.sent else x.sent ++ [⟨x.expect, 0, s.layFlit i d x.expect⟩]
    let s := (s.setDir i d { x with raw := some f, fails := x.fails + 1, sent := kept }).emit .courseFlit [i, 1 - d, s.nakStamp i]
      (flitBytes 0 (s.courseDir i (1 - d)).lastSent x.ack true 0 [])
    if x.fails + 1 < 8 then s
    else
      let q := s.faultAct (newAct 6 (courseUnit i) 0 .silicon)
      q.2.retireCourse i

/-- R274: the lanes on which a failed flit and its replayed copy differ are charged, as the physical lanes that carry them. -/
def State.chargeFlit (s : State) (i d : Nat) (bad good : List Byte) : State :=
  let m := (s.courseDir i d).map
  (lanesDiffering (if s.fld CRS_STATUS.WIDTH i = 0 then 64 else 32) bad good).foldl (fun (s : State) l =>
    match m[l]? with
    | some lane => s.chargeLane i d lane (flitField good 2 12)
    | none => s) s

/-- R273: a good flit is taken in sequence order; its ACK frees the other direction's replay buffer, and a NAK makes that direction replay.
While 256 flits of a direction are not acknowledged, it carries idle flits and replayed ones alone. -/
def State.goodFlit (s : State) (i d : Nat) (f : List Byte) : State :=
  let s := s.setDir i (1 - d) ((s.courseDir i (1 - d)).acked (flitField f 14 12))
  let s := if flitField f 26 1 = 1 then
      ((s.bump CRS_COUNT.REPLAYS i).count (regionBank (i / 4)) { code := 0x209 }).replayCourse i (1 - d)
    else s
  let x := s.courseDir i d
  let again := x.sent.any (fun g => g.fseq == x.expect)
  if flitField f 0 2 = 0 ∨ flitField f 0 2 = 3 ∨ flitField f 2 12 ≠ x.expect ∨ (256 ≤ x.sent.length ∧ again = false) then s
  else
    let kept := if again then x.sent else x.sent ++ [⟨x.expect, 0, f⟩]
    let s := (s.setDir i d { x with raw := none, fails := 0, expect := (x.expect + 1) % 4096, sent := kept }).count (regionBank (i / 4)) { code := 0x208 }
    let s := match x.raw with
      | some r => s.chargeFlit i d r f
      | none => s
    if flitField f 0 2 = 1 then ((flitPkts 0 33 f).map Prod.snd).foldl (fun s p => s.offCourse i d p) s else s

/-- COURSE_FLIT_RECEIVE (R273 to R276): the receiver of direction `d` of course `i` (4 × brick + course) gets a flit of 512 bytes. -/
def execCourseFlitReceive (t : Stamp) (i : Nat) (d : Nat) (f : List Byte) (s : State) : Res :=
  liveS t s (fun s =>
    if 48 ≤ i ∨ 2 ≤ d ∨ f.length ≠ 512 ∨ s.courseUp i = false ∨ (nget s.crs.fenced (i / 4) 0).testBit (i % 4) then s
    else if flitGood f then s.goodFlit i d f else s.badFlit i d f)

/-! ### Sideband messages -/

/-- R280 and R283: the lane that carries what is assigned to a lane: itself, or once it has failed the spare of its direction. -/
def State.laneNow (s : State) (b lane : Nat) : Nat := if (s.fld SB_STATUS.FAILED b).testBit lane then (if lane < 4 then 3 else 7) else lane

/-- R280, R281 and R283: a message that lane `home` is assigned arrives on a lane; `ok` says that its CRC is good and, where workaround 1 of
R285 is applied, its parity. A message on a failed or fenced lane does not arrive; a good one ends a run of dropped messages. -/
def State.message (s : State) (b lane home : Nat) (ok : Bool) (f : State → State) : State :=
  if 12 ≤ b ∨ lane ≠ s.laneNow b home ∨ (s.fld SB_STATUS.FAILED b).testBit lane ∨ (nget s.crs.fenced b 0).testBit 4 ∨ ok = false then s
  else f { s with crs := { s.crs with drops := dropKey (8 * b + lane) s.crs.drops } }

/-- Whether an address lies in the registers of a brick region. -/
def inRegion (b a : Nat) : Bool := decide (0xFFF0000000000 + (b + 1) * 2 ^ 32 ≤ a) && decide (a < 0xFFF0000000000 + (b + 2) * 2 ^ 32)

/-- REGISTER_READ_MESSAGE (R281): message 0x01 at a brick; it answers with message 0x03. -/
def execRegisterReadMessage (t : Stamp) (b : Nat) (lane : Nat) (addr : Nat) (ok : Bool) (s : State) : Res :=
  liveS t s (fun s => s.message b lane 1 ok (fun s =>
    if inRegion b addr ∧ s.brickUp b then
      let r := s.regRead .sideband addr 8
      r.state.sendSide b 3 r.val
    else s))

/-- REGISTER_WRITE_MESSAGE (R281): message 0x02 at a brick: the first carries the address, the next the data. -/
def execRegisterWriteMessage (t : Stamp) (b : Nat) (lane : Nat) (x : Nat) (ok : Bool) (s : State) : Res :=
  liveS t s (fun s => s.message b lane 1 ok (fun s =>
    match lookupKey b s.crs.wrAddr with
    | none => { s with crs := { s.crs with wrAddr := nput s.crs.wrAddr b (x % 2 ^ 52) } }
    | some a =>
      let s : State := { s with crs := { s.crs with wrAddr := dropKey b s.crs.wrAddr } }
      if inRegion b a ∧ s.brickUp b then (s.regWrite .sideband a 8 (x % 2 ^ 64)).state else s))

/-- READ_ANSWER (R281): message 0x03 brings the data of a register read to the keeper. -/
def execReadAnswer (t : Stamp) (b : Nat) (lane : Nat) (x : Nat) (ok : Bool) (s : State) : Res :=
  liveS t s (fun s => s.message b lane 4 ok (fun s => s.emit .regRead [b, x % 2 ^ 64]))

/-- CAPABILITY_REQUEST (R284): message 0x10 at a brick; a die that answers sends messages 0x11 to 0x13. -/
def execCapabilityRequest (t : Stamp) (b : Nat) (lane : Nat) (ok : Bool) (s : State) : Res :=
  liveS t s (fun s => s.message b lane 1 ok (fun s =>
    match s.board.bind (fun x => lookupKey (1 + b) x.dies) with
    | some d =>
      if d.answers then
        ((s.sendSide b 0x11 (s.word .DIE_ID (1 + b) 0).toNat).sendSide b 0x12 (s.word .DIE_CAP (1 + b) 0).toNat).sendSide b 0x13
          (s.word .DIE_ERRATA (1 + b) 0).toNat
      else s
    | none => s))

/-- R35: DIE_CAP of a die of its stepping, with the bits that its fuses leave: B0 lacks bits 12 and 14. -/
def Die.reports (d : Die) (i : Nat) : Nat := (if i = 0 ∨ d.b1 then 0x7FFF else 0x2FFF) &&& d.caps

/-- What a die's registers say of it (R15, R33, R34). -/
def State.setDie (s : State) (i : Nat) (d : Option Die) : State :=
  let s := (s.set DIE_ID.DIE_TYPE i (if i = 0 then 1 else 2)).set DIE_ID.POSITION i (i - 1)
  match d with
  | some d =>
    if d.answers then
      let s := ((s.set DIE_ID.MASK i (if i = 0 then 0 else 1)).set DIE_ID.METAL i (if i = 0 then 2 else flag d.b1)).set DIE_ID.SERIAL i d.serial
      ((s.set DIE_ID.TEST_REV i d.testRev).set DIE_CAP.CAPS i (d.reports i)).set DIE_ERRATA.ERRATA i d.errata
    else s
  | none => s

/-- R284: an answer to the capability request that RESTORE_UNIT has sent: the die's registers say what it brings. -/
def State.noteAnswer (s : State) (b mtype : Nat) (d : Die) : State :=
  match lookupKey b s.crs.asked with
  | none => s
  | some m => ({ s with crs := { s.crs with asked := nput s.crs.asked b (withoutBit m (mtype - 0x11)) } }).setDie (1 + b) (some d)

/-- CAPABILITY_ANSWER (R284): messages 0x11 to 0x13 bring a brick's DIE_ID, DIE_CAP and DIE_ERRATA: what the exchange finds of the die,
on which bringing it up rests (R34, R35, R285), at start and at RESTORE_UNIT. -/
def execCapabilityAnswer (t : Stamp) (b : Nat) (lane : Nat) (mtype : Nat) (x : Nat) (ok : Bool) (s : State) : Res :=
  liveS t s (fun s => s.message b lane 4 ok (fun s =>
    match s.board with
    | none => s
    | some y =>
      let d := (lookupKey (1 + b) y.dies).getD ⟨true, false, 0, 0, 0, 0⟩
      let d := match mtype with
        | 0x11 => { d with answers := true, b1 := bitsOf x 8 4 == 1, serial := bitsOf x 16 32, testRev := bitsOf x 48 8 }
        | 0x12 => { d with caps := x % 2 ^ 15 }
        | 0x13 => { d with errata := x % 8 }
        | _ => d
      ({ s with board := some { y with dies := nput y.dies (1 + b) d } }).noteAnswer b mtype d))

/-- TELEMETRY (R282): message 0x20 brings a brick's power in 1/8 W and its hottest junction; the ceiling assumed for want of it ends. -/
def execTelemetry (t : Stamp) (b : Nat) (lane : Nat) (power : Nat) (junction : Nat) (ok : Bool) (s : State) : Res :=
  liveS t s (fun s => s.message b lane 4 ok (fun s =>
    let s : State := { s with pow := { s.pow with watts := nput s.pow.watts b (power % 65536) },
                              crs := { s.crs with noTele := nput s.crs.noTele b (frameOf s.stb) } }
    let s := s.readJunction b junction
    if (brickDomains b).any (fun d => (s.capOf 3 d).isSome) then s.setCaps 3 (brickDomains b) (fun _ _ => none) true else s))

/-- BUDGET (R282): message 0x21 gives a brick the ceilings of its six block domains, in steps of 25 MHz. -/
def execBudget (t : Stamp) (b : Nat) (lane : Nat) (ceilings : List Nat) (ok : Bool) (s : State) : Res :=
  liveS t s (fun s => s.message b lane 1 ok (fun s =>
    if ceilings.length = 6 then
      let m := (List.range 6).foldl (fun m k => nput m (6 * b + k) (ceilings.getD k 0 % 256)) s.pow.budgets
      ({ s with pow := { s.pow with budgets := m }, crs := { s.crs with noBudget := nput s.crs.noBudget b (frameOf s.stb) } }).set
        SB_STATUS.BUDGET_FALLBACK b 0
    else s))

/-- BUDGET_MISSING (R282): a brick with no budget for 8 frames lowers every block domain to 1.2 GHz. -/
def execBudgetMissing (t : Stamp) (b : Nat) (s : State) : Res :=
  liveS t s (fun s =>
    if b < 12 ∧ s.brickUp b ∧ s.fld SB_STATUS.BUDGET_FALLBACK b = 0 ∧ meridianOf (nget s.crs.noBudget b 0 + 9) ≤ s.stb then
      let m := (brickDomains b).foldl (fun m d => nput m d (min 48 (nget m d 104))) s.pow.budgets
      (({ s with pow := { s.pow with budgets := m } }).set SB_STATUS.BUDGET_FALLBACK b 1).raise { coll := .region b, bit := 23 }
    else s)

/-- TELEMETRY_MISSING (R282, R385): the keystone assumes the ceiling of 1.2 GHz for a brick that has sent no telemetry for 8 frames and whose
region is not OFF, as a trigger. -/
def execTelemetryMissing (t : Stamp) (b : Nat) (s : State) : Res :=
  liveS t s (fun s =>
    if b < 12 ∧ s.brickUp b ∧ s.is PWR_DOMAIN.ON (136 + b) ∧ meridianOf (nget s.crs.noTele b 0 + 9) ≤ s.stb ∧
        (brickDomains b).all (fun d => (s.capOf 3 d).isNone) then
      s.setCaps 3 (brickDomains b) (fun _ _ => some 48) false
    else s)

/-- ERROR_PIN (R358): message 0x30 brings the level of a brick region's error pin to the chip collector. -/
def execErrorPin (t : Stamp) (b : Nat) (lane : Nat) (level : Nat) (ok : Bool) (s : State) : Res :=
  liveS t s (fun s => s.message b lane 5 (ok && decide (level ≤ 4)) (fun s =>
    let s : State := { s with faults := { s.faults with brickPins := nputd s.faults.brickPins b level 0 } }
    let stamp := s.pinStamp b level
    ((s.setBit .chip b (level != 0) stamp).driveAll .chip stamp).checkSafeEnd))

/-- FENCE (R281): message 0x31 fences courses of a brick by their mask, and its sideband. Lane 2 or the spare carries it. -/
def execFence (t : Stamp) (b : Nat) (lane : Nat) (courses : Nat) (sideband : Bool) (ok : Bool) (s : State) : Res :=
  liveS t s (fun s => s.message b lane 2 ok (fun s =>
    { s with crs := { s.crs with fenced := nput s.crs.fenced b ((nget s.crs.fenced b 0 ||| courses % 16) ||| 16 * flag sideband) } }))

/-- REMAP_AGREEMENT (R275): message 0x40: both ends of a course agree on moving a logical lane to a physical lane; a remap that waits is made once
the course may stall. -/
def execRemapAgreement (t : Stamp) (b : Nat) (lane : Nat) (course : Nat) (dir : Nat) (logical : Nat) (phys : Nat) (ok : Bool) (s : State) : Res :=
  liveS t s (fun s => s.message b lane 1 ok (fun s =>
    let i := 4 * b + course
    let due := fun (x : Stall) => x.course == i && (match x.change with
      | .remap d l => d == dir && (s.courseDir i d).map[logical]? == some l && (s.spares i d).head? == some phys
      | .width _ => false)
    match s.crs.stalls.find? due with
    | some x =>
      if s.stalledNow i then s
      else ({ s with crs := { s.crs with stalls := s.crs.stalls.erase x } }).applyStall x
    | none => s))

/-- SIDEBAND_RETRY (R281, R283): a message on a lane has been dropped: it is repeated, up to 4 times; the eighth in succession fails the lane,
whose traffic moves to the spare. A second failed lane of one direction retires the brick; a lane 0 that fails leaves the optical path. -/
def execSidebandRetry (t : Stamp) (b : Nat) (lane : Nat) (s : State) : Res :=
  liveS t s (fun s =>
    if 12 ≤ b ∨ 8 ≤ lane ∨ s.brickUp b = false ∨ (s.fld SB_STATUS.FAILED b).testBit lane then s
    else
      let n := nget s.crs.drops (8 * b + lane) 0 + 1
      if n < 8 then
        let s : State := { s with crs := { s.crs with drops := nput s.crs.drops (8 * b + lane) n } }
        if n % 5 = 0 then s else s.emit .sideband [b, lane]
      else
        let s : State := { s with crs := { s.crs with drops := dropKey (8 * b + lane) s.crs.drops } }
        let old := s.fld SB_STATUS.FAILED b
        let spare := [1, 2, 4, 5].contains lane && !((List.range 4).any (fun k => old.testBit (lane / 4 * 4 + k)))
      let s := (s.set SB_STATUS.FAILED b (withBit old lane)).raise { coll := .region b, bit := 21, action := if spare then 11 else 0 }
        let s := if lane = 0 ∧ s.is STB_REPLICA.PATH b then (s.raise { coll := .region b, bit := 24 }).beginBrick b else s
        if (List.range 4).any (fun k => old.testBit (lane / 4 * 4 + k)) then s.beginBrick b else s)

/-! ### The lightbed -/

/-- LIGHTBED_SOURCE_FAILURE (R287): light of source A (0) or B (1) is below threshold: the other takes over; with both failed every region moves to
the fallback. -/
def execLightbedSourceFailure (t : Stamp) (src : Nat) (s : State) : Res :=
  liveS t s (fun s =>
    if 2 ≤ src ∨ (src = 0 ∧ s.is LB_STATUS.A_FAILED 0) ∨ (src = 1 ∧ s.is LB_STATUS.B_FAILED 0) then s
    else
      let other := if src = 0 then s.is LB_STATUS.B_FAILED 0 else s.is LB_STATUS.A_FAILED 0
      let s := (s.set (if src = 0 then LB_STATUS.A_FAILED else LB_STATUS.B_FAILED) 0 1).raise
        { coll := .chip, bit := 29, action := if other = true ∨ s.fld LB_STATUS.SOURCE 0 = src then 11 else 0 }
      if s.is LB_STATUS.A_FAILED 0 ∧ s.is LB_STATUS.B_FAILED 0 then
        (List.range 16).foldl (fun (s : State) r => if r < 12 ∧ s.brickUp r = false then s else s.toFallback r false) s
      else if s.fld LB_STATUS.SOURCE 0 = src then s.set LB_STATUS.SOURCE 0 (1 - src) else s)

/-- COUPLER_TIME_PATH_LOSS (R287): a coupler's marker is missing at the meridian that opened the frame; after 2 in succession the link's time
marks are unusable, and a discipline by them goes to HOLDOVER (R101). -/
def execCouplerTimePathLoss (t : Stamp) (l : Nat) (s : State) : Res :=
  liveS t s (fun s =>
    if 8 ≤ l then s
    else
      let again := (lookupKey l s.crs.wireLost).any (fun f => f + 1 == frameOf s.stb)
      let s : State := { s with crs := { s.crs with wireLost := nput s.crs.wireLost l (frameOf s.stb) } }
      if again = false ∨ (s.fld LB_STATUS.COUPLER_LOST 0).testBit l then s
      else
        let s := (s.set LB_STATUS.COUPLER_LOST 0 (withBit (s.fld LB_STATUS.COUPLER_LOST 0) l)).set LINK_STATUS.MARKS_OK l 0
        let st := s.fld STB_STATE.STATE 0
        if s.fld STB_STATE.SOURCE 0 = 2 ∧ s.fld STB_STATE.LINK 0 = l ∧ (st = 1 ∨ st = 2) ∧ s.clock.resync.isNone then
          let s := s.set STB_EVT.REF_LOST 0 1
          if s.is STB_STATE.HOLDOVER_EN 0 then (s.setDisc 3).holdTrim else s.discFault
        else s)

end Sys2Proof.Machine
end

