-- ==== Sys2Proof/Machine/FirmOps.lean ====
section
/-! DEFINITION. The boot flash (R430 to R432): its directory, its images and their verification, and staging (R79). -/

namespace Sys2Proof.Machine

/-! ### The flash -/

/-- A byte of the boot flash; an erased one reads 0xFF. -/
def flashByte (f : NMap Byte) (a : Nat) : Byte := nget f a 0xFF

/-- Bytes of the boot flash. -/
def flashBytes (f : NMap Byte) (a n : Nat) : List Byte := (List.range n).map (fun i => flashByte f (a + i))

/-- A number in the boot flash. -/
def flashNat (f : NMap Byte) (a n : Nat) : Nat := leNat (flashBytes f a n)

/-- Writes bytes to the boot flash. -/
def flashWrite (f : NMap Byte) (a : Nat) : List Byte → NMap Byte
  | [] => f
  | b :: r => flashWrite (nputd f a b 0xFF) (a + 1) r

/-- The largest boot image: 56 MiB. -/
def imageMax : Nat := 0x3800000

/-- The offset of a boot image (R430). -/
def imageBase (i : Nat) : Nat := if i = 0 then 0x100000 else 0x3900000

/-- The offset of a directory copy. -/
def dirBase (c : Nat) : Nat := 0x80000 * c

/-- R430: whether a directory copy is valid. -/
def dirValid (f : NMap Byte) (c : Nat) : Bool :=
  flashNat f (dirBase c) 4 == 0x52494442 && crc32c (flashBytes f (dirBase c) 60) == flashNat f (dirBase c + 60) 4

/-- DSEQ of a directory copy. -/
def dirSeq (f : NMap Byte) (c : Nat) : Nat := flashNat f (dirBase c + 4) 8

/-- The valid directory copy with the higher DSEQ. -/
def dirNewer (f : NMap Byte) : Option Nat :=
  match dirValid f 0, dirValid f 1 with
  | true, true => some (if dirSeq f 0 < dirSeq f 1 then 1 else 0)
  | true, false => some 0
  | false, true => some 1
  | false, false => none

/-- R431: PREFERRED, or image 0 where no copy is valid. -/
def preferred (f : NMap Byte) : Nat :=
  match dirNewer f with
  | some c => if flashNat f (dirBase c + 12) 1 = 1 then 1 else 0
  | none => 0

/-- A directory copy's bytes. -/
def dirBytes (dseq image : Nat) : List Byte :=
  let head := leBytes 4 0x52494442 ++ leBytes 8 dseq ++ leBytes 1 image ++ leBytes 47 0
  head ++ leBytes 4 (crc32c head)

/-- R430: FW_ACTIVATE in mode 0 writes the older copy. -/
def dirUpdate (f : NMap Byte) (image : Nat) : NMap Byte :=
  match dirNewer f with
  | some c => flashWrite f (dirBase (1 - c)) (dirBytes (dirSeq f c + 1) image)
  | none => flashWrite f (dirBase 0) (dirBytes 1 image)

/-! ### Images (R432) -/

/-- A field of an image's header. -/
def imgNat (f : NMap Byte) (i off n : Nat) : Nat := flashNat f (imageBase i + off) n

/-- R432: whether an image verifies under the hash of the vendor key fused in the keystone. -/
def imageOk (f : NMap Byte) (hash : List Byte) (i : Nat) : Bool :=
  let len := imgNat f i 8 4
  let key := flashBytes f (imageBase i + 64) 97
  let within := fun (o : Nat) => decide (imgNat f i o 4 + imgNat f i (o + 4) 4 ≤ len)
  imgNat f i 0 4 == 0x4D494342 && imgNat f i 4 2 == 1 && decide (len ≤ imageMax) && decide (256 + 96 ≤ len) &&
    within 16 && within 24 && within 32 && within 56 && Config.sha384 key == hash &&
    Config.p384Verify key (flashBytes f (imageBase i) (len - 96)) (flashBytes f (imageBase i + len - 96) 96)

/-- The image that is not in use. -/
def State.idleImage (s : State) : Nat := 1 - s.fld BOOT_STATUS.IMAGE 0

/-! ### Staging (R79) -/

/-- The staging activity that runs. -/
def State.staging (s : State) : Option Activity := s.fw.staging.bind s.activity

/-- The first chunk starts the activity and erases the image that is not in use. -/
def State.beginStage (s : State) (c : Caller) : Nat × State :=
  let q := s.request (newAct 10 0x00FFFFFF 0 (.mailbox c.box)) false
  if q.status = stOk then
    let base := imageBase s.idleImage
    let flash := q.state.fw.flash.filter (fun x => decide (x.1 < base) || decide (base + imageMax ≤ x.1))
    (stOk, { q.state with fw := { q.state.fw with flash := flash, staging := some q.id, verified := false } })
  else (q.status, q.state)

/-- The chunk of an FW_STAGE: inline, or from local memory. -/
def State.stageData (s : State) (p : List Byte) : List Byte :=
  let n := leAt p 4 4
  if leAt p 8 1 = 0 then (p.drop 24).take n else (s.readNow (leAt p 16 8) n).1

/-- The last chunk: the image is verified, and the activity ends. -/
def State.endStage (s : State) (id : Nat) : Reply :=
  let ok := match s.board with
    | some b => imageOk s.fw.flash b.vendorHash s.idleImage
    | none => false
  let s : State := { s with fw := { s.fw with staging := none, verified := ok } }
  if ok then .ok (s.closeAct id 2 stOk) else .no (s.closeAct id 4 stAuthFail) stAuthFail

/-- FW_STAGE (R79). A chunk in memory is read by the keeper (R109, R311). -/
def cmdFwStage (c : Caller) (p : List Byte) (s : State) : Reply :=
  let n := leAt p 4 4
  let mem := leAt p 8 1 == 1
  let fl := leAt p 9 1
  let last := if mem then 2 ^ 20 else 200
  let addr := leAt p 16 8
  paramChecks s [(0, decide (imageMax < leAt p 0 4 + n)), (4, n == 0 || decide (last < n)), (8, decide (1 < leAt p 8 1)),
      (9, decide (3 < fl) || (!(fl.testBit 0) && s.staging.isNone)), rsv p 10 6,
      (16, mem && !((List.range (ceilDiv (addr % 64 + n) 64)).all (fun i => s.populated (addr / 64 * 64 + 64 * i))))] fun _ =>
    let q := if fl.testBit 0 then s.beginStage c else (stOk, s)
    if q.1 ≠ stOk then .no s q.1
    else
      let s := q.2
      let flash := flashWrite s.fw.flash (imageBase s.idleImage + leAt p 0 4) (s.stageData p)
      let s := if mem then s.traffic (keeperTraffic (s.addrSecure addr)) false addr n else s
      let s : State := { s with fw := { s.fw with flash := flash } }
      match s.fw.staging with
      | some id => if fl.testBit 1 then s.endStage id else .ok s
      | none => .ok s

/-- FW_ACTIVATE (R79): in mode 1 the keeper restarts into the staged image, with cause 1, once the commands in progress are finished. -/
def cmdFwActivate (_ : Caller) (p : List Byte) (s : State) : Reply :=
  paramChecks s [(0, decide (1 < leAt p 0 1)), rsv p 1 7] fun _ =>
    if s.fw.verified = false then .no s stNotFound
    else if leAt p 0 1 = 0 then .ok { s with fw := { s.fw with flash := dirUpdate s.fw.flash s.idleImage } }
    else
      .later { s with keeper := { s.keeper with activate := some (s.idleImage, imgNat s.fw.flash s.idleImage 12 4) } }

end Sys2Proof.Machine
end

