-- ==== Sys2Proof/Machine/WorldRows.lean ====
section
/-! DEFINITION. The rows of worlds (R314, R315), of first-touch pools (R215), of debug (R78, R328, R329) and of firmware (R79). -/

namespace Sys2Proof.Machine

/-! ### Tiles (R314) -/

/-- Whether a tile belongs to an engine's private range. -/
def State.tilePrivate (s : State) (lo hi : Nat) : Bool :=
  (List.range 16).any (fun e => s.is IEC_RANGE.VALID e &&
    (tilesOf (s.fld IEC_RANGE.BASE e * 0x200000) (0x200000 * 2 ^ s.fld IEC_RANGE.SIZE e)).any (fun t => decide (lo ≤ t) && decide (t < hi)))

/-- SET_WORLD_TILES (R314): it ends once the transactions that are open in its tiles have finished; a record of the site image ends at once. -/
def cmdSetWorldTiles (c : Caller) (p : List Byte) (s : State) : Reply :=
  let first := leAt p 0 4
  let n := leAt p 4 4
  paramChecks s [(0, decide (2097151 < first)), (4, n == 0 || decide (2097152 < first + n)), (8, decide (1 < leAt p 8 1)), rsv p 9 7,
      (0, s.tilePrivate first (first + n))] fun _ =>
    if c.cmd.isSome && s.tilesBusy first (first + n) then ⟨none, s⟩ else .ok (s.changeTiles p)

/-! ### Blocks (R315) -/

/-- The cores of a block leave their groups. -/
def State.blockLeaves (s : State) (bb : Nat) : State := (blockCores bb).foldl State.leaveGroup s

/-- R315, steps 2 to 4: the block's caches are emptied, its world changes, its interrupt files are cleared, and its cores start at their
reset vector. -/
def State.moveBlock (s : State) (bb : Nat) (secure : Bool) : State :=
  let s := (blockCores bb).foldl State.unpairCore (s.blockLeaves bb)
  let s : State := { s with units := { s.units with testing := s.units.testing.filter (fun c => c / 4 != bb) } }
  let s := s.flushBlock bb
  let i := 8 * (bb / 6) + bb % 6
  let s := (s.domainUp i).set WLD_BLK_STATE.WORLD i (flag secure)
  let s : State := { s with imsic := s.imsic.filter (fun q => q.1 / 4 != bb) }
  (blockCores bb).foldl (fun (s : State) c =>
    if s.coreUp c then (s.setRun c CoreRun.idle).startCore c (s.is CORE_PWR.CLK_SRC c)
    else s.set MWORLD.BLOCK_WORLD c (flag secure)) s

/-- SET_BLOCK_WORLD. -/
def cmdSetBlockWorld (_ : Caller) (p : List Byte) (s : State) : Reply :=
  let b := (unitRef (leAt p 0 4)).bind UnitRef.coreBlock
  let bb := b.getD 72
  paramChecks s [(0, b.isNone || (blockCores bb).any (fun c => s.is DSP_CORE.HOLDING c)), (4, decide (1 < leAt p 4 1)), rsv p 5 3] fun _ =>
    let after := s.blockLeaves bb
    let groups := ((blockCores bb).filter (fun c => s.is DSP_CORE.IN_GROUP c)).map (fun c => 116 + s.fld DSP_CORE.GROUP c)
    if State.wouldRevoke after groups then .no s stInsufficient
    else .ok (s.moveBlock bb (leAt p 4 1 == 1))

/-! ### Pools (R215) -/

/-- Whether every granule of a run is populated. -/
def State.allPopulated (s : State) (base len : Nat) : Bool := (List.range (ceilDiv len 4096)).all (fun i => s.populated (base + 4096 * i))

/-- Whether a run of frames is Memory of a node. -/
def State.onNode (s : State) (base len node : Nat) : Bool :=
  match slotAt base with
  | some (n, o) => n == node && decide (o + len ≤ s.nodeBytes n) && s.allPopulated base len
  | none => false

/-- POOL_GRANT (R69, R215). A pool and a node are objects of no port (R61). -/
def cmdPoolGrant (c : Caller) (p : List Byte) (s : State) : Reply :=
  let k := leAt p 0 1
  let w := leAt p 1 1
  let node := leAt p 2 1
  let size := if leAt p 3 1 = 1 then 0x200000 else 4096
  let base := leAt p 8 8
  let len := leAt p 16 8
  paramChecks s [(0, decide (63 < k)), (1, decide (1 < w)), (2, decide (7 < node)), (3, decide (1 < leAt p 3 1)), rsv p 4 4,
      (8, base % size != 0), (16, len % size != 0)] fun _ =>
    let holds := s.poolFree k != 0
    if (s.boxPort c.box).isSome ∨ (c.secure = false ∧ (w = 1 ∨ s.is POOL_STATE.WORLD k)) then .no s stDeniedWorld
    else if holds ∧ s.fld POOL_STATE.WORLD k ≠ w then .bad s 1
    else if holds ∧ s.fld POOL_STATE.NODE k ≠ node then .bad s 2
    else if holds ∧ s.fld POOL_STATE.FSIZE k ≠ leAt p 3 1 then .bad s 3
    else if len = 0 then .ok (s.setPool k ⟨[], []⟩)
    else if 8 ≤ (s.pool k).ranges.length then .bad s 0
    else if !(s.onNode base len node) then .bad s 8
    else if !(s.rangeWorld base len (w == 1)) then (if c.secure = false ∧ w = 0 then .no s stDeniedWorld else .bad s 8)
    else
      let s := ((s.set POOL_STATE.WORLD k w).set POOL_STATE.NODE k node).set POOL_STATE.FSIZE k (leAt p 3 1)
      let x := s.pool k
      .ok (s.setPool k { x with ranges := x.ranges ++ [⟨base, base + len⟩] })

/-- SET_WORLD_TILES (R314). -/
def execSetWorldTiles (t : Stamp) (m : Nat) (s : State) : Res := rowCommand t m 0x0400 cmdSetWorldTiles s
/-- SET_BLOCK_WORLD (R315). -/
def execSetBlockWorld (t : Stamp) (m : Nat) (s : State) : Res := rowCommand t m 0x0401 cmdSetBlockWorld s
/-- POOL_GRANT (R215). -/
def execPoolGrant (t : Stamp) (m : Nat) (s : State) : Res := rowCommand t m 0x0402 cmdPoolGrant s

/-! ### Debug (R78, R328, R329) -/

/-- R78: `n` free bytes, a challenge's. -/
def challengeBytes : Nat → State → List Byte × State
  | 0, s => ([], s)
  | n + 1, s =>
    let q := challengeBytes n s.free.2
    (BitVec.ofNat 8 s.free.1 :: q.1, q.2)

/-- R78: whether DEBUG_AUTH is locked. -/
def State.debugLocked (s : State) : Bool := decide (s.stb < s.dbg.lockEnd)

/-- The checks of the fields that both forms of DEBUG_AUTH share. -/
def authChecks (p : List Byte) : List (Nat × Bool) :=
  [(0, decide (1 < leAt p 0 1)), (1, decide (1 < leAt p 1 1)), (2, decide (3 < leAt p 2 1)), rsv p 3 1, (4, (unitRef (leAt p 4 4)).isNone)]

/-- R61: whether a mailbox may not name a unit: one that is not its port from an endpoint path, a secure core or core block from the normal
world. -/
def State.outOfPath (s : State) (c : Caller) (unit : Nat) : Bool :=
  (match s.boxPort c.box with
  | some q => unitPort unit != some q
  | none => false) || (!c.secure && s.unitSecure unit)

/-- DEBUG_AUTH fails; FLT_SECURE.AUTH_FAIL records it. -/
def State.authRefused (s : State) : Reply := .no (s.noteSecure FLT_SECURE.AUTH_FAIL) stAuthFail

/-- DEBUG_AUTH with SUBOP 0: a challenge. -/
def cmdAuthChallenge (c : Caller) (p : List Byte) (s : State) : Reply :=
  paramChecks s (authChecks p) fun _ =>
    if s.outOfPath c (leAt p 4 4) then .no s stDeniedWorld
    else if s.debugLocked then s.authRefused
    else
      let q := challengeBytes 32 s
      .ok { q.2 with dbg := { q.2.dbg with challenge := some (q.1, s.stb) } } q.1

/-- R78: whether a response is good: it echoes the challenge within 10 s, signed with the world's debug key (log 10). -/
def State.authGood (s : State) (p : List Byte) : Bool :=
  match s.dbg.challenge, lookupKey (leAt p 1 1) s.dbg.keys with
  | some (c, t0), some key =>
    (p.drop 8).take 32 == c && decide (s.stb < t0 + msTicks 10000) &&
      Config.p384Verify key (c ++ (p.drop 1).take 2 ++ (p.drop 4).take 4) ((p.drop 40).take 96)
  | _, _ => false

/-- R78: a failure; the third within 60 s locks DEBUG_AUTH for 10 minutes. -/
def State.authFailed (s : State) : State :=
  let fails := s.dbg.fails.filter (fun x => decide (s.stb < x + msTicks 60000)) ++ [s.stb]
  { s with dbg := { s.dbg with fails := if 3 ≤ fails.length then [] else fails,
                               lockEnd := if 3 ≤ fails.length then s.stb + msTicks 600000 else s.dbg.lockEnd } }

/-- DEBUG_AUTH with SUBOP 1: a response sets the kinds it names and replaces the world's SCOPE. -/
def cmdAuthResponse (c : Caller) (p : List Byte) (s : State) : Reply :=
  paramChecks s (authChecks p) fun _ =>
    if s.outOfPath c (leAt p 4 4) then .no s stDeniedWorld
    else if s.debugLocked then s.authRefused
    else if !(s.authGood p) then s.authFailed.authRefused
    else
      let w := leAt p 1 1
      let kind := leAt p 2 1
      let s := (s.svc.runs.map Prod.fst).foldl State.settleHeld s
      let s := if kind.testBit 0 then s.set WLD_DEBUG.INVASIVE w 1 else s
      let s := if kind.testBit 1 then s.set WLD_DEBUG.NONINVASIVE w 1 else s
      .ok (s.set WLD_DEBUG.SCOPE w (leAt p 4 4))

/-- DEBUG_REVOKE (R328): clears the kinds it names; harts halted in the world go on (R329). -/
def cmdDebugRevoke (c : Caller) (p : List Byte) (s : State) : Reply :=
  let w := leAt p 0 1
  let kind := leAt p 1 1
  paramChecks s [(0, decide (1 < w)), (1, decide (3 < kind)), rsv p 2 2, (4, (unitRef (leAt p 4 4)).isNone)] fun _ =>
    if (w = 1 ∧ c.secure = false) ∨ s.outOfPath c (leAt p 4 4) then .no s stDeniedWorld
    else
      let s := (s.svc.runs.map Prod.fst).foldl State.settleHeld s
      let s := if kind.testBit 1 then s.set WLD_DEBUG.NONINVASIVE w 0 else s
      if kind.testBit 0 then
        let s := s.set WLD_DEBUG.INVASIVE w 0
        .ok (((s.harts.filter (fun q => q.2.halted && flag (s.hartSecure q.1) == w)).map Prod.fst).foldl State.resumeHart s)
      else .ok s

/-- DEBUG_AUTH_CHALLENGE (R78). -/
def execDebugAuthChallenge (t : Stamp) (m : Nat) (s : State) : Res :=
  liveS t s (runCommand m 0x0C00 (fun p => leAt p 0 1 != 1) cmdAuthChallenge)
/-- DEBUG_AUTH_RESPONSE (R78). -/
def execDebugAuthResponse (t : Stamp) (m : Nat) (s : State) : Res :=
  liveS t s (runCommand m 0x0C00 (fun p => leAt p 0 1 == 1) cmdAuthResponse)
/-- DEBUG_REVOKE (R328, R329). -/
def execDebugRevoke (t : Stamp) (m : Nat) (s : State) : Res := rowCommand t m 0x0C01 cmdDebugRevoke s

/-- DEBUG_HALT_REQUEST (R329, R381): a halt request of a hart stays pending until it applies; a pair halts as one hart (R191). -/
def execDebugHaltRequest (t : Stamp) (h : Nat) (s : State) : Res :=
  liveS t s (fun s =>
    if 288 ≤ h ∨ s.coreUp h = false ∨ (s.hart h).halted then s
    else
      let k := if s.fld CORE_PAIR.STATE h = 3 then s.fld CORE_PAIR.PARTNER h else h
      s.setHart k { s.hart k with haltPend := true })

/-! ### Firmware (R79) -/

/-- FW_STAGE (R79). -/
def execFwStage (t : Stamp) (m : Nat) (s : State) : Res := rowCommand t m 0x0D00 cmdFwStage s
/-- FW_ACTIVATE (R79). -/
def execFwActivate (t : Stamp) (m : Nat) (s : State) : Res := rowCommand t m 0x0D01 cmdFwActivate s

end Sys2Proof.Machine
end

