-- ==== Sys2Proof/Machine/StartRows.lean ====
section
/-! DEFINITION. START_UP (R428 to R434): the image chosen, the site image's records in their three passes (R81 to R84), the bricks, the
memory, the engines and the cores. The steps of R433 are taken at once, at the stamp of step 9 (log 12). -/

namespace Sys2Proof.Machine

/-! ### The boot image (R431) -/

/-- The image that the boot ROM takes, and whether it is the fallback; none where no image verifies. -/
def chooseImage (b : Board) : Option (Nat × Bool) :=
  let ok := imageOk b.flash b.vendorHash
  if b.imgForce = 1 ∨ b.imgForce = 2 then (if ok (b.imgForce - 1) then some (b.imgForce - 1, false) else none)
  else
    let i := preferred b.flash
    if ok i then some (i, false) else if ok (1 - i) then some (1 - i, true) else none

/-! ### The site image (R81 to R84) -/

/-- A record of a site image: its index, opcode and payload. -/
structure SiteRec where
  index : Nat
  op : Nat
  payload : List Byte
deriving DecidableEq, Repr

/-- The payload's length of an image-only record, or that of the catalogue (R62, R82); none for an opcode that no record carries. -/
def siteLength (op : Nat) (p : List Byte) : Option Nat :=
  match op with
  | 0xF000 => some 8 | 0xF001 => some 8 | 0xF002 => some 112 | 0xF003 => some 8
  | 0x0C00 => none | 0x0D00 => none | 0x0D01 => none | 0x0802 => none | 0x0803 => none
  | _ => catalogLength op p

/-- The records from a place in the image; none where one is malformed. DESIGN CHOICE (log 43): a nonzero reserved byte of a record header makes it malformed, a nonzero padding byte does not. -/
def siteRecs : Nat → Nat → List Byte → Option (List SiteRec)
  | 0, _, bs => if bs.isEmpty then some [] else none
  | n + 1, i, bs =>
    let len := leAt bs 2 2
    let p := (bs.drop 8).take len
    let size := 8 + ceilDiv len 8 * 8
    if bs.length < size ∨ leAt bs 4 4 ≠ 0 ∨ siteLength (leAt bs 0 2) p ≠ some len then none
    else (siteRecs n (i + 1) (bs.drop size)).map (fun r => ⟨i, leAt bs 0 2, p⟩ :: r)

/-- R44: a record that assigns a secure mailbox to an endpoint path. -/
def SiteRec.breaksR44 (r : SiteRec) : Bool := r.op == 0xF000 && decide (leAt r.payload 0 1 < 4) && leAt r.payload 1 1 == 1

/-- The site image of a boot image; empty where it has none. -/
def siteBytes (f : NMap Byte) (i : Nat) : List Byte := flashBytes f (imageBase i + imgNat f i 56 4) (imgNat f i 60 4)

/-- R83: the records of a site image that is accepted. DESIGN CHOICE (log 43): a wrong MAGIC, FORMAT, LENGTH or reserved header byte 6 or 7 rejects the image, and header bytes 35 to 63
are not looked at. -/
def acceptSite (b : Board) (serial : Nat) (bs : List Byte) : Option (List SiteRec) :=
  match lookupKey (leAt bs 34 1) b.siteHashes with
  | none => none
  | some h =>
    let n := bs.length - 96
    if bs.length < 160 ∨ leAt bs 0 4 ≠ 0x54495342 ∨ leAt bs 4 2 ≠ 1 ∨ leAt bs 6 2 ≠ 0 ∨ leAt bs 8 4 ≠ bs.length ∨
        leAt bs 32 2 ≠ 0x9288 ∨ leAt bs 24 8 < serial ∨ Config.siteVerify h (bs.take n) (bs.drop n) = false then none
    else
      match siteRecs (leAt bs 12 4) 0 ((bs.take n).drop 64) with
      | none => none
      | some rs => if rs.any SiteRec.breaksR44 then none else some rs

/-- SITE_MBX_PATH (R43). -/
def siteMbxPath (_ : Caller) (p : List Byte) (s : State) : Reply :=
  let m := leAt p 0 1
  let path := leAt p 1 1
  let port := leAt p 2 1
  paramChecks s [(0, decide (63 < m)), (1, decide (3 < path)), (2, path == 1 && (decide (6 < port) || port % 2 == 1)), rsv p 3 5] fun _ =>
    .ok ((s.set MBX_CFG.PATH m path).set MBX_CFG.PORT m (if path = 1 then port else 0))

/-- SITE_PORT_ROLE (R335). -/
def sitePortRole (_ : Caller) (p : List Byte) (s : State) : Reply :=
  let q := leAt p 0 1
  let role := leAt p 1 1
  let bw := leAt p 2 1
  paramChecks s [(0, decide (7 < q)), (1, role == 0 || decide (2 < role) || (role == 2 && q % 2 == 1)),
      (2, decide (2 < bw) || (role == 2 && bw != 0)), rsv p 3 5] fun _ =>
    .ok ((s.set PCIE_PORT_STATUS.ROLE q role).set PCIE_PORT_STATUS.BIFURCATION q bw)

/-- SITE_DEBUG_KEY (R78). DESIGN CHOICE (log 43): a second key of a world takes the place of the first. -/
def siteDebugKey (_ : Caller) (p : List Byte) (s : State) : Reply :=
  paramChecks s [(0, decide (1 < leAt p 0 1)), rsv p 1 7, rsv p 105 7] fun _ =>
    .ok { s with dbg := { s.dbg with keys := nput s.dbg.keys (leAt p 0 1) ((p.drop 8).take 97) } }

/-- SITE_SMBUS_ADDR (R84, R440): the SMBus target address in force. -/
def siteSmbusAddr (_ : Caller) (p : List Byte) (s : State) : Reply :=
  paramChecks s [(0, decide (127 < leAt p 0 1)), rsv p 1 7] fun _ =>
    .ok (s.set STRAP_STATUS.SMB_ADDR_USED 0 (leAt p 0 1))

/-- Whether a channel can be brought up: its DIMM lies within R219 and trains. -/
def Board.channelUp (b : Board) (c : Nat) : Bool := (lookupKey c b.dimms).any (fun d => d.fits && d.trains)

/-- MIRROR_CHANNELS in a site image (R69, R224): two channels of one node that come up become one member; no copy runs. -/
def siteMirror (_ : Caller) (p : List Byte) (s : State) : Reply :=
  let a := leAt p 0 1
  let b := leAt p 1 1
  let mirrored := fun (c : Nat) => s.mem.mirrors.any (fun q => q.1 == c || q.2 == c)
  paramChecks s [(0, decide (15 < a) || (lookupKey a ((s.board.map Board.dimms).getD [])).isNone || mirrored a),
      (1, decide (15 < b) || a == b || a / 4 != b / 4 || (lookupKey b ((s.board.map Board.dimms).getD [])).isNone || mirrored b),
      (2, leAt p 2 1 != 0), rsv p 3 5] fun _ =>
    if s.board.any (fun x => x.channelUp a && x.channelUp b) then
      .ok { s with mem := { s.mem with mirrors := nput s.mem.mirrors a b, locks := nput s.mem.locks a (lockMeridian s.stb) } }
    else .no s stDegraded

/-- COUNTER_ACCESS by its SUBOP. -/
def cmdCounter (c : Caller) (p : List Byte) (s : State) : Reply :=
  match leAt p 0 1 with
  | 1 => cmdCounterRevoke c p s
  | 2 => cmdCounterRead c p s
  | 3 => cmdCounterSet c p s
  | _ => cmdCounterGrant c p s

/-- The command of a record's opcode. -/
def siteCommand (x : Start) (op : Nat) : Caller → List Byte → State → Reply :=
  match op with
  | 0xF000 => siteMbxPath | 0xF001 => sitePortRole | 0xF002 => siteDebugKey | 0xF003 => siteSmbusAddr
  | 0x0000 => cmdGetInfo | 0x0001 => cmdGetCaps | 0x0002 => cmdGetTopology
  | 0x0100 => cmdBook | 0x0101 => cmdUnbook | 0x0102 => cmdQueryBookings | 0x0103 => cmdQueryCapacity | 0x0104 => cmdSetPrecedence
  | 0x0200 => cmdDefineClass | 0x0201 => cmdDefineGroup | 0x0202 => cmdBindChannel | 0x0203 => cmdLockChannels
  | 0x0204 => cmdReleaseGroup
  | 0x0300 => cmdPair | 0x0301 => cmdUnpair
  | 0x0400 => cmdSetWorldTiles | 0x0401 => cmdSetBlockWorld | 0x0402 => cmdPoolGrant | 0x0403 => cmdSetNodePolicy | 0x0404 => siteMirror
  | 0x0500 => cmdMaintStart | 0x0501 => cmdMaintStatus | 0x0502 => cmdMaintAbort | 0x0503 => cmdRetire | 0x0504 => cmdRestoreUnit
  | 0x0600 => cmdFaultLogRead | 0x0601 => cmdSetSeverity | 0x0602 => cmdFaultClear
  | 0x0700 => cmdStbConfig | 0x0701 => cmdStbStatus
  | 0x0800 => cmdSaveListSet | 0x0801 => cmdSaveStatus
  | 0x0900 => cmdConstJoin x.found | 0x0901 => cmdConstLeave x.refs | 0x0902 => cmdConstRoute | 0x0903 => cmdJournalMirror x.mirror
  | 0x0A00 => cmdVfAssign | 0x0A01 => cmdVfQuiesce | 0x0A02 => cmdVfResume
  | 0x0B00 => cmdPowerLimit | 0x0B01 => cmdThermalStatus | 0x0B02 => cmdSetVotePolicy
  | 0x0C01 => cmdDebugRevoke
  | 0x0E00 => cmdCounter
  | _ => fun _ _ s => .no s stBadOpcode

/-- R84: a record is run as a command of mailbox 0; one that ends in another status than ST_OK leaves no effect but a NOTE, and its event
is queued. -/
def siteRun (x : Start) (q : State × List Evt) (r : SiteRec) : State × List Evt :=
  let s := q.1
  let a := siteCommand x r.op { box := 0, cmd := none, stamp := s.stb, site := some (r.index, r.op) } r.payload s
  match a.final with
  | some e =>
    if e.status = stOk then (a.state, q.2)
    else (s.note41 mailboxUnit, q.2 ++ [⟨0x0F, 0, s.stb, leBytes 4 r.index ++ leBytes 2 r.op ++ leBytes 1 e.status⟩])
  | none => (a.state, q.2)

/-- One pass over the records that `p` names. -/
def sitePass (x : Start) (rs : List SiteRec) (p : Nat → Bool) (q : State × List Evt) : State × List Evt :=
  (rs.filter (fun r => p r.op)).foldl (siteRun x) q

/-! ### Bricks (R284, R285, R433 step 4) -/

/-- The mandatory bits of DIE_CAP (R35). -/
def mandatoryCaps : Nat := 0x2737

/-- Whether a die answers with every mandatory bit. -/
def Board.dieGood (b : Board) (i : Nat) : Bool :=
  (lookupKey i b.dies).any (fun d => d.answers && d.reports i &&& mandatoryCaps == mandatoryCaps)

/-- R284: the bricks that are brought up. -/
def Board.bricks (b : Board) : List Nat := (List.range 12).filter (fun k => b.dieGood (1 + k))

/-- A brick that is not brought up keeps its cores OFF (R434). -/
def State.brickOff (s : State) (b : Nat) : State :=
  let s := (List.range 24).foldl (fun (s : State) k => s.setCorePwr (24 * b + k) 3) s
  let s := (List.range 6).foldl (fun (s : State) k => s.set PWR_DOMAIN.ON (8 * b + k) 0) s
  let s := (List.range 4).foldl (fun (s : State) c => s.set CRS_STATUS.WIDTH (4 * b + c) 2) s
  (s.set PWR_DOMAIN.ON (136 + b) 0).set PWR_DOMAIN.CELL_HOLD (136 + b) 0

/-- R16, R35, R36 and R285: the dies report, and what is effective follows. -/
def State.bringUp (s : State) (b : Board) : State :=
  let s := (List.range 13).foldl (fun (s : State) i => s.setDie i (lookupKey i b.dies)) s
  let up := b.bricks
  let dies := 0 :: up.map (fun k => 1 + k)
  let s := dies.foldl (fun (s : State) i => s.set DIE_ID.UP i 1) s
  let caps := dies.foldl (fun (c : Nat) i => c &&& s.fld DIE_CAP.CAPS i) 0x7FFF
  let errata := dies.foldl (fun (c : Nat) i => c ||| s.fld DIE_ERRATA.ERRATA i) 0
  let s := (s.set CHIP_CAP_EFFECTIVE.CAPS 0 caps).set CHIP_WORKAROUND.ERRATA 0 errata
  let b1 := up.filter (fun k => s.fld DIE_ID.METAL (1 + k) == 1)
  let s := (s.set CHIP_ID.BRICK_UP 0 (up.map (fun k => 2 ^ k)).sum).set CHIP_ID.BRICK_STEP 0 (b1.map (fun k => 2 ^ k)).sum
  ((List.range 12).filter (fun k => !(up.contains k))).foldl State.brickOff s

/-- R270 and R284: a brick's courses are trained; with fewer than 2 courses it is retired. -/
def State.trainBrick (s : State) (b : Board) (k : Nat) : State :=
  let s := (List.range 4).foldl (fun (s : State) c =>
    let i := 4 * k + c
    ((s.setBad i 0 (nget b.badLanes (2 * i) 0)).setBad i 1 (nget b.badLanes (2 * i + 1) 0)).trainCourse i) s
  let s : State := { s with crs := { s.crs with noBudget := nput s.crs.noBudget k (frameOf s.stb), noTele := nput s.crs.noTele k (frameOf s.stb) } }
  if (s.coursesUp k).length < 2 then (s.set DIE_ID.UP (1 + k) 0).brickOff k else s

/-- R95: the replicas are loaded, and every region starts on its optical path with its calibrated delays. -/
def State.loadReplicas (s : State) : State :=
  (List.range 16).foldl (fun (s : State) r =>
    let d := s.pathDelay r 0
    ((s.setReplica r Replica.init).set STB_REPLICA.COARSE_DELAY r d.1).set STB_REPLICA.FINE_TRIM r d.2) s

/-! ### Memory (R219 to R224) -/

/-- R219: the rate of the channels: the highest that every DIMM within the limits permits. -/
def Board.ddrCode (b : Board) : Nat := ((b.dimms.map Prod.snd).filter Dimm.fits).foldl (fun (r : Nat) d => min r d.rate) 5

/-- A DDR5 channel after training: mirrored, in service, not brought up, or absent. -/
def State.channelState (s : State) (b : Board) (c : Nat) : State :=
  match lookupKey c b.dimms with
  | none => s
  | some d =>
    let s := if d.fits then s else s.note41 (mcUnit c)
    if b.channelUp c = false then s.set MC_STATUS.STATE c 6
    else
      match lookupKey c s.mem.mirrors, s.mem.mirrors.find? (fun q => q.2 == c) with
      | some p, _ => (s.set MC_STATUS.STATE c 2).set MC_STATUS.PARTNER c p
      | none, some q => (s.set MC_STATUS.STATE c 3).set MC_STATUS.PARTNER c q.1
      | none, none => s.set MC_STATUS.STATE c 1

/-- R221: a node is built over its members, each of a capacity in units of 256 MiB. -/
def State.buildNode (s : State) (n : Nat) (set_ : List Nat) (each rate : Nat) : State :=
  let s : State := { s with mem := { s.mem with members := nput s.mem.members n set_ } }
  let s := ((s.set MEM_NODE.WAYS n set_.length).set MEM_NODE.CAPACITY n (set_.length * each)).set MEM_NODE.RATE n rate
  (s.set MEM_NODE.STATE n 1).refreshNode n

/-- DDR node 4 + q. -/
def State.buildDdr (s : State) (b : Board) (q : Nat) : State :=
  let cs := (List.range 4).map (fun k => 4 * q + k)
  if cs.all (fun c => (lookupKey c b.dimms).isNone) then s
  else
    let s := cs.foldl (fun (s : State) c => s.channelState b c) s
    let set_ := cs.filter (fun c => s.fld MC_STATUS.STATE c == 1 || s.fld MC_STATUS.STATE c == 2)
    let up := cs.filter (fun c => b.channelUp c)
    let gib := fun (c : Nat) => ((lookupKey c b.dimms).map Dimm.gib).getD 0
    let each := up.foldl (fun (m : Nat) c => min m (gib c)) 256
    let s := (up.filter (fun c => decide (each < gib c))).foldl (fun (s : State) c => s.note41 (mcUnit c)) s
    s.buildNode (4 + q) set_ (4 * each) b.ddrCode

/-- HBM node q: each pair holds 2.25 GiB. -/
def State.buildHbm (s : State) (b : Board) (q : Nat) : State :=
  match lookupKey q b.hbmStacks with
  | none => s
  | some k =>
    if k.answers then
      let cs := (List.range 16).map (fun i => 16 + 16 * q + i)
      let s := cs.foldl (fun (s : State) c => s.set MC_STATUS.STATE c (if k.pairs.testBit (c % 16) then 1 else 6)) s
      s.buildNode q (cs.filter (fun c => k.pairs.testBit (c % 16))) 9 0
    else s

/-- Every node; hard repair is applied for the rows spared before (R228). -/
def State.buildMemory (s : State) (b : Board) : State :=
  let s : State := { s with mem := { s.mem with hard := s.mem.hard ++ s.mem.spared, spared := [] } }
  (List.range 4).foldl (fun (s : State) q => (s.buildHbm b q).buildDdr b q) s

/-! ### Engines, payload and cores (R433 step 7) -/

/-- R184: a private range lies in a memory node of the engine's quadrant. -/
def State.rangeOk (s : State) (e : Nat) (r : Nat × Nat) : Bool :=
  decide (r.2 < 7) && [e / 4, 4 + e / 4].any (fun n => s.onNode (r.1 * 0x200000) (0x200000 * 2 ^ r.2) n)

/-- IEC_CFG and IEC_RANGE of an engine are written, its tiles made secure, and it is enabled. -/
def State.startEngine (s : State) (x : Start) (blocking e : Nat) : State :=
  let s := match lookupKey e x.ranges with
    | some r =>
      if s.rangeOk e r then
        let s := ((s.set IEC_RANGE.BASE e r.1).set IEC_RANGE.SIZE e r.2).set IEC_RANGE.VALID e 1
        match tileOf (r.1 * 0x200000) with
        | some t => s.setTiles t (2 ^ r.2) true
        | none => s
      else s
    | none => s
  ((s.set IEC_CFG.BLOCKING e blocking).set IEC_CFG.ENABLE e 1).set IE_STATUS.ENABLED e 1

/-- The core payload is copied to LOAD_ADDR, and the reset vector set. -/
def State.loadPayload (s : State) (i : Nat) : State :=
  let f := s.fw.flash
  let addr := imgNat f i 40 8
  let data := flashBytes f (imageBase i + imgNat f i 32 4) (min (imgNat f i 36 4) 0x1000000)
  let s := s.set BOOT_VEC.ENTRY 0 (imgNat f i 48 8 / 4)
  if addr % 4096 = 0 ∧ s.allPopulated addr data.length then s.setBytes addr data else s

/-- The cores of the bricks in service are held at reset on their PLL. -/
def State.holdCores (s : State) : State :=
  ((List.range 288).filter s.coreUp).foldl (fun (s : State) c => (s.startCore c true).setHart c Hart.init) s

/-- Every held core is released at BOOT_VEC.ENTRY. -/
def State.releaseCores (s : State) : State :=
  ((List.range 288).filter (fun c => s.coreUp c && s.fld CORE_PAIR.STATE c != 3)).foldl (fun (s : State) c => s.startCore c true) s

/-- R335, R433 and R435: root ports come out of their fundamental reset; their links train, and those of endpoint ports that their hosts
have released. -/
def State.startPorts (s : State) (links : List Trained) : State :=
  let roots := (List.range 8).filter (fun p => s.portRole p == 1)
  let s : State := { s with pins := { s.pins with rpPerst := (roots.map (fun p => 2 ^ p)).sum } }
  (links.filter (fun x => (s.linksOf x.port).contains x.link ||
    (s.portRole x.port == 2 && s.pins.epPerst.testBit x.port && x.link == 0))).foldl State.linkTrained s

/-! ### Held images (R409) -/

/-- The highest sequence number that a journal of an image has used: one below its saved NEXT_SEQ (R163). -/
def Image.topSeq (im : Image) (j : Nat) : Nat := nget im.seqs j 1 - 1

/-- R163 and R409: held images are found, and each journal's NEXT_SEQ lies above what they hold. -/
def State.findImages (s : State) : State :=
  let held := s.nf.images.filter Image.held
  let s := s.refreshHeld
  if held.isEmpty then s
  else (List.range 64).foldl (fun (s : State) j =>
    s.set JNL_SEQ.NEXT_SEQ j ((held.map (fun im => im.topSeq j)).foldl max 0 + 1)) s

/-- EV_SAVED_IMAGE of each held image, in ascending IMAGE_SEQ. -/
def State.imageEvents (s : State) : State :=
  let held := s.nf.images.filter Image.held
  let first := match held with
    | a :: b :: _ => if b.seq < a.seq then [b, a] else held
    | _ => held
  first.foldl (fun (s : State) im => s.event 0x0C s.stb (leBytes 1 im.slot ++ leBytes 8 im.trigger)) s

/-! ### The sequence (R433) -/

/-- Step 9: the package is ready. -/
def State.becomeReady (s : State) (evs : List Evt) : State :=
  let s : State := { (s.setReady true) with pins := { s.pins with pkgReady := true } }
  let s := (s.set BOOT_STATUS.STEP 0 9).set BOOT_STATUS.START_MS 0 (s.stb / msTicks 1)
  evs.foldl (fun (s : State) e => s.event e.code e.stamp e.payload { owner := some 0, only := true }) s.imageEvents

/-! ### The firmware tables (R217, R218) -/

/-- The SLIT distance between two proximity domains: memory nodes 0 to 7 and bricks 8 to 19 (R217), in both directions (log 40). -/
def slitDistance (a b : Nat) : Nat :=
  if a = b then 10
  else if 8 ≤ a ∧ 8 ≤ b then 16
  else if 8 ≤ a ∨ 8 ≤ b then (if min a b < 4 then 14 else 17)
  else if a % 4 = b % 4 then 12 else 20

/-- The tables of the memory as it has been built and the bricks as they have been brought up (R217). -/
def State.acpiTables (s : State) : Acpi :=
  let bricks := (List.range 12).filter s.brickUp
  let doms := List.range 8 ++ bricks.map (8 + ·)
  { memory := (List.range 8).map (fun n => (n, slotBase n, s.nodeBytes n))
    harts := bricks.map (fun b => (8 + b, 24 * b, 24))
    slit := doms.flatMap (fun a => doms.map (fun b => (a, b, slitDistance a b)))
    hmat := bricks.flatMap (fun b => (List.range 8).map (fun n => (8 + b, n, if n < 4 then 150 else 130, 192))) }

/-- Step 6: the memory nodes, and the tables that describe them. -/
def State.buildAndPublish (s : State) (b : Board) : State :=
  let s := s.buildMemory b
  { s with fw := { s.fw with acpi := some s.acpiTables } }

/-- Steps 5 to 8. -/
def State.startRest (s : State) (x : Start) (i : Nat) (rs : List SiteRec) (evs : List Evt) : State × List Evt :=
  let s := s.buildAndPublish x.board
  let blocking := imgNat s.fw.flash i 6 2 % 2
  let s := (List.range 16).foldl (fun (s : State) e => s.startEngine x blocking e) s
  let s := ((s.loadPayload i).holdCores).startPorts x.links
  let s := (List.range 182).foldl State.recapCap s
  let q := sitePass x rs (fun op => decide (op < 0xF000) && op != 0x0404) (s, evs)
  let s := ((({ q.1 with locked := true }).findImages).poll x.regs x.vin).firstMeasures x.meas x.bricks
  (s.releaseCores.nextPatrols, q.2)

/-- R433: the start of a package whose boot image is chosen. -/
def State.startFrom (s : State) (x : Start) (i : Nat) (fallback : Bool) : State :=
  let b := x.board
  let s := ((s.set BOOT_STATUS.IMAGE 0 i).set BOOT_STATUS.FALLBACK 0 (flag fallback)).set BOOT_STATUS.FORCED 0
    (flag (b.imgForce == 1 || b.imgForce == 2))
  let s : State := { s with fw := { s.fw with version := imgNat b.flash i 12 4 } }
  let s := s.loadReplicas
  let s := (List.range 8).foldl (fun (s : State) p => s.set PCIE_PORT_STATUS.ROLE p (if p % 2 = 0 then 2 else 1)) s
  let bs := siteBytes b.flash i
  let site := if bs.isEmpty then some [] else acceptSite b s.fw.serial bs
  let s := match site with
    | none => s.raise { coll := .chip, bit := 27 }
    | some _ => if bs.isEmpty then s else { s with fw := { s.fw with site := true, serial := leAt bs 24 8 } }
  let rs := site.getD []
  let q := sitePass x rs (fun op => op == 0x0404) (sitePass x rs (fun op => decide (0xF000 ≤ op)) (s, []))
  let s := q.1.bringUp b
  let s := if (s.fld CHIP_CAP_EFFECTIVE.CAPS 0).testBit 11 then s else (List.range 16).foldl (fun (s : State) r => s.toFallback r true) s
  let s := b.bricks.foldl (fun (s : State) k => s.trainBrick b k) s
  let lost := b.bricks.filter (fun k => !(s.brickUp k))
  let q := if b.dieGood 0 = false ∨ b.bricks.isEmpty then (s.holdFaultN 2 true, q.2) else s.startRest x i rs q.2
  lost.foldl (fun (s : State) k => s.retiredEvent (Coll.region k).unit) (b.bricks.foldl State.lostCourses (q.1.becomeReady q.2))

/-- R440: the straps are latched at the release of PKG_RST_N. -/
def State.latchStraps (s : State) (b : Board) : State :=
  (((s.set STRAP_STATUS.SMB_ADDR 0 (b.smbAddr % 8)).set STRAP_STATUS.XSPI_MODE 0 (b.xspiMode % 2)).set STRAP_STATUS.IMG_FORCE 0
    (b.imgForce % 4)).set STRAP_STATUS.SMB_ADDR_USED 0 (0x60 + b.smbAddr % 8)

/-- START_UP (R428, R431, R433): PKG_RST_N is released; `t` is the stamp at which step 9 ends. Without an image that verifies nothing
starts, and FAULT_N is asserted. -/
def execStartUp (t : Stamp) (x : Start) (s : State) : Res :=
  .next (if s.up ∨ s.pins.thermtripN = false then s
    else
      match chooseImage x.board with
      | none => { ((s.latchStraps x.board).set BOOT_STATUS.STEP 0 1) with pins := { s.pins with faultN := false } }
      | some (i, fallback) =>
        let s : State := { (s.latchStraps x.board) with
          stb := t, up := true, board := some x.board, fw := { s.fw with flash := x.board.flash }, pins := { s.pins with faultN := true } }
        s.bounded (s.startFrom x i fallback).settle)

end Sys2Proof.Machine
end

