-- ==== Sys2Proof/Machine/Dispatch.lean ====
section
/-! DEFINITION. The dispatch: one arm per constructor of Instr. -/

namespace Sys2Proof.Machine

def exec (i : Instr) (s : State) : Host.Outcome State Fault Refusal :=
  match i with
  | .startUp t x => Sys2Proof.Machine.execStartUp t x s
  | .pkgReset  => Sys2Proof.Machine.execPkgReset  s
  | .keeperDivergence t => Sys2Proof.Machine.execKeeperDivergence t s
  | .keeperRestartEnd t => Sys2Proof.Machine.execKeeperRestartEnd t s
  | .mbxDoorbellCmdTail t m via tail => Sys2Proof.Machine.execMbxDoorbellCmdTail t m via tail s
  | .mbxDoorbellReset t m via => Sys2Proof.Machine.execMbxDoorbellReset t m via s
  | .mailboxResetEnd t m => Sys2Proof.Machine.execMailboxResetEnd t m s
  | .mbxCmpHead t m via head => Sys2Proof.Machine.execMbxCmpHead t m via head s
  | .mbxEvtHead t m via head => Sys2Proof.Machine.execMbxEvtHead t m via head s
  | .commandTake t => Sys2Proof.Machine.execCommandTake t s
  | .commandBoundExpiry t m seq => Sys2Proof.Machine.execCommandBoundExpiry t m seq s
  | .smbusPointerWrite t m off pecOk => Sys2Proof.Machine.execSmbusPointerWrite t m off pecOk s
  | .smbusDataWrite t data pecOk => Sys2Proof.Machine.execSmbusDataWrite t data pecOk s
  | .smbusDataRead t => Sys2Proof.Machine.execSmbusDataRead t s
  | .alertResponseAddress t => Sys2Proof.Machine.execAlertResponseAddress t s
  | .endpointMemoryRequest t p fn b q => Sys2Proof.Machine.execEndpointMemoryRequest t p fn b q s
  | .endpointConfigRequest t p fn q => Sys2Proof.Machine.execEndpointConfigRequest t p fn q s
  | .getInfo t m => Sys2Proof.Machine.execGetInfo t m s
  | .getCaps t m => Sys2Proof.Machine.execGetCaps t m s
  | .getTopology t m => Sys2Proof.Machine.execGetTopology t m s
  | .book t m => Sys2Proof.Machine.execBook t m s
  | .unbook t m => Sys2Proof.Machine.execUnbook t m s
  | .queryBookings t m => Sys2Proof.Machine.execQueryBookings t m s
  | .queryCapacity t m => Sys2Proof.Machine.execQueryCapacity t m s
  | .setPrecedence t m => Sys2Proof.Machine.execSetPrecedence t m s
  | .defineClass t m => Sys2Proof.Machine.execDefineClass t m s
  | .defineGroup t m => Sys2Proof.Machine.execDefineGroup t m s
  | .bindChannel t m => Sys2Proof.Machine.execBindChannel t m s
  | .lockChannels t m => Sys2Proof.Machine.execLockChannels t m s
  | .releaseGroup t m => Sys2Proof.Machine.execReleaseGroup t m s
  | .pair t m => Sys2Proof.Machine.execPair t m s
  | .unpair t m => Sys2Proof.Machine.execUnpair t m s
  | .setWorldTiles t m => Sys2Proof.Machine.execSetWorldTiles t m s
  | .setBlockWorld t m => Sys2Proof.Machine.execSetBlockWorld t m s
  | .poolGrant t m => Sys2Proof.Machine.execPoolGrant t m s
  | .setNodePolicy t m => Sys2Proof.Machine.execSetNodePolicy t m s
  | .mirrorChannels t m => Sys2Proof.Machine.execMirrorChannels t m s
  | .maintStart t m => Sys2Proof.Machine.execMaintStart t m s
  | .maintStatus t m => Sys2Proof.Machine.execMaintStatus t m s
  | .maintAbort t m => Sys2Proof.Machine.execMaintAbort t m s
  | .retire t m => Sys2Proof.Machine.execRetire t m s
  | .restoreUnit t m => Sys2Proof.Machine.execRestoreUnit t m s
  | .faultLogRead t m => Sys2Proof.Machine.execFaultLogRead t m s
  | .setSeverity t m => Sys2Proof.Machine.execSetSeverity t m s
  | .faultClear t m => Sys2Proof.Machine.execFaultClear t m s
  | .stbConfig t m => Sys2Proof.Machine.execStbConfig t m s
  | .stbStatus t m => Sys2Proof.Machine.execStbStatus t m s
  | .resyncTimeout t => Sys2Proof.Machine.execResyncTimeout t s
  | .saveListSet t m => Sys2Proof.Machine.execSaveListSet t m s
  | .saveStatus t m => Sys2Proof.Machine.execSaveStatus t m s
  | .restoreBegin t m => Sys2Proof.Machine.execRestoreBegin t m s
  | .saveRelease t m => Sys2Proof.Machine.execSaveRelease t m s
  | .constJoin t m x => Sys2Proof.Machine.execConstJoin t m x s
  | .constLeave t m refs => Sys2Proof.Machine.execConstLeave t m refs s
  | .constRoute t m => Sys2Proof.Machine.execConstRoute t m s
  | .journalMirror t m answer => Sys2Proof.Machine.execJournalMirror t m answer s
  | .vfAssign t m => Sys2Proof.Machine.execVfAssign t m s
  | .vfQuiesce t m => Sys2Proof.Machine.execVfQuiesce t m s
  | .vfResume t m => Sys2Proof.Machine.execVfResume t m s
  | .powerLimit t m => Sys2Proof.Machine.execPowerLimit t m s
  | .thermalStatus t m => Sys2Proof.Machine.execThermalStatus t m s
  | .setVotePolicy t m => Sys2Proof.Machine.execSetVotePolicy t m s
  | .debugAuthChallenge t m => Sys2Proof.Machine.execDebugAuthChallenge t m s
  | .debugAuthResponse t m => Sys2Proof.Machine.execDebugAuthResponse t m s
  | .debugRevoke t m => Sys2Proof.Machine.execDebugRevoke t m s
  | .fwStage t m => Sys2Proof.Machine.execFwStage t m s
  | .fwActivate t m => Sys2Proof.Machine.execFwActivate t m s
  | .counterAccessGrant t m => Sys2Proof.Machine.execCounterAccessGrant t m s
  | .counterAccessRevoke t m => Sys2Proof.Machine.execCounterAccessRevoke t m s
  | .counterAccessRead t m => Sys2Proof.Machine.execCounterAccessRead t m s
  | .counterAccessSet t m => Sys2Proof.Machine.execCounterAccessSet t m s
  | .meridian t x errs => Sys2Proof.Machine.execMeridian t x errs s
  | .replicaMarkerCheck t r missing residual off => Sys2Proof.Machine.execReplicaMarkerCheck t r missing residual off s
  | .replicaCorrection t r => Sys2Proof.Machine.execReplicaCorrection t r s
  | .replicaHoldEnd t r => Sys2Proof.Machine.execReplicaHoldEnd t r s
  | .stbPps t tick frac => Sys2Proof.Machine.execStbPps t tick frac s
  | .referenceLoss t pulses => Sys2Proof.Machine.execReferenceLoss t pulses s
  | .holdoverExpiry t => Sys2Proof.Machine.execHoldoverExpiry t s
  | .timerCompare t h guest => Sys2Proof.Machine.execTimerCompare t h guest s
  | .recompute t => Sys2Proof.Machine.execRecompute t s
  | .metering t p => Sys2Proof.Machine.execMetering t p s
  | .queueLevelChange t c level => Sys2Proof.Machine.execQueueLevelChange t c level s
  | .ieChDbSqTail t d v => Sys2Proof.Machine.execIeChDbSqTail t d v s
  | .ieChDbCqHead t d v => Sys2Proof.Machine.execIeChDbCqHead t d v s
  | .descriptorFetch t e => Sys2Proof.Machine.execDescriptorFetch t e s
  | .intake t e ch bytes => Sys2Proof.Machine.execIntake t e ch bytes s
  | .admission t => Sys2Proof.Machine.execAdmission t s
  | .answer t e => Sys2Proof.Machine.execAnswer t e s
  | .tnext t h ins => Sys2Proof.Machine.execTnext t h ins s
  | .tnextWaitExpiry t h => Sys2Proof.Machine.execTnextWaitExpiry t h s
  | .tdone t h ins => Sys2Proof.Machine.execTdone t h ins s
  | .jcommit t h ins => Sys2Proof.Machine.execJcommit t h ins s
  | .budgetOverrun t c => Sys2Proof.Machine.execBudgetOverrun t c s
  | .deadlineGuard t id => Sys2Proof.Machine.execDeadlineGuard t id s
  | .coreWithdraw t c => Sys2Proof.Machine.execCoreWithdraw t c s
  | .mirrorAck t j seq => Sys2Proof.Machine.execMirrorAck t j seq s
  | .mirrorAckTimeout t j seq => Sys2Proof.Machine.execMirrorAckTimeout t j seq s
  | .drainWaitExpiry t d j => Sys2Proof.Machine.execDrainWaitExpiry t d j s
  | .drainWriteCompletion t d lba ok => Sys2Proof.Machine.execDrainWriteCompletion t d lba ok s
  | .drainCommandTimeout t d lba => Sys2Proof.Machine.execDrainCommandTimeout t d lba s
  | .jnlDrainEnable t via addr size value => Sys2Proof.Machine.execJnlDrainEnable t via addr size value s
  | .wswitch t h ins => Sys2Proof.Machine.execWswitch t h ins s
  | .sfenceVma t h k va asid ins => Sys2Proof.Machine.execSfenceVma t h k va asid ins s
  | .tableWalk t h va w => Sys2Proof.Machine.execTableWalk t h va w s
  | .engineCacheAccess t e x => Sys2Proof.Machine.execEngineCacheAccess t e x s
  | .victimWritebackAck t e => Sys2Proof.Machine.execVictimWritebackAck t e s
  | .engineMissComplete t e => Sys2Proof.Machine.execEngineMissComplete t e s
  | .pairDivergence t a => Sys2Proof.Machine.execPairDivergence t a s
  | .pairSelfTestDone t a okA okB => Sys2Proof.Machine.execPairSelfTestDone t a okA okB s
  | .fetchShare t p => Sys2Proof.Machine.execFetchShare t p s
  | .fetchOwn t p => Sys2Proof.Machine.execFetchOwn t p s
  | .ownZero t p => Sys2Proof.Machine.execOwnZero t p s
  | .evictDirty t p => Sys2Proof.Machine.execEvictDirty t p s
  | .readUc t p => Sys2Proof.Machine.execReadUc t p s
  | .writeUc t p => Sys2Proof.Machine.execWriteUc t p s
  | .atomic t p => Sys2Proof.Machine.execAtomic t p s
  | .mcRead t p => Sys2Proof.Machine.execMcRead t p s
  | .mcWrite t p => Sys2Proof.Machine.execMcWrite t p s
  | .devRd t p => Sys2Proof.Machine.execDevRd t p s
  | .devWr t p => Sys2Proof.Machine.execDevWr t p s
  | .snoopShare t p k => Sys2Proof.Machine.execSnoopShare t p k s
  | .snoopOwn t p k => Sys2Proof.Machine.execSnoopOwn t p k s
  | .snoopKill t p k => Sys2Proof.Machine.execSnoopKill t p k s
  | .snoopFlush t p k => Sys2Proof.Machine.execSnoopFlush t p k s
  | .grant t p => Sys2Proof.Machine.execGrant t p s
  | .grantSeen t p => Sys2Proof.Machine.execGrantSeen t p s
  | .snoopPart t p => Sys2Proof.Machine.execSnoopPart t p s
  | .snoopSum t p => Sys2Proof.Machine.execSnoopSum t p s
  | .mcDone t p => Sys2Proof.Machine.execMcDone t p s
  | .devAck t p => Sys2Proof.Machine.execDevAck t p s
  | .err t p => Sys2Proof.Machine.execErr t p s
  | .lineData t p => Sys2Proof.Machine.execLineData t p s
  | .flushData t p => Sys2Proof.Machine.execFlushData t p s
  | .devData t p => Sys2Proof.Machine.execDevData t p s
  | .atomicOld t p => Sys2Proof.Machine.execAtomicOld t p s
  | .fillHoldExpiry t bb line => Sys2Proof.Machine.execFillHoldExpiry t bb line s
  | .transactionTimeout t h line => Sys2Proof.Machine.execTransactionTimeout t h line s
  | .packetInject t ring stop dir => Sys2Proof.Machine.execPacketInject t ring stop dir s
  | .packetArrival t p upset => Sys2Proof.Machine.execPacketArrival t p upset s
  | .starveClaim t ring stop dir => Sys2Proof.Machine.execStarveClaim t ring stop dir s
  | .tenureDecision t port inst hints idle => Sys2Proof.Machine.execTenureDecision t port inst hints idle s
  | .holdCutoff t port inst hints => Sys2Proof.Machine.execHoldCutoff t port inst hints s
  | .courseFlitReceive t idx d f => Sys2Proof.Machine.execCourseFlitReceive t idx d f s
  | .deferredStall t idx => Sys2Proof.Machine.execDeferredStall t idx s
  | .brickRetirement t b => Sys2Proof.Machine.execBrickRetirement t b s
  | .registerReadMessage t b lane addr ok => Sys2Proof.Machine.execRegisterReadMessage t b lane addr ok s
  | .registerWriteMessage t b lane x ok => Sys2Proof.Machine.execRegisterWriteMessage t b lane x ok s
  | .readAnswer t b lane x ok => Sys2Proof.Machine.execReadAnswer t b lane x ok s
  | .capabilityRequest t b lane ok => Sys2Proof.Machine.execCapabilityRequest t b lane ok s
  | .capabilityAnswer t b lane mtype x ok => Sys2Proof.Machine.execCapabilityAnswer t b lane mtype x ok s
  | .telemetry t b lane power junction ok => Sys2Proof.Machine.execTelemetry t b lane power junction ok s
  | .budget t b lane ceilings ok => Sys2Proof.Machine.execBudget t b lane ceilings ok s
  | .errorPin t b lane level ok => Sys2Proof.Machine.execErrorPin t b lane level ok s
  | .fence t b lane courses sideband ok => Sys2Proof.Machine.execFence t b lane courses sideband ok s
  | .remapAgreement t b lane course dir logical phys ok => Sys2Proof.Machine.execRemapAgreement t b lane course dir logical phys ok s
  | .sidebandRetry t b lane => Sys2Proof.Machine.execSidebandRetry t b lane s
  | .budgetMissing t b => Sys2Proof.Machine.execBudgetMissing t b s
  | .telemetryMissing t b => Sys2Proof.Machine.execTelemetryMissing t b s
  | .lightbedSourceFailure t src => Sys2Proof.Machine.execLightbedSourceFailure t src s
  | .couplerTimePathLoss t l => Sys2Proof.Machine.execCouplerTimePathLoss t l s
  | .linkFlitReceive t l f from_ => Sys2Proof.Machine.execLinkFlitReceive t l f from_ s
  | .timeMark t l sA rB sB rA number => Sys2Proof.Machine.execTimeMark t l sA rB sB rA number s
  | .linkDown t l cause => Sys2Proof.Machine.execLinkDown t l cause s
  | .memberLost t p => Sys2Proof.Machine.execMemberLost t p s
  | .membershipUpdate t p came => Sys2Proof.Machine.execMembershipUpdate t p came s
  | .grandmasterElection t gm => Sys2Proof.Machine.execGrandmasterElection t gm s
  | .remoteRequest t p => Sys2Proof.Machine.execRemoteRequest t p s
  | .remoteTimeout t slice txn => Sys2Proof.Machine.execRemoteTimeout t slice txn s
  | .remoteQuarantineExpiry t slice txn => Sys2Proof.Machine.execRemoteQuarantineExpiry t slice txn s
  | .cstMsgSend t via addr size value => Sys2Proof.Machine.execCstMsgSend t via addr size value s
  | .doorbellMessage t src hart file guest eiid secure => Sys2Proof.Machine.execDoorbellMessage t src hart file guest eiid secure s
  | .mirrorRecord t src journal seq bytes drained => Sys2Proof.Machine.execMirrorRecord t src journal seq bytes drained s
  | .mirrorMark t src journal seq fl drained ended => Sys2Proof.Machine.execMirrorMark t src journal seq fl drained ended s
  | .blkClkCtrl t via addr size value => Sys2Proof.Machine.execBlkClkCtrl t via addr size value s
  | .svote t via addr size value => Sys2Proof.Machine.execSvote t via addr size value s
  | .sgate t via addr size value => Sys2Proof.Machine.execSgate t via addr size value s
  | .debugHaltRequest t h => Sys2Proof.Machine.execDebugHaltRequest t h s
  | .functionLevelReset t p fn vfClear => Sys2Proof.Machine.execFunctionLevelReset t p fn vfClear s
  | .resetCompletion t p fn => Sys2Proof.Machine.execResetCompletion t p fn s
  | .busMasterEnableClear t p fn => Sys2Proof.Machine.execBusMasterEnableClear t p fn s
  | .busMasterEnableSet t p fn => Sys2Proof.Machine.execBusMasterEnableSet t p fn s
  | .inboundRequest t p j q => Sys2Proof.Machine.execInboundRequest t p j q s
  | .completionTimeout t p tag => Sys2Proof.Machine.execCompletionTimeout t p tag s
  | .lateCompletion t p tag last => Sys2Proof.Machine.execLateCompletion t p tag last s
  | .tagQuarantineExpiry t p tag => Sys2Proof.Machine.execTagQuarantineExpiry t p tag s
  | .downstreamPortContainment t p j err => Sys2Proof.Machine.execDownstreamPortContainment t p j err s
  | .dpcTriggerStatusClear t p j => Sys2Proof.Machine.execDpcTriggerStatusClear t p j s
  | .faultEvent t e => Sys2Proof.Machine.execFaultEvent t e s
  | .bucketLeak t c b e => Sys2Proof.Machine.execBucketLeak t c b e s
  | .faultRecordWrite t => Sys2Proof.Machine.execFaultRecordWrite t s
  | .latchedSourcePoll t => Sys2Proof.Machine.execLatchedSourcePoll t s
  | .maintQueueWalk t => Sys2Proof.Machine.execMaintQueueWalk t s
  | .activityEnd t id ok => Sys2Proof.Machine.execActivityEnd t id ok s
  | .demandScrubRewrite t c => Sys2Proof.Machine.execDemandScrubRewrite t c s
  | .copyHoldEnd t idx => Sys2Proof.Machine.execCopyHoldEnd t idx s
  | .wfi t x => Sys2Proof.Machine.execWfi t x s
  | .coreWake t h => Sys2Proof.Machine.execCoreWake t h s
  | .clkSrc t via addr size value => Sys2Proof.Machine.execClkSrc t via addr size value s
  | .clockSwitch t c => Sys2Proof.Machine.execClockSwitch t c s
  | .domainOff t idx => Sys2Proof.Machine.execDomainOff t idx s
  | .domainOn t idx => Sys2Proof.Machine.execDomainOn t idx s
  | .idleEntry t => Sys2Proof.Machine.execIdleEntry t s
  | .eclipseEntry t => Sys2Proof.Machine.execEclipseEntry t s
  | .eclipseWake t i3c trained => Sys2Proof.Machine.execEclipseWake t i3c trained s
  | .avsbusAcknowledgement t r => Sys2Proof.Machine.execAvsbusAcknowledgement t r s
  | .avsbusTimeout t r => Sys2Proof.Machine.execAvsbusTimeout t r s
  | .avsbusRetry t r => Sys2Proof.Machine.execAvsbusRetry t r s
  | .pmbusPoll t regs vin => Sys2Proof.Machine.execPmbusPoll t regs vin s
  | .junctionCapping t die => Sys2Proof.Machine.execJunctionCapping t die s
  | .lidCapping t => Sys2Proof.Machine.execLidCapping t s
  | .regulatorCapping t r => Sys2Proof.Machine.execRegulatorCapping t r s
  | .cappingLift t cause u => Sys2Proof.Machine.execCappingLift t cause u s
  | .thermalTrip t die => Sys2Proof.Machine.execThermalTrip t die s
  | .nightfallTrigger t cause => Sys2Proof.Machine.execNightfallTrigger t cause s
  | .saveComplete t => Sys2Proof.Machine.execSaveComplete t s
  | .shadowLoadDone t => Sys2Proof.Machine.execShadowLoadDone t s
  | .ctrCfg t via addr size value => Sys2Proof.Machine.execCtrCfg t via addr size value s
  | .ctrValue t via addr size => Sys2Proof.Machine.execCtrValue t via addr size s
  | .registerWrite t via addr size value => Sys2Proof.Machine.execRegisterWrite t via addr size value s
  | .coreLoadStoreFetch t h a => Sys2Proof.Machine.execCoreLoadStoreFetch t h a s
  | .csrAccess t h ins => Sys2Proof.Machine.execCsrAccess t h ins s
  | .patrolScrubRead t n outcome e => Sys2Proof.Machine.execPatrolScrubRead t n outcome e s
  | .patrolPassLate t n => Sys2Proof.Machine.execPatrolPassLate t n s
  | .endpointFundamentalReset t p high width speed flit => Sys2Proof.Machine.execEndpointFundamentalReset t p high width speed flit s
  | .powerLoss written => Sys2Proof.Machine.execPowerLoss written s
  | .counterWrap t bank idx => Sys2Proof.Machine.execCounterWrap t bank idx s
  | .finalCompletion t m seq => Sys2Proof.Machine.execFinalCompletion t m seq s

end Sys2Proof.Machine
end

