-- ==== Sys2Proof/Safety.lean ====
section
/-! DEFINITION. The terms that claims are made in: what a step answers, the command that a mailbox waits to have run, and packets at the
front of a queue. -/

namespace Sys2Proof.Safety

open Sys2Proof.Machine

/-- The step answers a next state: it neither faults nor refuses. -/
def completes (o : Host.Outcome State Fault Refusal) : Bool :=
  match o with
  | .next _ => true
  | .fault _ => false
  | .refused _ => false

/-- What a command at stamp `t` answers that leaves `r` and sets nothing else off. -/
def left (s : State) (t : Stamp) (r : State) : Res := .next ((s.advance t).bounded r)

/-- What a command at stamp `t` answers that leaves `r`, with what its events lead to at once. -/
def settled (s : State) (t : Stamp) (r : State) : Res := .next ((s.advance t).bounded r.settle)

/-- The package runs, the keeper is not restarting, and `k` is the oldest command with an opcode that mailbox `m` has taken and not yet
run (R49), and it is its turn (R107). -/
structure Waits (s : State) (m op : Nat) (pick : List Byte → Bool) (k : Taken) : Prop where
  runs : s.up = true
  keeper : s.keeper.restarting = none
  turn : s.bookingTurn k = true
  oldest : (s.box m).taken.find? (fun j => j.opcode == op && !j.ran && j.final.isNone && pick j.payload) = some k

/-- Any payload. -/
def anyPayload (_ : List Byte) : Bool := true

/-- The state on which a command's effect runs: at its stamp, with the command marked. -/
def begun (s : State) (t : Stamp) (m : Nat) (k : Taken) : State :=
  (s.advance t).mapTaken m (fun j => j.id == k.id) (fun j => { j with ran := true })

/-- What the effect of a command answers. -/
def replyOf (f : Caller → List Byte → State → Reply) (s : State) (t : Stamp) (m : Nat) (k : Taken) : Reply :=
  f (k.caller m) k.payload (begun s t m k)

/-- The command is carried out: it ends with ST_OK, or its timed sequence has begun (R51, R59). -/
def accepted (r : Reply) : Bool :=
  match r.final with
  | some e => e.status == 0
  | none => true

/-- The state after a command's effect, with its end noted in the mailbox (R51, R55). -/
def ended (m : Nat) (k : Taken) (r : Reply) : State :=
  match r.final with
  | some e => r.state.finish m k.id e
  | none => r.state

/-- A command row carries a command out: where a command waits and its effect accepts it, the row answers the next state that the
effect leaves, with the command's end noted. -/
def carries (row : Stamp → Nat → Instr) (op : Nat) (pick : List Byte → Bool) (f : Caller → List Byte → State → Reply) : Prop :=
  ∀ (s : State) (t : Stamp) (m : Nat) (k : Taken), Waits s m op pick k → accepted (replyOf f s t m k) = true →
    exec (row t m) s = settled s t (ended m k (replyOf f s t m k))

/-- A hart can execute the Xbcn instruction `ins` of funct3 `f3` (R171 to R173). -/
structure Executes (s : State) (h ins f3 : Nat) : Prop where
  ready : s.ready h = true
  legal : xbcnReserved ins = false
  opcode : ins % 128 = 0x0B
  funct : bitsOf ins 12 3 = f3
  allowed : s.xbcnCause h (f3 == 3) = none

/-- A sideband message can arrive on a lane: a lane of its direction that has not failed, of a brick whose sideband is not fenced (R281,
R283). -/
structure Arrives (s : State) (b lane home : Nat) : Prop where
  brick : b < 12
  onLane : lane = s.laneNow b home
  good : (s.fld SB_STATUS.FAILED b).testBit lane = false
  open_ : (nget s.crs.fenced b 0).testBit 4 = false

/-- The state at a message's stamp, with its lane's run of dropped messages ended. -/
def heard (s : State) (t : Stamp) (b lane : Nat) : State :=
  { s.advance t with crs := { s.crs with drops := dropKey (8 * b + lane) s.crs.drops } }

end Sys2Proof.Safety
end

