-- ==== Sys2Proof/Certificates/Slice0/Obligations.lean ====
section
/-! DEFINITION. The statements for the provers. -/

open Sys2Proof Sys2Proof.Machine Sys2Proof.Safety

/-! ### The block and its queue -/

/-- A step runs the command at the front of the queue on the state with the queue's rest; with an empty queue the block idles, which is
the model's choice (log 2). -/
def Obligations.StepRunsTheFront : Prop :=
  (∀ (c : Instr) (s : State), step { s with pending := c :: s.pending } = exec c s) ∧
  (∀ s : State, s.pending = [] → step s = .next s)

/-- Every step answers a next state, and takes exactly the front command off the queue: no command faults, is refused, or touches the
queue. -/
def Obligations.EveryStepGoesOn : Prop :=
  ∀ s : State, ∃ t : State, step s = .next t ∧ t.pending = s.pending.tail

/-- R85: no step makes the STB smaller but a reset, a loss of power or a start: a bound that the STB has reached stays reached. -/
def Obligations.StbNeverDecreases : Prop :=
  ∀ (b : Stamp) (s t : State),
    (∀ (c : Instr), s.pending.head? = some c → c ≠ .pkgReset ∧ (∀ n, c ≠ .powerLoss n) ∧ (∀ u x, c ≠ .startUp u x)) →
    b ≤ s.stb → step s = .next t → b ≤ t.stb

/-- R85, R100, R438: at reset the queue and memory are empty, the STB is 0, no package runs, every output of the board is at its level of
reset, and the invariants hold: memory has its canonical form and no ring holds more than its bound. -/
def Obligations.ResetState : Prop :=
  State.reset.pending = [] ∧ State.reset.stb = 0 ∧ State.reset.up = false ∧ State.reset.mem.cells = [] ∧
    Memory.wf State.reset.mem.cells = true ∧ State.reset.pins.faultN = true ∧ State.reset.pins.thermtripN = true ∧
    State.reset.pins.nfActiveN = true ∧ State.reset.pins.pkgReady = false ∧ State.reset.pins.smbalertN = true ∧
    (∀ m, m < 64 → State.reset.cmpUsed m = 0 ∧ State.reset.evtUsed m = 0) ∧ (∀ h r, State.reset.xreg h r = 0)

/-- R49, R53: a completion that is written takes one entry, and neither the completions that are due nor an event that is delivered ever
make a ring hold more than its 16 and 32 entries. -/
def Obligations.RingsKeepTheirBounds : Prop :=
  (∀ (s : State) (m : Nat) (c : Cmp), s.cmpUsed m < 16 → (s.writeCmp m c).cmpUsed m = s.cmpUsed m + 1) ∧
  (∀ (s : State) (m n : Nat), s.cmpUsed n ≤ 16 → (s.flushBox m).cmpUsed n ≤ 16) ∧
  (∀ (s : State) (m code n : Nat) (x : Stamp) (p : List Byte), s.evtUsed n ≤ 32 → (s.pushEvt m code x p).evtUsed n ≤ 32) ∧
  (∀ (s : State) (code n : Nat) (x : Stamp) (p : List Byte) (sc : EvScope), s.evtUsed n ≤ 32 → (s.deliver code x p sc).evtUsed n ≤ 32)

/-- R28, R182: a byte that is written reads back and every other byte is as it was; a line that is written changes only the bytes named,
which read back where a controller serves the line. -/
def Obligations.MemoryKeepsItsBytes : Prop :=
  (∀ (s : State) (a b : Nat) (v : Byte), (s.setByte a v).byteAt b = if b = a then v else s.byteAt b) ∧
  (∀ (s : State) (line off : Nat) (d : List Byte) (poison : Bool) (b : Nat),
    (b < line * 64 + off ∨ line * 64 + off + d.length ≤ b) → (s.writeLine line off d poison).byteAt b = s.byteAt b) ∧
  (∀ (s : State) (line off : Nat) (d : List Byte) (poison : Bool) (c x k : Nat), s.memberAt (line * 64) = some (c, x) → s.server c = some k →
    (s.writeLine line off d poison).bytesAt (line * 64 + off) d.length = d)

/-- x0 reads 0 and a write of it is discarded; a write of another integer register changes that register of that hart and nothing
else. -/
def Obligations.IntegerRegisters : Prop :=
  ∀ (s : State) (h r g q : Nat) (v : Word), s.xreg h 0 = 0 ∧ s.setX h 0 v = s ∧
    (s.setX h r v).xreg g q = (if g = h ∧ q = r ∧ r ≠ 0 then v else s.xreg g q) ∧
    (s.setX h r v).mem = s.mem ∧ (s.setX h r v).regs = s.regs ∧ (s.setX h r v).csrs = s.csrs ∧ (s.setX h r v).harts = s.harts

/-- R86: the frame number, the keeper tick and RISC-V time are the bits of the STB that the rule gives, a meridian opens its frame, and
frame F occupies [F × 32,768, (F + 1) × 32,768). -/
def Obligations.TimeQuantities : Prop :=
  (∀ t : Stamp, t < 2 ^ 64 → frameOf t = bitsOf t 15 49 ∧ keeperTick t = bitsOf t 10 54) ∧
  (∀ F t, frameOf t = F ↔ F * 32768 ≤ t ∧ t < (F + 1) * 32768) ∧
  (∀ F, bitsOf (meridianOf F) 0 15 = 0 ∧ frameOf (meridianOf F) = F) ∧
  (∀ (s : State) (h : Nat), (s.hart h).virt = false → s.regionStb (h / 24) < 2 ^ 64 →
    s.csrRead h 0xC01 = (bitsOf (s.regionStb (h / 24)) 6 58, s))

/-- R8: where a field is written with a reserved encoding, it keeps its previous value, whoever writes it and however many of its bytes. (A field
of type W1C or W1S holds bits that act one by one and has no reserved encoding.) -/
def Obligations.ReservedEncodingIgnored : Prop :=
  ∀ (s : State) (f : Fld) (i o n v : Nat) (secure : Bool), f.acc ≠ .w1c → f.acc ≠ .w1s →
    reservedEnc f i (f.written (s.word f.reg i f.word) o n v) = true →
    (s.writeField f i o n v secure).fld f i = s.fld f i

/-- R412: SAVE_RELEASE sets STATE 3 in the oldest held image, whose slot is then free, and leaves every other slot's image; in SAVE_STATUS
3 takes precedence over 2, and 2 over 0 and 1. -/
def Obligations.SaveReleaseAndStatus : Prop :=
  (∀ (c : Caller) (p : List Byte) (s : State) (im : Image), s.oldestImage = some im →
    let r := cmdSaveRelease c p s
    r.final = some ⟨stOk, 0, []⟩ ∧ r.state.imageIn im.slot = some { im with state := 3 } ∧ ({ im with state := 3 } : Image).held = false ∧
      ∀ k, k ≠ im.slot → r.state.imageIn k = s.imageIn k) ∧
  (∀ (c : Caller) (p : List Byte) (s : State), ∃ r : List Byte, (cmdSaveStatus c p s).final = some ⟨stOk, 0, r⟩ ∧
    (s.restoring = true → leAt r 0 1 = 3) ∧
    (s.restoring = false → s.fld NF_STATUS.HELD 0 ≠ 0 → leAt r 0 1 = 2) ∧
    (s.restoring = false → s.fld NF_STATUS.HELD 0 = 0 → leAt r 0 1 < 2))

/-- The commands that only report leave the whole state as it is, but for the free values that a MAINT_STATUS or a GET_TOPOLOGY takes
(log 8). -/
def Obligations.QueriesChangeNothing : Prop :=
  ∀ (c : Caller) (p : List Byte) (s : State), (cmdGetInfo c p s).state = s ∧ (cmdGetCaps c p s).state = s ∧
    (cmdQueryCapacity c p s).state = s ∧ (cmdStbStatus c p s).state = s ∧ (cmdSaveStatus c p s).state = s ∧
    (cmdThermalStatus c p s).state = s ∧ (cmdFaultLogRead c p s).state = s ∧
    (∃ n, (cmdMaintStatus c p s).state = { s with freshCount := n }) ∧ (∃ n, (cmdGetTopology c p s).state = { s with freshCount := n })

/-! ### Commands of the mailboxes -/

/-- R62: each information command that is carried out ends with its answer. R62, R66: each booking command that is carried out leaves
what the Almanac does of it. -/
def Obligations.BookingCommands : Prop :=
  carries .getInfo 0x0000 anyPayload cmdGetInfo ∧ carries .getCaps 0x0001 anyPayload cmdGetCaps ∧
  carries .getTopology 0x0002 anyPayload cmdGetTopology ∧
  carries .book 0x0100 anyPayload cmdBook ∧ carries .unbook 0x0101 anyPayload cmdUnbook ∧
  carries .queryBookings 0x0102 anyPayload cmdQueryBookings ∧ carries .queryCapacity 0x0103 anyPayload cmdQueryCapacity ∧
  carries .setPrecedence 0x0104 anyPayload cmdSetPrecedence

/-- R62, R67, R68: each service and pair command that is carried out leaves its effect. R62, R69: each world and memory command that is
carried out leaves its effect. -/
def Obligations.ServiceAndMemoryCommands : Prop :=
  carries .defineClass 0x0200 anyPayload cmdDefineClass ∧ carries .defineGroup 0x0201 anyPayload cmdDefineGroup ∧
  carries .bindChannel 0x0202 anyPayload cmdBindChannel ∧ carries .lockChannels 0x0203 anyPayload cmdLockChannels ∧
  carries .releaseGroup 0x0204 anyPayload cmdReleaseGroup ∧ carries .pair 0x0300 anyPayload cmdPair ∧
  carries .unpair 0x0301 anyPayload cmdUnpair ∧
  carries .setWorldTiles 0x0400 anyPayload cmdSetWorldTiles ∧ carries .setBlockWorld 0x0401 anyPayload cmdSetBlockWorld ∧
  carries .poolGrant 0x0402 anyPayload cmdPoolGrant ∧ carries .setNodePolicy 0x0403 anyPayload cmdSetNodePolicy ∧
  carries .mirrorChannels 0x0404 anyPayload cmdMirrorChannels

/-- R62, R70 to R72: each maintenance and fault command that is carried out leaves its effect. R62, R73, R74: each time-base and save
command that is carried out leaves its effect. -/
def Obligations.MaintenanceTimeAndSaveCommands : Prop :=
  carries .maintStart 0x0500 anyPayload cmdMaintStart ∧ carries .maintStatus 0x0501 anyPayload cmdMaintStatus ∧
  carries .maintAbort 0x0502 anyPayload cmdMaintAbort ∧ carries .retire 0x0503 anyPayload cmdRetire ∧
  carries .restoreUnit 0x0504 anyPayload cmdRestoreUnit ∧ carries .faultLogRead 0x0600 anyPayload cmdFaultLogRead ∧
  carries .setSeverity 0x0601 anyPayload cmdSetSeverity ∧ carries .faultClear 0x0602 anyPayload cmdFaultClear ∧
  carries .stbConfig 0x0700 anyPayload cmdStbConfig ∧ carries .stbStatus 0x0701 anyPayload cmdStbStatus ∧
  carries .saveListSet 0x0800 anyPayload cmdSaveListSet ∧ carries .saveStatus 0x0801 anyPayload cmdSaveStatus ∧
  carries .restoreBegin 0x0802 anyPayload cmdRestoreBegin ∧ carries .saveRelease 0x0803 anyPayload cmdSaveRelease

/-- R62, R75: each constellation command that is carried out leaves its effect, whatever its links find. R62, R76, R77: each tenant and
power command that is carried out leaves its effect. R62, R78, R79: each debug and firmware command that is carried out leaves its
effect. The two subcommands of DEBUG_AUTH have a row each. R424: each subcommand of COUNTER_ACCESS that is carried out leaves its
effect. -/
def Obligations.ConstellationTenantPowerAndDebugCommands : Prop :=
  (∀ x : Found, carries (fun t m => .constJoin t m x) 0x0900 anyPayload (cmdConstJoin x)) ∧
  (∀ refs : Bool, carries (fun t m => .constLeave t m refs) 0x0901 anyPayload (cmdConstLeave refs)) ∧
  carries .constRoute 0x0902 anyPayload cmdConstRoute ∧
  (∀ a : Option Bool, carries (fun t m => .journalMirror t m a) 0x0903 anyPayload (cmdJournalMirror a)) ∧
  carries .vfAssign 0x0A00 anyPayload cmdVfAssign ∧ carries .vfQuiesce 0x0A01 anyPayload cmdVfQuiesce ∧
  carries .vfResume 0x0A02 anyPayload cmdVfResume ∧ carries .powerLimit 0x0B00 anyPayload cmdPowerLimit ∧
  carries .thermalStatus 0x0B01 anyPayload cmdThermalStatus ∧ carries .setVotePolicy 0x0B02 anyPayload cmdSetVotePolicy ∧
  carries .debugAuthChallenge 0x0C00 (fun p => leAt p 0 1 != 1) cmdAuthChallenge ∧
  carries .debugAuthResponse 0x0C00 (fun p => leAt p 0 1 == 1) cmdAuthResponse ∧
  carries .debugRevoke 0x0C01 anyPayload cmdDebugRevoke ∧ carries .fwStage 0x0D00 anyPayload cmdFwStage ∧
  carries .fwActivate 0x0D01 anyPayload cmdFwActivate ∧
  carries .counterAccessGrant 0x0E00 (fun p => leAt p 0 1 == 0 || decide (3 < leAt p 0 1)) cmdCounterGrant ∧
  carries .counterAccessRevoke 0x0E00 (fun p => leAt p 0 1 == 1) cmdCounterRevoke ∧
  carries .counterAccessRead 0x0E00 (fun p => leAt p 0 1 == 2) cmdCounterRead ∧
  carries .counterAccessSet 0x0E00 (fun p => leAt p 0 1 == 3) cmdCounterSet

/-! ### The keeper and its mailboxes -/

/-- R39: a divergence starts a restart, in which KEEPER_RESTART reads 1 in every mailbox, and latches chip source 25; one within an hour
of the last also latches 26. The end of the restart lets every mailbox go on and writes EV_KEEPER_RESTART. -/
def Obligations.KeeperRestarts : Prop :=
  (∀ (s : State) (t : Stamp), s.up = true → s.keeper.restarting = none →
    (∀ d, s.keeper.lastDiv = some d → hourTicks ≤ (s.advance t).stb - d) →
    let a := s.advance t
    exec (.keeperDivergence t) s = settled s t
      (((List.range 64).foldl (fun (r : State) m => r.set MBX_STATUS.KEEPER_RESTART m 1)
        { a with keeper := { a.keeper with lastDiv := some a.stb, restarting := some 0, restartAt := a.stb } }).raise
          { coll := .chip, bit := 25 })) ∧
  (∀ (s : State) (t : Stamp) (d : Stamp), s.up = true → s.keeper.restarting = none → s.keeper.lastDiv = some d →
    (s.advance t).stb - d < hourTicks →
    let a := s.advance t
    exec (.keeperDivergence t) s = settled s t
      ((((List.range 64).foldl (fun (r : State) m => r.set MBX_STATUS.KEEPER_RESTART m 1)
        { a with keeper := { a.keeper with lastDiv := some a.stb, restarting := some 0, restartAt := a.stb } }).raise
          { coll := .chip, bit := 25 }).raise { coll := .chip, bit := 26 })) ∧
  (∀ (s : State) (t : Stamp) (cause : Nat), s.up = true → s.keeper.restarting = some cause → s.keeper.held = [] →
    let a := s.advance t
    exec (.keeperRestartEnd t) s = settled s t
      (([0, 2, 4, 6].foldl State.rebuildBst ((List.range 64).foldl State.lostEvent ((List.range 64).foldl
        (restartBox cause (a.stb - a.keeper.restartAt))
        { a with keeper := { a.keeper with restarting := none, held := [] } }))).event 0x0A a.keeper.restartAt (leBytes 1 cause)))

/-- R47: a doorbell of at most 16 commands whose tail does not move backwards copies the new slots with its stamp, and ends IDLE. -/
def Obligations.CommandDoorbellCopies : Prop :=
  ∀ (s : State) (t : Stamp) (m : Nat) (via : Via) (tail : Nat), s.up = true → m < 64 → s.pathOk m via = true →
    (s.box m).resetting = false → s.fld MBX_STATUS.READY m ≠ 0 →
    let n := (tail % 32 + 32 - s.fld MBX_STATUS.CMD_HEAD m) % 32
    let b := s.box m
    n ≤ 16 → b.waiting.length ≤ n →
    ∃ r : State, exec (.mbxDoorbellCmdTail t m via tail) s = left s t r ∧
      (r.box m).waiting = b.waiting ++ (List.range (n - b.waiting.length)).map (fun i =>
        ⟨b.slot ((s.fld MBX_STATUS.CMD_HEAD m + b.waiting.length + i) % 16), max s.stb t, 0⟩) ∧
      (∀ j, j ≠ m → r.box j = s.box j) ∧ r.fld PPM_STATUS.IDLE 0 = 0 ∧ r.mem = s.mem

/-- R47: a doorbell while the mailbox is not READY, or with a tail moved backwards, sets BAD_DOORBELL; one of more than 16 commands sets
RING_OVERRUN. Nothing else changes. -/
def Obligations.CommandDoorbellRefused : Prop :=
  ∀ (s : State) (t : Stamp) (m : Nat) (via : Via) (tail : Nat), s.up = true → m < 64 → s.pathOk m via = true →
    (s.box m).resetting = false →
    let n := (tail % 32 + 32 - s.fld MBX_STATUS.CMD_HEAD m) % 32
    (s.fld MBX_STATUS.READY m = 0 →
      exec (.mbxDoorbellCmdTail t m via tail) s = left s t ((s.advance t).set MBX_ERR.BAD_DOORBELL m 1)) ∧
    (s.fld MBX_STATUS.READY m ≠ 0 → 16 < n →
      exec (.mbxDoorbellCmdTail t m via tail) s = left s t ((s.advance t).set MBX_ERR.RING_OVERRUN m 1)) ∧
    (s.fld MBX_STATUS.READY m ≠ 0 → n ≤ 16 → n < (s.box m).waiting.length →
      exec (.mbxDoorbellCmdTail t m via tail) s = left s t ((s.advance t).set MBX_ERR.BAD_DOORBELL m 1))

/-- R49, R52, R53: the consumer heads free entries where they do not pass the tail; a mailbox reset begins and ends. -/
def Obligations.MailboxPointersAndReset : Prop :=
  (∀ (s : State) (t : Stamp) (m : Nat) (via : Via) (head : Nat), s.up = true → m < 64 → s.pathOk m via = true →
    s.keeper.restarting = none →
    ((head % 32 + 32 - s.fld MBX_CMP_HEAD.CMP_HEAD m) % 32 ≤ s.cmpUsed m →
      exec (.mbxCmpHead t m via head) s =
        settled s t ((((s.advance t).set MBX_CMP_HEAD.CMP_HEAD m head).alertRelease).flushBox m)) ∧
    ((head % 64 + 64 - s.fld MBX_EVT_HEAD.EVT_HEAD m) % 64 ≤ s.evtUsed m →
      exec (.mbxEvtHead t m via head) s =
        settled s t ((((s.advance t).set MBX_EVT_HEAD.EVT_HEAD m head).alertRelease).lostEvent m))) ∧
  (∀ (s : State) (t : Stamp) (m : Nat) (via : Via), s.up = true → m < 64 → s.pathOk m via = true →
    ∃ r : State, exec (.mbxDoorbellReset t m via) s = settled s t r ∧ (r.box m).waiting = [] ∧ (r.box m).resetting = true ∧
      (r.box m).taken = (s.box m).taken.map (fun k => { k with discard := true }) ∧ r.cmpUsed m = 0 ∧ r.evtUsed m = 0 ∧
      r.fld MBX_STATUS.READY m = 0 ∧ r.fld MBX_SEQ.SEQ_EXPECT m = 0) ∧
  (∀ (s : State) (t : Stamp) (m : Nat), s.up = true → m < 64 → (s.box m).resetting = true →
    exec (.mailboxResetEnd t m) s = settled s t
      ((((s.advance t).setBox m { s.box m with resetting := false })).set MBX_STATUS.READY m 1).portsReady)

/-- R48, R49: the keeper takes the oldest command of the mailbox whose command comes first. R51: the commands of a SEQ whose bound has
passed end with ST_TIMEOUT and without effect, and one with ST_PENDING whose end is known gets its final completion. -/
def Obligations.CommandsTakenAndEnded : Prop :=
  (∀ (s : State) (t : Stamp) (m : Nat), s.up = true → s.keeper.restarting = none → s.keeper.activate = none →
    (s.advance t).firstBox = some m →
    exec (.commandTake t) s = settled s t ((s.advance t).takeFrom m)) ∧
  (∀ (s : State) (t : Stamp) (m seq : Nat), s.up = true → s.keeper.restarting = none →
    exec (.commandBoundExpiry t m seq) s = settled s t
      (((s.advance t).dropCommands m stTimeout
        (fun k => k.seq == seq && k.final.isNone && decide (k.bound ≤ (s.advance t).stb))).flushBox m)) ∧
  (∀ (s : State) (t : Stamp) (m seq : Nat), s.up = true → s.keeper.restarting = none →
    exec (.finalCompletion t m seq) s = settled s t
      (((s.advance t).mapTaken m (fun k => k.seq == seq && k.pended && k.final.isSome)
        (fun k => { k with due := true })).flushBox m))

/-- R46: on the sideband bus a pointer write with a good PEC sets the pointer, a data write stores 8-byte words at it, a data read
answers 32 bytes, and the Alert Response Address is answered while SMBALERT_N is asserted; a bad PEC is NACKed with no effect. -/
def Obligations.SidebandBus : Prop :=
  (∀ (s : State) (t : Stamp) (m off : Nat), s.up = true → s.pow.eclipse = false → m < 64 → off % 8 = 0 → off < 0x4000 →
    let a := s.advance t
    exec (.smbusPointerWrite t m off true) s = settled s t { a with keeper := { a.keeper with ptrBox := m, ptrOff := off } }) ∧
  (∀ (s : State) (t : Stamp) (data : List Byte), s.up = true → s.pow.eclipse = false → data.length % 8 = 0 → 8 ≤ data.length →
    data.length ≤ 32 →
    exec (.smbusDataWrite t data true) s = settled s t (smbusStore (data.length / 8) data (s.advance t))) ∧
  (∀ (s : State) (t : Stamp), s.up = true → s.pow.eclipse = false →
    exec (.smbusDataRead t) s =
      settled s t ((smbusLoad 4 (s.advance t)).2.emit .smbus [0xA2] (smbusLoad 4 (s.advance t)).1)) ∧
  (∀ (s : State) (t : Stamp), s.up = true → s.pins.smbalertN = false →
    exec (.alertResponseAddress t) s =
      settled s t ((s.advance t).emit .alertAddress [s.fld STRAP_STATUS.SMB_ADDR_USED 0])) ∧
  (∀ (s : State) (t : Stamp) (m off : Nat) (data : List Byte), s.up = true →
    exec (.smbusPointerWrite t m off false) s = settled s t ((s.advance t).emit .smbusNack [0xA0]) ∧
    exec (.smbusDataWrite t data false) s = settled s t ((s.advance t).emit .smbusNack [0xA1]))

/-! ### Faults and maintenance -/

/-- R357: an event at a source that R367 assigns is latched, added to its bucket and driven upward, after what its unit does by itself
and before what the source leads to. R365: a bucket loses one level for each period since its L0 that has ended, and not below 0; R366: so does an
element's bucket. R364: while the keeper runs, the records that wait are written in the order of their stamps and their sources read; a
source that stays latched at DEGRADE or above is polled. -/
def Obligations.FaultEventsCollected : Prop :=
  (∀ (s : State) (t : Stamp) (e : FaultEvt) (d : Source), s.up = true → e.coll.source e.bit = some d →
    let q := (s.advance t).unitActs e
    exec (.faultEvent t e) s = settled s t ((q.2.raise q.1).sourceAction e.coll q.1.bit)) ∧
  (∀ (s : State) (t : Stamp) (c : Coll) (b : Nat), s.up = true → (c.source b).map Source.elem = some .none →
    s.fld FLT_SRC.LEVEL (srcIdx c b) ≠ 0 → s.fld FLT_SRC.LEAK_MS (srcIdx c b) ≠ 0 →
    let a := s.advance t
    let i := srcIdx c b
    let p := 4000000 * s.fld FLT_SRC.LEAK_MS i
    let n := (a.stampIn c.home - nget s.faults.starts i 0) / p
    exec (.bucketLeak t c b none) s = left s t (({ a with faults := { a.faults with
      starts := nput a.faults.starts i (nget s.faults.starts i 0 + n * p) } } : State).set FLT_SRC.LEVEL i (s.fld FLT_SRC.LEVEL i - n))) ∧
  (∀ (s : State) (t : Stamp) (c : Coll) (b x : Nat) (q : ElemBucket), s.up = true → s.faults.elems = [q] → q.coll = c → q.bit = b →
    q.elem = x → q.level ≠ 0 → (s.elemCfg c b x).2 ≠ 0 →
    let n := ((s.advance t).stampIn c.home - q.start) / (4000000 * (s.elemCfg c b x).2)
    ∃ r : State, exec (.bucketLeak t c b (some x)) s = left s t r ∧
      r.faults.elems = [{ q with level := q.level - n, start := q.start + n * (4000000 * (s.elemCfg c b x).2) }] ∧
      r.fld FLT_SRC.LEVEL (srcIdx c b) = (q.level - n) % 65536) ∧
  (∀ (s : State) (t : Stamp), s.up = true → s.keeper.restarting = none →
    let rs := s.faults.pend.foldl (fun xs r => insertRec r xs) []
    let a := s.advance t
    exec (.faultRecordWrite t) s = settled s t
      (rs.foldl (fun (r : State) x => r.readSource x.evt.coll x.evt.bit)
        (rs.foldl State.writeRec { a with faults := { a.faults with pend := [] } }))) ∧
  (∀ (s : State) (t : Stamp) (c : Coll) (b : Nat), s.up = true → s.keeper.restarting = none → s.busySources = [(c, b)] →
    s.latched c b = true → 2 ≤ s.latchSev c b →
    s.faults.pend.any (fun r => r.evt.coll == c && r.evt.bit == b) = false →
    let a := s.advance t
    let r := s.furtherRec c b
    r.evt.coll = c ∧ r.evt.bit = b ∧ r.count = s.fld FLT_SRC.EVENTS (srcIdx c b) ∧ r.sev = s.latchSev c b ∧
      r.stamp = s.fld FLT_SRC.LAST_STAMP (srcIdx c b) ∧
      exec (.latchedSourcePoll t) s = left s t (({ a with faults := { a.faults with more := dropKey (srcIdx c b) a.faults.more } }.writeRec r).set
        FLT_SRC.EVENTS (srcIdx c b) 0))

/-- R357, R359, R360: raising an event at an assigned source leaves its bit latched and counts the event; memory, the harts' registers
and the queue are as before. -/
def Obligations.RaiseLatches : Prop :=
  ∀ (s : State) (e : FaultEvt) (d : Source), e.coll.source e.bit = some d → e.bit < 64 →
    (s.raise e).latched e.coll e.bit = true ∧ (s.raise e).mem = s.mem ∧ (s.raise e).xregs = s.xregs ∧
      (s.raise e).csrs = s.csrs ∧ (s.raise e).pending = s.pending ∧ (s.raise e).stb = s.stb

/-- R372 to R378: the queue of activities is walked while the keeper runs, and an activity that may end does so. R226, R227, R275, R377:
the patrol's next read advances its line while the controller's queue is at level 0; a pass that is late raises a NOTE; a scrub buffer's
oldest line is rewritten; a copy hold ends; a deferred stall starts in a frame without one. -/
def Obligations.MaintenanceActivities : Prop :=
  (∀ (s : State) (t : Stamp), s.up = true → s.keeper.restarting = none →
    exec (.maintQueueWalk t) s = settled s t (s.advance t).walkQueue) ∧
  (∀ (s : State) (t : Stamp) (id : Nat) (ok : Bool) (a : Activity), s.up = true → s.activity id = some a →
    (s.advance t).mayEnd a = true → exec (.activityEnd t id ok) s = settled s t ((s.advance t).endAct a ok)) ∧
  (∀ (s : State) (t : Stamp) (b : Nat), s.up = true → (lookupKey b s.units.retiring).isSome = true →
    exec (.brickRetirement t b) s = settled s t ((s.advance t).retireBrick b)) ∧
  (∀ (s : State) (t : Stamp) (n outcome c : Nat) (e : Option Nat) (a : Activity), s.up = true →
    s.running.find? (fun a => a.code == 0 && a.node == some n && a.pausers.isEmpty && decide (a.param < s.nodeLines n)) = some a →
    (s.memberAt (64 * (slotBase n / 64 + a.param))).bind (fun q => s.server q.1) = some c → s.fld MC_STATUS.QLEVEL c = 0 →
    exec (.patrolScrubRead t n outcome e) s = settled s t
      (((s.advance t).setAct { a with param := a.param + 1 }).patrolFind c (slotBase n / 64 + a.param) outcome e)) ∧
  (∀ (s : State) (t : Stamp) (n : Nat) (a : Activity), s.up = true → n < 4 →
    s.running.find? (fun a => a.code == 0 && a.node == some n && a.pair == 0) = some a → s.fld MEM_NODE.PATROL_H n ≠ 0 →
    a.start + s.fld MEM_NODE.PATROL_H n * 21600000000000 ≤ (s.advance t).stb →
    exec (.patrolPassLate t n) s = settled s t (((s.advance t).setAct { a with pair := 1 }).note41 a.unit)) ∧
  (∀ (s : State) (t : Stamp) (c l : Nat) (r : List Nat), s.up = true → nget s.mem.scrub c [] = l :: r →
    s.sharedFree c = true → exec (.demandScrubRewrite t c) s = left s t (((s.advance t).rewrite l).fillQueue (queueOf c))) ∧
  (∀ (s : State) (t : Stamp) (i : Nat), s.up = true → s.crs.holds = [i] →
    let a := s.advance t
    exec (.copyHoldEnd t i) s = left s t (({ a with crs := { a.crs with holds := [] } }).set MNT_STATE.COPY_HOLD 0 0)) ∧
  (∀ (s : State) (t : Stamp) (i : Nat) (x : Stall), s.up = true → s.crs.stalls.find? (fun x => x.course == i) = some x →
    (s.advance t).stalledNow i = false →
    let a := s.advance t
    exec (.deferredStall t i) s = settled s t
      (({ a with crs := { a.crs with stalls := a.crs.stalls.erase x } }).lateStall x))

/-! ### Registers and counters -/

/-- R31, R32: a naturally aligned write of 4 or 8 bytes to a register that has no row of its own acts as the register port does it; a
row of its own does the same for its register. R420 to R422: a read of CTR_VALUE answers the sample with the low 16 bits of its stamp; a
counter that passes 2^48 − 1 wraps. -/
def Obligations.RegisterWritesAndCounters : Prop :=
  (∀ (s : State) (t : Stamp) (via : Via) (addr size value : Nat), s.up = true →
    let w := settled s t ((s.advance t).regWrite via addr size value).state
    (ownRow addr = false → exec (.registerWrite t via addr size value) s = w) ∧
    (namesReg .CTR_CFG addr = true → exec (.ctrCfg t via addr size value) s = w) ∧
    (namesReg .BLK_CLK_CTRL addr = true → exec (.blkClkCtrl t via addr size value) s = w) ∧
    (namesReg .WLD_BLK_SEC addr = true → exec (.svote t via addr size value) s = w) ∧
    (namesReg .WLD_BLK_SEC addr = true → exec (.sgate t via addr size value) s = w) ∧
    (namesReg .CORE_PWR addr = true → exec (.clkSrc t via addr size value) s = w) ∧
    (namesReg .JNL_DRAIN addr = true → exec (.jnlDrainEnable t via addr size value) s = w) ∧
    (namesReg .CST_MSG_SEND addr = true → exec (.cstMsgSend t via addr size value) s = w)) ∧
  (∀ (s : State) (t : Stamp) (via : Via) (addr size : Nat), s.up = true → namesReg .CTR_VALUE addr = true →
    let q := (s.advance t).regRead via addr size
    exec (.ctrValue t via addr size) s = settled s t (q.state.emit .regRead [addr, q.err, q.val])) ∧
  (∀ (s : State) (t : Stamp) (bank i : Nat), s.up = true → bank ≤ 8856 → i < bankSize bank →
    (s.advance t).hiddenCount bank i = true →
    exec (.counterWrap t bank i) s = settled s t ((s.advance t).counterWrap bank i)) ∧
  (∀ (s : State) (t : Stamp) (bank i : Nat), s.up = true → bank ≤ 8856 → i < bankSize bank →
    (s.advance t).hiddenCount bank i = false → 2 ^ 48 ≤ ((s.advance t).countParts bank i).1.1 →
    exec (.counterWrap t bank i) s = settled s t (((s.advance t).settleCount bank i).counterWrap bank i))

/-- R31, R266: an access of another size or alignment performs no operation, is refused with reason 3, and is noted. -/
def Obligations.MisalignedRegisterAccessRefused : Prop :=
  ∀ (s : State) (via : Via) (a n v : Nat), ¬ (n = 8 ∧ a % 8 = 0) → ¬ (n = 4 ∧ a % 4 = 0) →
    (s.regWrite via a n v).err = 3 ∧ (s.regWrite via a n v).state = s.note41 (regPlaceUnit a) a ∧
    (s.regRead via a n).err = 3 ∧ (s.regRead via a n).state = s.note41 (regPlaceUnit a) a

/-- R5, R6, R8: a write has no effect on an RWL field after the lock, on an SRW field from the normal world, and on a field of any
writable type where its value is a reserved encoding. -/
def Obligations.ProtectedFieldsIgnoreWrites : Prop :=
  (∀ (s : State) (f : Fld) (i o n v : Nat) (secure : Bool), s.locked = true → f.acc = .rwl → s.writeField f i o n v secure = s) ∧
  (∀ (s : State) (f : Fld) (i o n v : Nat), f.acc = .srw → s.writeField f i o n v false = s) ∧
  (∀ (s : State) (f : Fld) (i o n v : Nat) (secure : Bool), f.acc ≠ .w1c → f.acc ≠ .w1s →
    reservedEnc f i (f.written (s.word f.reg i f.word) o n v) = true → s.writeField f i o n v secure = s)

/-- R4: a register field reads back what was last set in it, modulo its width, and a field that does not share its bits is unchanged. -/
def Obligations.FieldReadsBack : Prop :=
  (∀ (s : State) (F : Fld) (i v : Nat), F.lo + F.w ≤ 64 → (s.set F i v).fld F i = v % 2 ^ F.w) ∧
  (∀ (s : State) (F G : Fld) (i j v : Nat), F.lo + F.w ≤ 64 → G.lo + G.w ≤ 64 →
    (F.reg ≠ G.reg ∨ i ≠ j ∨ F.word ≠ G.word ∨ F.lo + F.w ≤ G.lo ∨ G.lo + G.w ≤ F.lo) →
    (s.set F i v).fld G j = s.fld G j)

/-- R288, R294, R308, R310: a link that loses its light or meets the wrong peer is taken down; a member whose links here have all been down for 1 ms is lost, an
update of the membership is followed, and a grandmaster that is elected is noted, but none that R303 rules out. R301: a doorbell message of an allowed package that
names a hart in service becomes an MSI there, and any other is dropped and counted. -/
def Obligations.MembersAndTheirMessages : Prop :=
  (∀ (s : State) (t : Stamp) (l : Nat), s.up = true → l < 8 → (s.fld LINK_STATUS.STATE l = 2 ∨ s.fld LINK_STATUS.STATE l = 1) →
    let a := (s.advance t).dropLink l 0
    exec (.linkDown t l 0) s = settled s t a ∧
    exec (.linkDown t l 1) s = settled s t (a.set LB_STATUS.LINK_PATH_LOST 0 (withBit (a.fld LB_STATUS.LINK_PATH_LOST 0) l)) ∧
    exec (.linkDown t l 3) s = settled s t (a.set LINK_EVT.WRONG_PEER l 1)) ∧
  (∀ (s : State) (t : Stamp) (p : Nat), s.up = true → s.isMember p = true → p ≠ s.fld CST_STATUS.NUMBER 0 →
    (s.advance t).cutOff p = true →
    exec (.memberLost t p) s = settled s t (((s.advance t).loseMember p).sendUpdate p 1)) ∧
  (∀ (s : State) (t : Stamp) (p : Nat), s.up = true → s.is CST_STATUS.MEMBER 0 = true → p < 1024 → p ≠ s.fld CST_STATUS.NUMBER 0 →
    exec (.membershipUpdate t p false) s = settled s t ((s.advance t).loseMember p) ∧
    (s.isMember p = false → exec (.membershipUpdate t p true) s =
      settled s t (((s.advance t).setMember p true).constEvent p 0))) ∧
  (∀ (s : State) (t : Stamp), s.up = true →
    let n := s.fld CST_STATUS.NUMBER 0
    s.mayElect n = true →
    exec (.grandmasterElection t n) s =
      settled s t (((s.advance t).set CST_STATUS.GM 0 n).set CST_STATUS.IS_GM 0 1)) ∧
  (∀ (s : State) (t : Stamp) (gm : Nat), s.up = true → s.mayElect gm = false → exec (.grandmasterElection t gm) s = settled s t (s.advance t)) ∧
  (∀ (s : State) (t : Stamp) (src hart file guest eiid : Nat) (secure : Bool), s.up = true →
    let ok := (s.word .CST_MSG_ALLOW (src / 64) 0).toNat.testBit (src % 64) && !(file == 0 && !secure) && decide (hart < 288) &&
      s.coreUp hart && eiid != 0
    (ok = true → exec (.doorbellMessage t src hart file guest eiid secure) s =
      settled s t ((s.advance t).msi hart file (if file = 2 then guest else 0) eiid)) ∧
    (ok = false → exec (.doorbellMessage t src hart file guest eiid secure) s =
      settled s t ((s.advance t).bump CST_MSG_STATUS.DROPPED 0)))

/-! ### The Almanac -/

/-- R129: the recompute runs where a trigger waits; R124: a request at its metering point, whose turn it is, takes a unit of each of its
meters, or is demoted where one is empty; R126: the level of a controller's queue is heard, and nothing else changes. -/
def Obligations.AlmanacWorks : Prop :=
  (∀ (s : State) (t : Stamp), s.up = true → s.alm.trigs ≠ [] →
    exec (.recompute t) s = settled s t (s.advance t).recompute) ∧
  (∀ (s : State) (t : Stamp) (p : Pkt) (n i : Nat) (f : Flight), s.up = true → meterNode p = some n →
    s.fab.net.findIdx? (fun f => f.pkt == p && f.pkt.unmetered && f.point.isSome) = some i → s.fab.net[i]? = some f →
    let k := 2000 + f.point.getD 0
    (s.meterRivals f).any (fun g => decide (turnRank (s.turn k) g.pointSource < turnRank (s.turn k) f.pointSource)) = false →
    exec (.metering t p) s = left s t (((s.advance t).meter i p n).setTurn k f.pointSource)) ∧
  (∀ (s : State) (t : Stamp) (c : Nat), s.up = true → c < 80 →
    ∃ r : State, exec (.queueLevelChange t c (s.queueLevel (queueOf c))) s = left s t r ∧ nget r.mem.heard c 0 = s.queueLevel (queueOf c) ∧
      r.mem.cells = s.mem.cells ∧ r.mem.queue = s.mem.queue ∧ r.alm = s.alm ∧ r.fab = s.fab ∧ r.regs = s.regs)

/-- R124: metering takes one unit of the meter of a request of one direction while it has units left, and gives it booked standing and
its issue stamp, which it keeps; with none left the request is best effort. Memory, and every other packet, is as it was. -/
def Obligations.MeteringTakesUnits : Prop :=
  ∀ (s : State) (p : Pkt) (n d i : Nat) (f : Flight), meterDirs p.op = [d] → s.fab.net[i]? = some f →
    let m := meterIdx (unitRegion p.src) n d p.tag
    let r := s.meter i p n
    r.fab.net[i]? = some { f with pkt := { f.pkt with standing := s.fld ALM_METER.REMAINING m != 0, issued := some s.stb } } ∧
      r.fld ALM_METER.REMAINING m = s.fld ALM_METER.REMAINING m - 1 ∧ r.mem = s.mem ∧ r.xregs = s.xregs ∧
      ∀ j, j ≠ i → r.fab.net[j]? = s.fab.net[j]?

/-- R116, R119: a booking that fits is listed last with the next ID, owned by its mailbox, in force from the next frame; nothing else of
the Almanac's bookings changes. -/
def Obligations.BookAddsTheBooking : Prop :=
  ∀ (c : Caller) (p : List Byte) (s : State), (bookChecks p).find? Prod.snd = none → s.bookDenied c (s.bookingOf c p) = none →
    (s.alm.books.filter s.heldBooking).length < 16384 → (s.bookingOf c p).id ≠ 0 → s.fits c (s.bookingOf c p) = true → c.caps = [] →
    ∃ r : List Byte, (cmdBook c p s).final = some ⟨stOk, 0, r⟩ ∧
      (cmdBook c p s).state.alm.books = s.alm.books ++ [s.bookingOf c p] ∧ (s.bookingOf c p).owner = c.box ∧
      (s.bookingOf c p).effFrame = frameOf s.stb + 1 ∧ (s.bookingOf c p).id = s.fld ALM_NEXT_ID.NEXT_ID 0 ∧
      (cmdBook c p s).state.mem = s.mem

/-- R107, R119: no booking is granted that would take the booked amount of a resource above what was bookable when its command was
taken. -/
def Obligations.NoOvercommitment : Prop :=
  ∀ (c : Caller) (p : List Byte) (s : State) (r : List Byte) (n : Nat), (cmdBook c p s).final = some ⟨stOk, 0, r⟩ →
    n ∈ (s.bookingOf c p).touches → demandOn (s.countedFor c) n ≤ (s.capsFor c n).1 →
    demandOn (s.countedFor c ++ [s.bookingOf c p]) n ≤ (s.capsFor c n).1

/-! ### The time base -/

/-- R98 to R100: a valid pulse disciplines the STB, a loss of the reference goes to HOLDOVER or FAULT, and HOLDOVER ends after its time.
R91: at a meridian whose stamp the STB has reached, the frame opens. -/
def Obligations.TimeBaseEvents : Prop :=
  (∀ (s : State) (t : Stamp) (tick frac : Nat), s.up = true → pulseValid s.clock.lastEdge (25 * tick + frac) = true →
    s.fld STB_STATE.SOURCE 0 = 1 → 25 * tick + frac + 50 ≤ 25 * (s.advance t).stb → 25 * (s.advance t).stb ≤ 25 * tick + frac + 75 →
    let a := s.advance t
    let edge := 25 * tick + frac
    exec (.stbPps t tick frac) s = settled s t
      ((({ a with clock := { a.clock with lastEdge := some edge } }).disciplinePulse (gridOffset edge s.clock.epoch)
        (s.clock.refBad == 0)).landed a)) ∧
  (∀ (s : State) (t : Stamp) (pulses : Bool), s.up = true → (s.fld STB_STATE.STATE 0 = 1 ∨ s.fld STB_STATE.STATE 0 = 2) →
    s.clock.resync = none →
    (if pulses then s.clock.lastGood + 4400000000 ≤ (s.advance t).stb else 8 ≤ s.clock.refBad ∧ s.fld STB_STATE.SOURCE 0 = 1) →
    let b := (s.advance t).set STB_EVT.REF_LOST 0 1
    exec (.referenceLoss t pulses) s = settled s t (if b.is STB_STATE.HOLDOVER_EN 0 then (b.setDisc 3).holdTrim else b.discFault)) ∧
  (∀ (s : State) (t : Stamp), s.up = true → s.fld STB_STATE.STATE 0 = 3 →
    s.clock.holdAt + 4000000000 * s.fld STB_CTRL.HOLDOVER_S 0 ≤ (s.advance t).stb →
    exec (.holdoverExpiry t) s = settled s t (((s.advance t).set STB_EVT.HOLDOVER_EXPIRED 0 1).discFault)) ∧
  (∀ (s : State) (t : Stamp) (r : Resync), s.up = true → s.clock.resync = some r →
    r.start + msTicks 3000 ≤ (s.advance t).stb →
    exec (.resyncTimeout t) s = settled s t (((s.advance t).restoreSource).closeAct r.act 4 stTimeout)) ∧
  (∀ (s : State) (t : Stamp) (x : Measures) (errs : List Nat), s.up = true → t % 32768 = 0 → s.stb ≤ t →
    exec (.meridian t x errs) s = settled s t ((s.advance t).openFrame x errs))

/-- R87: a timer whose compare value the region's time has reached pends its interrupt; R93 to R96: at a meridian a replica's marker is
checked or missed once, its correction is made at the next, and its hold ends. -/
def Obligations.TimersAndReplicas : Prop :=
  (∀ (s : State) (t : Stamp) (h : Nat), s.up = true → h < 288 →
    (64 * (s.csr h csrStimecmp).toNat ≤ (s.advance t).regionStb (h / 24) →
      exec (.timerCompare t h false) s = settled s t ((s.advance t).setMip h 5 true)) ∧
    (64 * (s.csr h csrVstimecmp).toNat ≤ (s.advance t).regionStb (h / 24) →
      exec (.timerCompare t h true) s = settled s t ((s.advance t).setMip h 6 true))) ∧
  (∀ (s : State) (t : Stamp) (r : Nat) (residual off : Int), s.up = true → (s.advance t).markerDue r = true →
    let a := (s.advance t).trimDue r
    exec (.replicaMarkerCheck t r false residual off) s = settled s t (a.marker r residual off) ∧
    exec (.replicaMarkerCheck t r true residual off) s = settled s t (a.noMarker r)) ∧
  (∀ (s : State) (t : Stamp) (r : Nat), s.up = true → r < 16 → (s.replica r).off ≠ 0 → (s.replica r).fixed = none →
    (s.advance t).stb % 32768 = 0 → (s.replica r).offAt < frameOf (s.advance t).stb →
    ∃ u : State, exec (.replicaCorrection t r) s = settled s t u ∧ (u.replica r).off = 0 ∧
      (u.replica r).fixed = some (s.advance t).stb ∧ u.fld STB_REPLICA.REPLICA_ERR r = 1 ∧ u.latched (.region r) 19 = true) ∧
  (∀ (s : State) (t : Stamp) (r : Nat) (v : Stamp), s.up = true → (s.replica r).hold = some v → v ≤ (s.advance t).stb →
    exec (.replicaHoldEnd t r) s = left s t ((s.advance t).moveReplica r { s.replica r with hold := none }))

/-! ### Cores, pairs and translation -/

/-- R194, R195: a divergence of a running pair takes the pair out for self-test, counts it, latches source 6 of the core and tells of
it; with both cores good and fewer than three divergences in a day the pair runs again, with one good core that core runs alone. -/
def Obligations.PairsDivergeAndReturn : Prop :=
  (∀ (s : State) (t : Stamp) (a : Nat), s.up = true → a < 288 → s.fld CORE_PAIR.STATE a = 2 → s.is DSP_CORE.HOLDING a = false →
    s.is DSP_CORE.IN_GROUP a = false → s.fld CORE_PAIR.PARTNER a ≠ a → s.fld CORE_PAIR.PARTNER a < 288 →
    ∃ r : State, exec (.pairDivergence t a) s = settled s t r ∧ r.fld CORE_PAIR.STATE a = 4 ∧
      r.fld CORE_PAIR.STATE (s.fld CORE_PAIR.PARTNER a) = 4 ∧ r.units.testing = s.units.testing ++ [a, s.fld CORE_PAIR.PARTNER a] ∧
      r.mem.cells = s.mem.cells) ∧
  (∀ (s : State) (t : Stamp) (a : Nat) (okB : Bool), s.up = true → s.fld CORE_PAIR.STATE a = 4 →
    s.units.testing.contains a = true →
    let b := s.fld CORE_PAIR.PARTNER a
    (okB = true → s.fld CORE_PAIR.DIVERGENCES a < 3 →
      exec (.pairSelfTestDone t a true okB) s = settled s t (((s.advance t).setPair a b 2 3).release a b)) ∧
    (okB = false → exec (.pairSelfTestDone t a true okB) s = settled s t (((s.advance t).dropPair a b b).release a b)))

/-- R318 to R322: WSWITCH that may execute goes from the secure to the normal world and back in M-mode, returns from an open gate frame,
and elsewhere calls a gate. -/
def Obligations.WorldSwitch : Prop :=
  ∀ (s : State) (t : Stamp) (h ins : Nat), s.up = true → Executes s h ins 3 → insRs2 ins = 0 →
    let a := s.advance t
    (s.hartSecure h = true → (s.hart h).priv = 3 → s.is CORE_WFRAME.OPEN h = false →
      exec (.wswitch t h ins) s = settled s t ((a.toWorld h 0).retire h (insRd ins) 0)) ∧
    (s.hartSecure h = true → (s.hart h).priv = 3 → s.is CORE_WFRAME.OPEN h = true →
      exec (.wswitch t h ins) s = settled s t (a.gateReturn h (insRs1 ins))) ∧
    (s.hartSecure h = false → s.is CORE_WFRAME.OPEN h = false → (s.hart h).priv = 3 → s.is MWORLD.BLOCK_WORLD h = true →
      exec (.wswitch t h ins) s = settled s t ((a.toWorld h 1).retire h (insRd ins) 0)) ∧
    (s.hartSecure h = false → s.is CORE_WFRAME.OPEN h = false → (s.hart h).priv ≠ 3 →
      exec (.wswitch t h ins) s = settled s t (a.gateCall h (insRd ins) (s.xreg h (insRs1 ins))))

/-- R207, R208: a fence that a hart may execute drops the translations and the pointers to tables that it covers and no other, and goes
on; R180: FENCE.I drops none, and leaves no line in the hart's instruction cache. R199 to R201: a walk that finds what it needs leaves
the translation, one that fails traps, and one that needs an entry asks for it. -/
def Obligations.FencesAndWalks : Prop :=
  (∀ (s : State) (t : Stamp) (h : Nat) (k : FenceKind) (va asid : Option Nat) (ins : Nat), s.up = true → s.hartRuns h = true →
    s.fenceCause h k = none →
    ∃ r : State, exec (.sfenceVma t h k va asid ins) s = left s t r ∧
      r.fab.tlb = (if k = .i then s.fab.tlb else s.fab.tlb.filter (fun e => !(e.hart == h && s.covers h k va asid e))) ∧
      r.fab.ptrs = (if k = .i then s.fab.ptrs else s.fab.ptrs.filter (fun p => !(p.hart == h && s.coversPtr h k va asid p))) ∧
      (k = .i → ∀ q ∈ r.fab.lines, q.1.1 = h / 4 → q.2.l1.testBit (l1Bit h true) = false) ∧
      (r.hart h).pc = (s.hart h).pc + 4 ∧ r.mem = s.mem ∧ r.regs = s.regs ∧ r.xregs = s.xregs) ∧
  (∀ (s : State) (t : Stamp) (h va : Nat) (w : Want), s.up = true → s.hartRuns h = true →
    s.fab.walks.any (fun x => x.hart == h && x.va / 4096 == va % 2 ^ 64 / 4096) = false →
    let q := (s.advance t).walkBy h (va % 2 ^ 64) w
    (∀ pa, q.1 = .inr pa → exec (.tableWalk t h va w) s = left s t q.2) ∧
    (∀ f, q.1 = .inl f → f.need = none → lookupKey h s.fab.misses = none →
      exec (.tableWalk t h va w) s = left s t (q.2.walkTrap h (va % 2 ^ 64) f)) ∧
    (∀ f nd, q.1 = .inl f → f.need = some nd →
      exec (.tableWalk t h va w) s = left s t (q.2.askWalk ⟨h, va % 2 ^ 64, w, true, nd, 0, 0, none, none⟩)))

/-- R185 to R188: an access of an engine to its private range is served by its cache, one of a store outside it at once; a victim's
acknowledgement lets the miss go on, and a miss that completes performs its access. -/
def Obligations.EngineCacheServes : Prop :=
  (∀ (s : State) (t : Stamp) (e : Nat) (x : EngAcc), s.up = true → e < 16 → x.addr % 64 + x.size ≤ 64 →
    (x.store = true → x.data.length = x.size) → s.is IEC_CFG.ENABLE e = true → s.privateOf x.addr = some e →
    exec (.engineCacheAccess t e x) s = left s t ((s.advance t).engAccess e x)) ∧
  (∀ (s : State) (t : Stamp) (e : Nat) (v : Nat × EngLine) (x : EngAcc), s.up = true → (s.eng e).victim = some v →
    (s.eng e).miss = some x → x.whole = false → (s.advance t).victimFree e x v.1 v.2 = true →
    exec (.victimWritebackAck t e) s =
      left s t (((s.advance t).writeVictim e x (s.eng e) v.1 v.2).setEng e { (s.eng e).evict v.1 v.2 with victim := none })) ∧
  (∀ (s : State) (t : Stamp) (e : Nat) (x : EngAcc), s.up = true → (s.eng e).victim = none → (s.eng e).miss = some x →
    let a := s.advance t
    let g := a.engUses e x
    a.mayTraffic g false x.addr 1 = true →
    exec (.engineMissComplete t e) s =
      left s t (((a.traffic g false x.addr 1).setEng e ({ s.eng e with miss := none }.perform (s.engOff e x.addr) x)).rerun e))

/-! ### Service ops -/

/-- R138: a doorbell that names a channel of its path moves that channel's pointer as the rule says; R139, R140: an engine with a free
place fetches from the channel whose turn it is, and its descriptor's bytes are taken in. R148: of the descriptors that wait, the oldest
of each engine is evaluated, in ascending engine number, and R142: an engine issues its oldest answer. -/
def Obligations.ChannelsServedAndAnswered : Prop :=
  (∀ (s : State) (t : Stamp) (d : Door) (v ch : Nat) (k : Channel), s.up = true → s.behind d = .inr (ch, k) → v % 65536 < k.sqSize →
    k.stopped = false →
    exec (.ieChDbSqTail t d v) s = left s t ((s.advance t).setChan ch { k with sqTail := v % 65536 })) ∧
  (∀ (s : State) (t : Stamp) (d : Door) (v ch : Nat) (k : Channel), s.up = true → s.behind d = .inr (ch, k) → v % 65536 < k.cqSize →
    let adv := (v % 65536 + k.cqSize - k.cqHead % k.cqSize) % k.cqSize
    adv ≤ s.cqHeld ch k →
    exec (.ieChDbCqHead t d v) s = left s t ((s.advance t).setChan ch { k with cqHead := (k.cqHead + adv) % (2 * k.cqSize) })) ∧
  (∀ (s : State) (t : Stamp) (d : Door) (v e : Nat), s.up = true → s.behind d = .inl e →
    exec (.ieChDbSqTail t d v) s = left s t ((s.advance t).badBell e) ∧
    exec (.ieChDbCqHead t d v) s = left s t ((s.advance t).badBell e)) ∧
  (∀ (s : State) (t : Stamp) (e : Nat) (q : Nat × Channel), s.up = true → s.fld IE_STATUS.ENABLED e ≠ 0 →
    s.is CHIP_SAFE.SAFE 0 = false → e < 16 → (s.svc.descs.filter (fun d => d.engine == e)).length < 8 →
    (s.engineChans e).filter (fun q => (s.advance t).wantsFetch e q.1 q.2) = [q] → s.cqRoom e q.1 q.2 = true →
    exec (.descriptorFetch t e) s = settled s t ((s.advance t).fetchFrom e q.1 q.2)) ∧
  (∀ (s : State) (t : Stamp) (e ch : Nat) (bytes : List Byte) (d : Desc) (k : Channel), s.up = true →
    s.svc.descs.find? (fun d => d.engine == e && d.ch == ch && d.bytes.isEmpty) = some d → s.chan ch = some k → k.srcKind = 1 →
    bytes.length = 64 → (s.advance t).lateDesc k ch = none →
    exec (.intake t e ch bytes) s = settled s t (((s.advance t).endDescRead k ch).intake d k bytes)) ∧
  (∀ (s : State) (t : Stamp), s.up = true →
    let a := s.advance t
    exec (.admission t) s = settled s t
      (((List.range 16).filterMap (fun e => s.svc.descs.find? (fun d => d.engine == e && d.waiting))).foldl (State.admitDesc a) a)) ∧
  (∀ (s : State) (t : Stamp) (e : Nat) (w : Answer), s.up = true → s.svc.answers.find? (fun a => a.engine == e) = some w →
    (s.advance t).answerFree w = true →
    exec (.answer t e) s = settled s t ((s.advance t).issueAnswer w))

/-- R154: a TNEXT with a zero time limit at a core that holds an op, or is in no group, returns 0; another waits until its limit. R156:
TDONE answers with the op's result; the limit's end ends the wait. R155, R158, R160: an op whose budget has passed is decided
OP_OVERRUN, one whose deadline is near is guarded, and a core that does not take its next op for a frame is withdrawn from its group. -/
def Obligations.DispatchAndItsBounds : Prop :=
  (∀ (s : State) (t : Stamp) (h ins : Nat), s.up = true → Executes s h ins 0 → insRd ins ≠ 0 →
    (s.xreg h (insRs1 ins)).toNat % 64 = 0 → (s.is DSP_CORE.HOLDING h = true ∨ s.fld DSP_CORE.IN_GROUP h = 0) →
    exec (.tnext t h ins) s = settled s t ((s.advance t).retire h (insRd ins) 0)) ∧
  (∀ (s : State) (t : Stamp) (h ins : Nat), s.up = true → Executes s h ins 0 → insRd ins ≠ 0 →
    (s.xreg h (insRs1 ins)).toNat % 64 = 0 → s.is DSP_CORE.HOLDING h = false → s.fld DSP_CORE.IN_GROUP h ≠ 0 →
    0 < (s.xreg h (insRs2 ins)).toNat →
    let a := s.advance t
    exec (.tnext t h ins) s = settled s t ((a.setRun h { s.run h with
      tnext := some (insRd ins, (s.xreg h (insRs1 ins)).toNat, a.stb + min (s.xreg h (insRs2 ins)).toNat 32768) }).serveCore h)) ∧
  (∀ (s : State) (t : Stamp) (h : Nat) (q : Nat × Nat × Stamp), s.up = true → (s.run h).tnext = some q → q.2.2 ≤ (s.advance t).stb →
    exec (.tnextWaitExpiry t h) s = settled s t ((s.advance t).endWait h)) ∧
  (∀ (s : State) (t : Stamp) (h ins : Nat), s.up = true → Executes s h ins 1 → insRs2 ins = 0 →
    exec (.tdone t h ins) s =
      settled s t ((s.advance t).tdone h (insRd ins) ((s.xreg h (insRs1 ins)).toNat % 2 ^ 32))) ∧
  (∀ (s : State) (t : Stamp) (c : Nat) (o : Op), s.up = true → s.fld DSP_CORE.HOLDING c ≠ 0 → s.is DSP_CORE.ANSWERED c = false →
    s.op (s.fld DSP_CORE.OP_ID c) = some o → o.due = true → (s.run c).dispatched + o.budget ≤ (s.advance t).stb →
    exec (.budgetOverrun t c) s = settled s t (((s.advance t).decideOp o.main 2 1 0 none).set DSP_EVT.OVERRUN 0 1)) ∧
  (∀ (s : State) (t : Stamp) (id : Nat) (o : Op), s.up = true → s.op id = some o → o.mate = none → o.due = true →
    o.deadline ≤ (s.advance t).stb + guardTicks →
    exec (.deadlineGuard t id) s = settled s t
      ((if (s.parts id).any (fun p => p.state == .running) then (s.advance t).decideOp id 2 2 0 none
        else (s.advance t).withdraw o 2).set DSP_EVT.GUARD_FIRED 0 1)) ∧
  (∀ (s : State) (t : Stamp) (c : Nat) (x : Stamp), s.up = true → s.answerStamp c = some x → s.is DSP_CORE.HOLDING c = true →
    s.is DSP_CORE.IN_GROUP c = true → s.fld DSP_CORE.OUT c = 0 → x + 32768 ≤ (s.advance t).stb →
    exec (.coreWithdraw t c) s = settled s t
      (((((s.advance t).strand c).set DSP_CORE.OUT c 1).set DSP_EVT.CORE_WITHDRAWN 0 1).trigger [116 + s.fld DSP_CORE.GROUP c] false
        (coreColl c).unit))

/-- R163: JCOMMIT of 1 to 992 bytes by a hart that holds a live op with room commits the bytes it can read. R305: a mirror's
acknowledgement marks its record and ends the commit that waits for it; without one in time the mirror is lost. R167, R168: a drain
channel writes a block that has waited long enough, frees it once its write has completed, and counts a failure or a time-out. -/
def Obligations.JournalCommitsAndDrains : Prop :=
  (∀ (s : State) (t : Stamp) (h ins : Nat) (o : Op), s.up = true → Executes s h ins 2 →
    0 < (s.xreg h (insRs2 ins)).toNat → (s.xreg h (insRs2 ins)).toNat ≤ 992 →
    (s.advance t).mayCommit h (s.xreg h (insRs2 ins)).toNat = some o →
    exec (.jcommit t h ins) s = settled s t
      ((s.advance t).readBody h (insRd ins) (s.xreg h (insRs1 ins)).toNat (s.xreg h (insRs2 ins)).toNat)) ∧
  (∀ (s : State) (h : Nat) (a : Access) (body : List Byte) (o : Op), a.kind = .jbody → (s.dropMiss h).mayCommit h body.length = some o →
    s.finishAccess h a body = (s.dropMiss h).commit h a.rd o body) ∧
  (∀ (s : State) (t : Stamp) (j seq : Nat), s.up = true →
    exec (.mirrorAck t j seq) s = settled s t
      ((((s.advance t).mapRec j seq (fun r => if r.lost then r else { r with ack := true })).endCommit j seq
        (BitVec.ofNat 64 seq)).pumpDrains)) ∧
  (∀ (s : State) (t : Stamp) (j seq c rd : Nat) (u : CoreRun) (x : Stamp), s.up = true → s.svc.runs = [(c, u)] →
    u.jcommit = some (rd, j, seq, x) → x ≤ (s.advance t).stb →
    exec (.mirrorAckTimeout t j seq) s = settled s t ((s.advance t).loseMirror j seq)) ∧
  (∀ (s : State) (t : Stamp) (d j : Nat) (b : DrainBlock), s.up = true →
    (s.drain d).blocks.find? (fun b => b.journal == j && !b.sent) = some b → s.drainRuns d = true →
    b.first + 32768 * s.fld JNL_DRAIN.WAIT_FRAMES d ≤ (s.advance t).stb →
    exec (.drainWaitExpiry t d j) s = settled s t ((s.advance t).writeBlock d j)) ∧
  (∀ (s : State) (t : Stamp) (d lba : Nat) (b : DrainBlock), s.up = true →
    (s.drain d).blocks.find? (fun b => b.lba == lba && b.sent && !b.done) = some b →
    (s.fld JNL_STATUS.DRAIN_HALTED 0).testBit d = false → (s.advance t).drainedFree d = true →
    let a := (s.advance t).takeDrained d
    exec (.drainWriteCompletion t d lba true) s = settled s t
      (((a.setDrain d ((a.drain d).modify (fun c => c == b) (fun c => { c with done := true }))).freeBlocks d b.journal
        (a.drain d).blocks.length).pumpDrains) ∧
    exec (.drainWriteCompletion t d lba false) s = settled s t (a.drainFailed d b)) ∧
  (∀ (s : State) (t : Stamp) (d lba : Nat) (b : DrainBlock), s.up = true →
    (s.drain d).blocks.find? (fun b => b.lba == lba && b.sent && !b.done) = some b → s.drainRuns d = true →
    b.issued - 1 + msTicks 100 ≤ (s.advance t).stb →
    exec (.drainCommandTimeout t d lba) s = settled s t ((s.advance t).drainFailed d b))

/-! ### Rings, courses and the sideband -/

/-- R237 to R243: at a free lane that no claim holds and no arriving packet takes, the packet whose turn it is enters the ring; a stop
that has starved for the limit claims a slot; a packet that arrives and is first of its stop leaves where it must. R250 to R254: a port
without a holder, or at the end of a tenure, is decided among its requests; a tenure of best-effort standing is revoked for a request of
higher rank, and keeps its beats; a holder at its limit is cut off. -/
def Obligations.RingsAndArbiters : Prop :=
  (∀ (s : State) (t : Stamp) (ring stop dir l i : Nat) (f : Flight), s.up = true →
    let a := s.advance t
    a.freeLane ring stop dir = some l → a.nextInject ring stop dir = some (i, f) → a.claimed ring stop dir = false →
    (a.arriving ring stop dir).isEmpty = true →
    exec (.packetInject t ring stop dir) s = left s t (a.inject ring stop dir l i f)) ∧
  (∀ (s : State) (ring stop dir l i : Nat) (f : Flight),
    (s.inject ring stop dir l i f).fab.net.getLast? =
      some ⟨{ s.onPath f.origin f.pkt with circuits := 0, pinned := false }, .riding ring stop dir l, s.ringStamp ring, f.origin, f.flips, f.via⟩) ∧
  (∀ (s : State) (t : Stamp) (ring stop dir : Nat), s.up = true → ring < 17 → dir < 2 →
    let a := s.advance t
    a.starved ring stop dir = true → a.claimOpen ring stop dir = true →
    let x := (a.assertClaim ring stop dir).bump RING_STOP_CNT.CLAIMS (16 * ring + stop)
    exec (.starveClaim t ring stop dir) s = left s t (if ring < 16 then x.count (regionBank ring) { code := 0x205 } else x)) ∧
  (∀ (s u : State) (t : Stamp) (p q : Pkt) (f : Flight) (ring stop dir lane : Nat) (e : Upset), s.up = true →
    s.fab.net = [f] → f.pkt = p →
    let a := s.advance t
    a.atStop f = some (ring, stop, dir, lane) → a.arrival f = some (stop, dir, lane) →
    let last := unitRegion p.dest == ring && !(p.snoops ring)
    a.checked ring stop p e.header (if last then f.flipped e.data else []) = (some q, u) →
    exec (.packetArrival t p e) s =
      settled s t (u.arrivedAt 0 ring stop dir lane { f with pkt := q, flips := if last then [] else f.flipped e.data })) ∧
  (∀ (s : State) (t : Stamp) (port inst : Nat) (hints : List ArbReq) (idle : List Nat), s.up = true → portUse port inst ≠ .unused →
    let k := 8 * port + inst
    let a := s.advance t
    let all := a.allReqs port inst (hints.map (ArbReq.lapse idle))
    ((a.tenure k).holder = none →
      exec (.tenureDecision t port inst hints idle) s = left s t (a.decidePort port inst (all.length + 1) all)) ∧
    (∀ own, (a.tenure k).holder.bind (fun h => (a.portReqs port inst).find? (fun r => r.source == h)) = some own →
      (a.tenure k).beats < s.fld ARB_PORT.HOLD_LIMIT port →
      ((a.tenure k).limit ≤ (a.tenure k).beats →
        exec (.tenureDecision t port inst hints idle) s = left s t (a.decidePort port inst (all.length + 1) all)) ∧
      ((a.tenure k).beats < (a.tenure k).limit → arbRevocable port = true → (a.tenure k).effort = true →
        (a.portReqs port inst).any (fun r => decide (a.arbRank port inst r < a.arbRank port inst own)) = true →
        exec (.tenureDecision t port inst hints idle) s = left s t (((a.bump ARB_PORT.REVOKES port).setTenure k { a.tenure k with
          revoked := nput (a.tenure k).revoked own.source ((a.tenure k).limit - (a.tenure k).beats) }).decidePort
            port inst (all.length + 1) all)))) ∧
  (∀ (s : State) (t : Stamp) (port inst h : Nat) (hints : List ArbReq), s.up = true → portUse port inst ≠ .unused →
    let k := 8 * port + inst
    let a := s.advance t
    let all := a.allReqs port inst hints
    (a.tenure k).holder = some h → s.fld ARB_PORT.HOLD_LIMIT port ≤ (a.tenure k).beats →
    exec (.holdCutoff t port inst hints) s = left s t
      (((a.bump ARB_PORT.HOLD_CUTOFFS port).setTenure k { a.tenure k with flagged := [h] }).decidePort port inst (all.length + 1) all))

/-- R271 to R273: a flit of 512 bytes on a course that is up and not fenced is taken as good or bad by its check. R293, R303: a good
flit of an open link is taken as such and a bad one is counted; R302: a time mark measures the link's delay, where its peer is the one
expected. -/
def Obligations.FlitsAndTimeMarks : Prop :=
  (∀ (s : State) (t : Stamp) (i d : Nat) (f : List Byte), s.up = true → i < 48 → d < 2 → f.length = 512 → s.courseUp i = true →
    (nget s.crs.fenced (i / 4) 0).testBit (i % 4) = false →
    (flitGood f = true → exec (.courseFlitReceive t i d f) s = settled s t ((s.advance t).goodFlit i d f)) ∧
    (flitGood f = false → exec (.courseFlitReceive t i d f) s = settled s t ((s.advance t).badFlit i d f))) ∧
  (∀ (s : State) (t : Stamp) (l from_ : Nat) (f : List Byte), s.up = true → l < 8 → f.length = 512 → from_ < 1024 → s.linkUp l = true →
    (flitGood f = true → exec (.linkFlitReceive t l f from_) s = settled s t ((s.advance t).goodLinkFlit l from_ f)) ∧
    (flitGood f = false → exec (.linkFlitReceive t l f from_) s = settled s t ((s.advance t).badLinkFlit l f))) ∧
  (∀ (s : State) (t : Stamp) (l sA rB sB rA number : Nat), s.up = true → l < 8 → s.linkUp l = true → s.contradicts l number = false →
    s.fld STB_STATE.SOURCE 0 ≠ 2 → (s.fld LB_STATUS.COUPLER_LOST 0).testBit l = false →
    exec (.timeMark t l sA rB sB rA number) s = settled s t
      ((((s.advance t).set LINK_STATUS.PEER l (number % 1024)).set LINK_STATUS.DELAY l
        (((((rB : Int) - sA) + ((rA : Int) - sB)) / 2 / 25).toNat)).set LINK_STATUS.MARKS_OK l 1))

/-- R281, R282, R284: the messages that arrive at a brick: a register read answers with message 0x03, a register write takes its address
and then its data, a capability request is answered with three messages, a budget is applied, a fence is noted, and a remap that waits
is made. R281 to R284, R358: the messages that arrive from a brick: a read's data, what a die answers of itself, its power and junction,
and its error pin. -/
def Obligations.SidebandMessages : Prop :=
  (∀ (s : State) (t : Stamp) (b lane : Nat), s.up = true → Arrives s b lane 1 →
    let a := heard s t b lane
    (∀ addr, inRegion b addr = true → s.brickUp b = true →
      exec (.registerReadMessage t b lane addr true) s =
        settled s t ((a.regRead .sideband addr 8).state.sendSide b 3 (a.regRead .sideband addr 8).val)) ∧
    (∀ x, lookupKey b s.crs.wrAddr = none →
      exec (.registerWriteMessage t b lane x true) s =
        settled s t { a with crs := { a.crs with wrAddr := nput a.crs.wrAddr b (x % 2 ^ 52) } }) ∧
    (∀ x w, lookupKey b s.crs.wrAddr = some w → inRegion b w = true → s.brickUp b = true →
      exec (.registerWriteMessage t b lane x true) s =
        settled s t (({ a with crs := { a.crs with wrAddr := dropKey b a.crs.wrAddr } }).regWrite .sideband w 8 (x % 2 ^ 64)).state) ∧
    (∀ (y : Board) (d : Die), s.board = some y → lookupKey (1 + b) y.dies = some d → d.answers = true →
      exec (.capabilityRequest t b lane true) s = settled s t
        (((a.sendSide b 0x11 (s.word .DIE_ID (1 + b) 0).toNat).sendSide b 0x12 (s.word .DIE_CAP (1 + b) 0).toNat).sendSide b 0x13
          (s.word .DIE_ERRATA (1 + b) 0).toNat)) ∧
    (∀ ceilings : List Nat, ceilings.length = 6 →
      ∃ r : State, exec (.budget t b lane ceilings true) s = settled s t r ∧ r.fld SB_STATUS.BUDGET_FALLBACK b = 0 ∧
        (∀ k, k < 6 → nget r.pow.budgets (6 * b + k) 0 = ceilings.getD k 0 % 256) ∧ nget r.crs.noBudget b 0 = frameOf (s.advance t).stb) ∧
    (∀ (course dir logical phys : Nat) (x : Stall), s.crs.stalls = [x] → x.course = 4 * b + course → x.change = .remap dir logical →
      (s.courseDir x.course dir).map[logical]? = some logical → (s.spares x.course dir).head? = some phys →
      (s.advance t).stalledNow x.course = false →
      exec (.remapAgreement t b lane course dir logical phys true) s = settled s t
        (({ a with crs := { a.crs with stalls := [] } }).applyStall x))) ∧
  (∀ (s : State) (t : Stamp) (b lane : Nat), s.up = true → Arrives s b lane 4 →
    let a := heard s t b lane
    (∀ x, exec (.readAnswer t b lane x true) s = settled s t (a.emit .regRead [b, x % 2 ^ 64])) ∧
    (∀ (y : Board) (x : Nat), s.board = some y → ∃ r : State, exec (.capabilityAnswer t b lane 0x12 x true) s = settled s t r ∧
      ((r.board.bind (fun z => lookupKey (1 + b) z.dies)).map Die.caps) = some (x % 2 ^ 15)) ∧
    (∀ power junction, (brickDomains b).any (fun d => (s.capOf 3 d).isSome) = false →
      exec (.telemetry t b lane power junction true) s = settled s t
        (({ a with pow := { a.pow with watts := nput a.pow.watts b (power % 65536) },
                   crs := { a.crs with noTele := nput a.crs.noTele b (frameOf a.stb) } } : State).readJunction b junction))) ∧
  (∀ (s : State) (t : Stamp) (b lane : Nat) (courses : Nat) (side : Bool), s.up = true → Arrives s b lane 2 →
    ∃ r : State, exec (.fence t b lane courses side true) s = settled s t r ∧
      nget r.crs.fenced b 0 = (nget s.crs.fenced b 0 ||| courses % 16) ||| 16 * flag side) ∧
  (∀ (s : State) (t : Stamp) (b lane level : Nat), s.up = true → Arrives s b lane 5 → level ≤ 4 →
    let a := heard s t b lane
    let z : State := { a with faults := { a.faults with brickPins := nputd a.faults.brickPins b level 0 } }
    let stamp := z.pinStamp b level
    exec (.errorPin t b lane level true) s =
      settled s t (((z.setBit .chip b (level != 0) stamp).driveAll .chip stamp).checkSafeEnd))

/-- R282, R283, R394: a budget that stays away for ten meridians puts the brick on its fallback ceilings, and telemetry that stays away
caps its blocks; a message that is dropped is repeated up to 4 times, and the eighth in succession fails its lane. R287: the failure of the light
source in use moves the lightbed to the other; R302: the loss of a coupler's time path is noted at the second successive meridian without a marker.
-/
def Obligations.WatchdogsAndLight : Prop :=
  (∀ (s : State) (t : Stamp) (b : Nat), s.up = true → b < 12 → s.brickUp b = true → s.fld SB_STATUS.BUDGET_FALLBACK b = 0 →
    meridianOf (nget s.crs.noBudget b 0 + 9) ≤ (s.advance t).stb →
    let a := s.advance t
    exec (.budgetMissing t b) s = settled s t
      ((({ a with pow := { a.pow with budgets := (brickDomains b).foldl (fun m d => nput m d (min 48 (nget m d 104))) a.pow.budgets } }).set
        SB_STATUS.BUDGET_FALLBACK b 1).raise { coll := .region b, bit := 23 })) ∧
  (∀ (s : State) (t : Stamp) (b : Nat), s.up = true → b < 12 → s.brickUp b = true → s.is PWR_DOMAIN.ON (136 + b) = true →
    meridianOf (nget s.crs.noTele b 0 + 9) ≤ (s.advance t).stb → (brickDomains b).all (fun d => (s.capOf 3 d).isNone) = true →
    exec (.telemetryMissing t b) s = settled s t ((s.advance t).setCaps 3 (brickDomains b) (fun _ _ => some 48) false)) ∧
  (∀ (s : State) (t : Stamp) (b lane : Nat), s.up = true → b < 12 → lane < 8 → s.brickUp b = true →
    (s.fld SB_STATUS.FAILED b).testBit lane = false → nget s.crs.drops (8 * b + lane) 0 < 7 →
    let n := nget s.crs.drops (8 * b + lane) 0 + 1
    let a := s.advance t
    let z : State := { a with crs := { a.crs with drops := nput a.crs.drops (8 * b + lane) n } }
    exec (.sidebandRetry t b lane) s = settled s t (if n % 5 = 0 then z else z.emit .sideband [b, lane])) ∧
  (∀ (s : State) (t : Stamp), s.up = true → s.is LB_STATUS.A_FAILED 0 = false → s.is LB_STATUS.B_FAILED 0 = false →
    s.fld LB_STATUS.SOURCE 0 = 0 →
    exec (.lightbedSourceFailure t 0) s = settled s t
      ((((s.advance t).set LB_STATUS.A_FAILED 0 1).raise { coll := .chip, bit := 29, action := 11 }).set LB_STATUS.SOURCE 0 1)) ∧
  (∀ (s : State) (t : Stamp) (l : Nat), s.up = true → l < 8 → lookupKey l s.crs.wireLost = none →
    let a := s.advance t
    exec (.couplerTimePathLoss t l) s =
      settled s t { a with crs := { a.crs with wireLost := nput a.crs.wireLost l (frameOf a.stb) } }) ∧
  (∀ (s : State) (t : Stamp) (l f : Nat), s.up = true → l < 8 → lookupKey l s.crs.wireLost = some f →
    f + 1 = frameOf (s.advance t).stb → (s.fld LB_STATUS.COUPLER_LOST 0).testBit l = false → s.fld STB_STATE.SOURCE 0 ≠ 2 →
    let a := s.advance t
    exec (.couplerTimePathLoss t l) s = settled s t
      ((({ a with crs := { a.crs with wireLost := nput a.crs.wireLost l (frameOf a.stb) } }).set LB_STATUS.COUPLER_LOST 0
        (withBit (s.fld LB_STATUS.COUPLER_LOST 0) l)).set LINK_STATUS.MARKS_OK l 0))

/-! ### Coherence -/

/-- R256, R260: a request that is well formed is taken up by its home: each of the seven kinds. R241, R257: the home accepts one that has
arrived, whose turn it is, where its tracker has room, and opens its transaction at once where none waits for the line and no move of its tiles is under way (R314). R261, R262: a
snoop that reaches a block or an exporter's home is answered there. -/
def Obligations.RequestsAndSnoopsAnswered : Prop :=
  (∀ (s : State) (t : Stamp) (p : Pkt) (h : Nat), s.up = true → s.homeFor p = some h →
    let r := settled s t ((s.advance t).acceptAt h p)
    (p.isA 3 1 = true → exec (.fetchShare t p) s = r) ∧ (p.isA 3 2 = true → exec (.fetchOwn t p) s = r) ∧
    (p.isA 3 3 = true → exec (.ownZero t p) s = r) ∧
    (p.isA 3 4 = true → p.data.length = 64 → exec (.evictDirty t p) s = r) ∧
    (p.isA 3 8 = true → exec (.readUc t p) s = r) ∧ (p.isA 3 9 = true → p.fits = true → exec (.writeUc t p) s = r) ∧
    (p.isA 3 10 = true → p.atomicOk = true → exec (.atomic t p) s = r)) ∧
  (∀ (s : State) (p : Pkt) (h : Nat) (f : Flight), (s.here p).bind (fun i => s.fab.net[i]?) = some f →
    s.units.sliceDown.contains h = false → s.trackerRoom h p = true → s.intakeTurn h f = true →
    let a := (s.takePkt p).setTenure (intakeKey h)
      ⟨some (f.intakeRank % 2), !p.standing, s.cycle (12 + h / 16), 1, 1, s.cycle (12 + h / 16), 1, [], [], 0⟩
    let other := s.fab.txns.any (fun x => x.line == p.line) || s.fab.waits.any (fun q => q.2.line == p.line) ||
      s.tileHeld p.line
    (other = false → s.acceptAt h p = (a.openTxn h p).homes) ∧
    (other = true → s.acceptAt h p = ({ a with fab := { a.fab with waits := a.fab.waits ++ [(h, p)] } } : State).homes)) ∧
  (∀ (s : State) (t : Stamp) (p : Pkt) (k : Nat), s.up = true → sliceOf p.dest = none →
    let r := settled s t ((s.advance t).snoopBlock p k)
    (p.isA 2 1 = true → exec (.snoopShare t p k) s = r) ∧ (p.isA 2 2 = true → exec (.snoopOwn t p k) s = r) ∧
    (p.isA 2 3 = true → exec (.snoopKill t p k) s = r) ∧ (p.isA 2 4 = true → exec (.snoopFlush t p k) s = r))

/-- R125, R230: a memory controller answers a home's read whose turn it is with the line's data and its poison, and with its queue's level
(R126); a write stores the bytes that its operand names and no other, after which it is acknowledged. -/
def Obligations.ControllersReadAndWrite : Prop :=
  (∀ (s : State) (t : Stamp) (p : Pkt) (c h : Nat), s.up = true → p.isA 3 0x10 = true → s.mcTurn p = true → s.mcOf p.line = some c →
    sliceOf p.src = some h → p.pkg = none →
    let a := s.advance t
    exec (.mcRead t p) s = settled s t (((a.takePkt p).countMc c p 0).answer (mcCode c)
      { p.cause 1 1 p.src (8 * s.queueLevel (queueOf c)) with data := (s.lineAt p.line).1, poison := (s.lineAt p.line).2 })) ∧
  (∀ (s : State) (t : Stamp) (p : Pkt) (c : Nat), s.up = true → p.isA 3 0x11 = true → p.fits = true → s.mcTurn p = true →
    s.mcOf p.line = some c →
    let off := bitsOf p.operand 0 6
    let w := (((s.advance t).takePkt p).countMc c p 1).writeLine p.line off ((p.data.drop off).take (bitsOf p.operand 6 6 + 1)) p.poison
    exec (.mcWrite t p) s = settled s t
      (w.sendFrom (mcCode c) { p.cause 0 5 p.src (s.queueLevel (queueOf c)) with pkg := none }))

/-- R261: a block's answer to a combined snoop is gathered until the last has answered, R260: a course stop's sum, a flushed line's
data, a controller's acknowledgement and a requester's GRANT_SEEN advance the transaction that waits for them. R28, R170: a hart that is
ready begins a legal access; R263: a fill hold ends; R267: a transaction of 10 ms is ended with source 2 of its slice. -/
def Obligations.TransactionsAdvance : Prop :=
  (∀ (s : State) (t : Stamp) (p : Pkt) (c : Combine), s.up = true → p.isA 0 3 = true → s.fab.combines = [c] →
    c.snoop.dest = p.dest → c.snoop.line = p.line → c.blocks.contains (unitStop p.src) = true →
    (c.blocks.filter (fun x => x != unitStop p.src)) ≠ [] → unitRegion p.src = c.brick → s.hasPkt p = true →
    ∃ r : State, exec (.snoopPart t p) s = settled s t r ∧
      r.fab.combines = [{ c with blocks := c.blocks.filter (fun x => x != unitStop p.src), answers := c.answers ||| p.operand % 32 }]) ∧
  (∀ (s : State) (t : Stamp) (p : Pkt) (h : Nat) (x : Txn), s.up = true → p.isA 0 4 = true → sliceOf p.dest = some h →
    s.fab.txns.find? (fun x => x.line == p.line && x.sums.contains (sumFrom p)) = some x → x.slice = h → s.hasPkt p = true →
    p.operand.testBit 0 = true →
    exec (.snoopSum t p) s = settled s t ((((s.advance t).takePkt p).setTxn { x with
      sums := x.sums.filter (fun y => y != sumFrom p), answers := x.answers ||| p.operand % 32 }).homes)) ∧
  (∀ (s : State) (t : Stamp) (p : Pkt) (h : Nat) (x : Txn), s.up = true → p.isA 1 2 = true → sliceOf p.dest = some h →
    s.fab.txns.find? (fun x => x.line == p.line && x.started && !x.granted && x.dirty.isNone) = some x → x.slice = h →
    s.hasPkt p = true → x.req.cls ≠ 2 → (x.req.op = 3 ∨ x.remote = true) →
    exec (.flushData t p) s = settled s t ((((s.advance t).takePkt p).setTxn { x with dirty := some (p.data, p.poison) }).homes)) ∧
  (∀ (s : State) (t : Stamp) (p : Pkt) (h : Nat) (x : Txn), s.up = true → p.isA 0 5 = true → sliceOf p.dest = some h →
    s.fab.txns.find? (fun x => x.line == p.line && x.wr) = some x → x.slice = h → s.hasPkt p = true →
    exec (.mcDone t p) s = settled s t ((((s.advance t).takePkt p).setTxn { x with wr := false }).homes)) ∧
  (∀ (s : State) (t : Stamp) (p : Pkt) (h : Nat) (x : Txn), s.up = true → p.isA 0 2 = true → sliceOf p.dest = some h →
    s.mainTxn p.line = some x → x.slice = h → x.granted = true → x.req.src = p.src → x.req.txn = p.txn → x.req.pkg = p.pkg →
    s.hasPkt p = true →
    exec (.grantSeen t p) s = settled s t ((((s.advance t).takePkt p).closeTxn x).homes)) ∧
  (∀ (s : State) (t : Stamp) (h : Nat) (x : Access), s.up = true → s.ready h = true → x.legal = true →
    exec (.coreLoadStoreFetch t h x) s = settled s t ((s.advance t).beginAccess h x)) ∧
  (∀ (s : State) (t : Stamp) (bb line f : Nat) (x : CLine), s.up = true → s.held bb line = some x → x.fill = some f →
    (s.advance t).holdOver bb f = true →
    exec (.fillHoldExpiry t bb line) s = settled s t ((s.advance t).putLine bb line { x with fill := none })) ∧
  (∀ (s : State) (t : Stamp) (h line : Nat) (x : Txn), s.up = true →
    s.fab.txns.find? (fun x => x.line == line && x.slice == h) = some x → x.start + msTicks 10 ≤ (s.advance t).stb →
    exec (.transactionTimeout t h line) s = settled s t
      (((((s.advance t).logHome h 4 line).closeTxn x).raise { coll := sliceColl h, bit := 2, addr := 64 * line }).homes))

/-- R260, R263: GRANT, the line's data, an atomic's old data, an error, and a device's answer that arrive at a core go to the access
that waits for them. -/
def Obligations.CoresTakeAnswers : Prop :=
  ∀ (s : State) (t : Stamp) (p : Pkt) (h : Nat), s.up = true → p.core = some h → s.hasPkt p = true →
    let a := (s.advance t).takePkt p
    (p.isA 0 1 = true → exec (.grant t p) s = settled s t (a.coreGrant h p)) ∧
    (p.isA 1 1 = true → exec (.lineData t p) s = settled s t (a.coreData h p)) ∧
    (p.isA 1 4 = true → exec (.atomicOld t p) s = settled s t (a.coreData h p)) ∧
    (p.isA 0 15 = true → exec (.err t p) s = settled s t (a.errAtCore h p)) ∧
    (p.isA 0 6 = true → exec (.devAck t p) s = settled s t (a.coreDevice h p)) ∧
    (p.isA 1 3 = true → p.data.length = 64 → exec (.devData t p) s = settled s t (a.coreDevice h p))

/-! ### PCI Express -/

/-- R31, R32, R337: a core's device read and write of a register that its unit serves are answered with the register's value and with an
acknowledgement; one that is refused is answered ERR with the reason. R45, R343: a memory request to an open BAR is answered with its
bytes or stores them; one to a BAR that is closed, or beyond it, is an unsupported request. -/
def Obligations.DeviceAndEndpointAccesses : Prop :=
  (∀ (s : State) (t : Stamp) (p : Pkt) (h : Nat), s.up = true → p.devSource = some h → addrKind p.devAddr = .regs →
    (s.advance t).regDest p.devAddr = some p.dest → s.devTurn p = true →
    let a := (s.advance t).portTaken p
    (p.isA 3 0x18 = true →
      let r := a.regRead (.core h p.world) p.devAddr p.devLen
      exec (.devRd t p) s = settled s t (if r.err ≠ 0 then r.state.devErr p r.err else r.state.devData p (leBytes p.devLen r.val))) ∧
    (p.isA 3 0x19 = true → p.data.length = 64 → codeCore p.dest = none →
      let r := a.regWrite (.core h p.world) p.devAddr p.devLen (leNat p.devData)
      exec (.devWr t p) s = settled s t (if r.err ≠ 0 then r.state.devErr p r.err else r.state.devAck p))) ∧
  (∀ (s : State) (t : Stamp) (p fn off n : Nat), s.up = true → s.portRole p = 2 → s.pins.epPerst.testBit p = true → 0 < n → n ≤ 4096 →
    fn ≤ 256 →
    let a := s.advance t
    (s.barOpen p fn .bar0 = true → off % 4 = 0 → n % 4 = 0 → off + n ≤ Bar.bar0.size →
      exec (.endpointMemoryRequest t p fn .bar0 (.read off n)) s =
        settled s t (a.emit .cpl [p, fn, 0, 0] ((List.range n).map (fun i => a.bar0Byte p fn (off + i)))) ∧
      (∀ d : List Byte, d.length = n → exec (.endpointMemoryRequest t p fn .bar0 (.write off d false)) s =
        settled s t (a.bar0Store p fn off d))) ∧
    (s.barOpen p fn .bar2 = true → off % 8 = 0 → n % 8 = 0 → off + n ≤ Bar.bar2.size →
      exec (.endpointMemoryRequest t p fn .bar2 (.read off n)) s =
        settled s t ((barLoad p (n / 8) off a).2.emit .cpl [p, fn, 0, 0] (barLoad p (n / 8) off a).1) ∧
      (∀ d : List Byte, d.length = n → exec (.endpointMemoryRequest t p fn .bar2 (.write off d false)) s =
        settled s t (barStore p (n / 8) off d a))) ∧
    (s.barOpen p fn .bar0 = false →
      exec (.endpointMemoryRequest t p fn .bar0 (.read off n)) s =
        settled s t ((a.unsupported p (if s.hasFn p fn then fn else 0) false).emit .cpl [p, fn, 1, 0])))

/-- R353 to R355: a read without its completion in time times out, a late completion is reported once and frees its tag at the last, and
a quarantined tag is freed when its time has passed. R351, R352: a root port's link is contained on an error of R350, and its trigger
status is cleared; R339: a device's request on a link that is up is served. -/
def Obligations.TagsAndRootPorts : Prop :=
  (∀ (s : State) (t : Stamp) (p tag : Nat) (r : PcieRead), s.up = true →
    s.pcie.reads.find? (fun r => r.port == p && r.tag == tag) = some r → r.issued + s.cplTicks p ≤ (s.advance t).stb →
    exec (.completionTimeout t p tag) s = settled s t ((s.advance t).readTimesOut r)) ∧
  (∀ (s : State) (t : Stamp) (p tag : Nat) (x : TagHold), s.up = true →
    s.pcie.holds.find? (fun x => x.port == p && x.tag == tag) = some x →
    let a := s.advance t
    (x.silent = true → s.pcie.reads.find? (fun r => r.port == p && r.tag == tag && r.asker == .write) = none →
      exec (.lateCompletion t p tag true) s = settled s t (a.freeHold x)) ∧
    (x.silent = false → s.pcie.reads.find? (fun r => r.port == p && r.tag == tag && r.asker == .write) = none →
      exec (.lateCompletion t p tag false) s = settled s t ((a.set PCIE_PORT_EVT.LATE_CPL p 1).portFails true p x.fn 16 2)) ∧
    (x.stop ≤ a.stb → exec (.tagQuarantineExpiry t p tag) s = settled s t (a.freeHold x))) ∧
  (∀ (s : State) (t : Stamp) (p j : Nat), s.up = true → (s.linksOf p).contains j = true →
    let a := s.advance t
    exec (.downstreamPortContainment t p j none) s = settled s t (a.containLink p j) ∧
    (∀ b, [4, 5, 13, 17, 18].contains b = true → exec (.downstreamPortContainment t p j (some b)) s =
      settled s t ((a.portUnc p (linkFn j) b 3).containLink p j)) ∧
    exec (.dpcTriggerStatusClear t p j) s = settled s t (a.clearDpc p j) ∧
    (∀ q : InReq, q.legal = true → s.fld PCIE_LINK.STATE (linkIdx p j) = 2 →
      exec (.inboundRequest t p j q) s = settled s t (a.inbound p j q)))

/-- R335, R341: a configuration request to a function is answered with its bytes, or acknowledged and written; an endpoint that is not
ready answers Request Retry Status, and one without the function Unsupported Request. R336, R356: the functions of an endpoint are reset
and end their reset, and Bus Master Enable is cleared and set; a rising PERST lets the link train. -/
def Obligations.EndpointConfigurationAndReset : Prop :=
  (∀ (s : State) (t : Stamp) (p fn off n : Nat), s.up = true → s.portRole p = 2 → s.pins.epPerst.testBit p = true →
    [1, 2, 4].contains n = true → off % n = 0 → off < 4096 →
    let a := s.advance t
    (s.fld PCIE_PORT_STATUS.EP_READY p ≠ 0 → s.inReset p fn = false → s.hasFn p fn = true →
      exec (.endpointConfigRequest t p fn (.read off n)) s =
        settled s t (a.emit .cfgAnswer [p, fn, off, 0] (s.cfgRead p fn off n)) ∧
      (∀ d : List Byte, d.length = n → exec (.endpointConfigRequest t p fn (.write off d)) s =
        settled s t ((a.emit .cfgAnswer [p, fn, off, 0]).cfgWrite p fn off d))) ∧
    (s.fld PCIE_PORT_STATUS.EP_READY p = 0 →
      exec (.endpointConfigRequest t p fn (.read off n)) s = settled s t (a.emit .cfgAnswer [p, fn, off, 2])) ∧
    (s.fld PCIE_PORT_STATUS.EP_READY p ≠ 0 → s.inReset p fn = false → s.hasFn p fn = false →
      exec (.endpointConfigRequest t p fn (.read off n)) s = settled s t (a.emit .cfgAnswer [p, fn, off, 1]))) ∧
  (∀ (s : State) (t : Stamp) (p fn : Nat), s.up = true → s.hasFn p fn = true → s.inReset p fn = false →
    let a := s.advance t
    exec (.functionLevelReset t p fn false) s = settled s t (a.flr p fn) ∧
    exec (.busMasterEnableClear t p fn) s = settled s t (a.clearBme p fn) ∧
    exec (.busMasterEnableSet t p fn) s = settled s t (a.setBme p fn)) ∧
  (∀ (s : State) (t : Stamp) (p fn : Nat) (r : FnReset), s.up = true →
    s.pcie.resets.find? (fun r => r.port == p && r.fn == fn) = some r →
    exec (.resetCompletion t p fn) s = settled s t ((s.advance t).endReset r)) ∧
  (∀ (s : State) (t : Stamp) (p width speed : Nat) (flit : Bool), s.up = true → p < 8 → s.pins.epPerst.testBit p = false →
    s.portRole p = 2 → 1 ≤ width → width ≤ 5 → 1 ≤ speed → speed ≤ 6 →
    ∃ r : State, exec (.endpointFundamentalReset t p true width speed flit) s = settled s t r ∧ r.pins.epPerst.testBit p = true ∧
      r.fld PCIE_LINK.STATE (linkIdx p 0) = 2 ∧ r.fld PCIE_LINK.WIDTH (linkIdx p 0) = width ∧
      r.fld PCIE_LINK.SPEED (linkIdx p 0) = speed)

/-! ### Constellations -/

/-- R296 to R300: a request of another member for a line that this package exports is sent on to its home; one it may not make is answered
ERR with reason 1; a remote transaction without an answer in time is quarantined and failed, and its quarantine ends. R305, R306: a
journal record of a member is held in a mirror slot, and its marks are followed. -/
def Obligations.RemoteTransactionsAndMirrors : Prop :=
  (∀ (s : State) (t : Stamp) (p : Pkt) (g : Nat), s.up = true → s.is CST_STATUS.MEMBER 0 = true → s.is CST_STATUS.LEAVING 0 = false →
    p.pkg = some g → s.hasPkt p = true → lineWindow p.line = some (s.fld CST_STATUS.NUMBER 0) → p.cls = 3 → (p.op = 1 ∨ p.op = 2 ∨ p.op = 3 ∨ p.op = 8) →
    carriesData 3 p.op = false →
    let a := (s.advance t).takePkt p
    (a.exportRefuses p g = true → exec (.remoteRequest t p) s = settled s t (a.sendOut g (p.cause 0 15 p.src 1))) ∧
    (a.exportRefuses p g = false →
      exec (.remoteRequest t p) s = settled s t (a.sendFrom p.dest
        { p with line := a.importLine p.line, dest := sliceCode (homeSlice (64 * a.importLine p.line)) }))) ∧
  (∀ (s : State) (t : Stamp) (slice txn : Nat) (r : Remote), s.up = true → s.remoteAt slice txn = some r → r.quarantined = false →
    r.start + usTicks (s.fld CST_CTRL.REMOTE_TO 0) ≤ (s.advance t).stb →
    exec (.remoteTimeout t slice txn) s = settled s t
      ((((s.advance t).quarantine r).set LINK_EVT.REMOTE_TIMEOUT r.link 1).failRemote r)) ∧
  (∀ (s : State) (t : Stamp) (slice txn : Nat) (r : Remote), s.up = true → s.remoteAt slice txn = some r → r.quarantined = true →
    r.start + 4 * usTicks (s.fld CST_CTRL.REMOTE_TO 0) ≤ (s.advance t).stb →
    exec (.remoteQuarantineExpiry t slice txn) s = settled s t (((s.advance t).dropRemote r).homes)) ∧
  (∀ (s : State) (t : Stamp) (src journal seq drained : Nat), s.up = true →
    (∀ bytes : List Byte, s.isMember src = true → journal < 64 → 0 < bytes.length → bytes.length % 64 = 0 →
      exec (.mirrorRecord t src journal seq bytes drained) s =
        settled s t ((s.advance t).mirrorRecord src journal seq bytes drained)) ∧
    (∀ (fl : Nat) (ended : Bool), exec (.mirrorMark t src journal seq fl drained ended) s =
      settled s t ((s.advance t).mirrorMark src journal seq fl drained ended)))

/-! ### Power, thermal control and Nightfall -/

/-- R380, R382: WFI of a hart that may wait and has nothing to wake it goes on to the next instruction and waits in its idle state; a
clock that has switched ends CLK_SWITCHING. R176, R329: a CSR instruction of a hart that is ready is carried out; a halt request of a
core in service waits at the core, or at the leading core of its pair. -/
def Obligations.CoresWaitAndHalt : Prop :=
  (∀ (s : State) (t : Stamp) (h : Nat), s.up = true → s.ready h = true → s.wfiTrap h = none → (s.advance t).wakes h = false →
    ((s.advance t).nextPc h 4).wakes h = false →
    let a := (s.advance t).nextPc h 4
    exec (.wfi t ⟨h, 0x10500073⟩) s = settled s t ((a.setHart h { a.hart h with waiting := true }).enterState h (a.idleState h)) ∧
      (a.hart h).pc = (s.hart h).pc + 4) ∧
  (∀ (s : State) (t : Stamp) (h : Nat), s.up = true → h < 288 → s.coreUp h = true →
    s.fld PWR_DOMAIN.ON (8 * (h / 24) + h % 24 / 4) ≠ 0 → s.fld CORE_PAIR.STATE h = 0 → s.fld CORE_PWR.STATE h ≠ 3 →
    (s.hart h).waiting = true → (s.advance t).wakes h = true →
    exec (.coreWake t h) s = settled s t
      (((s.advance t).asPair h).foldl (fun (r : State) k => r.setCorePwr k 0)
        ((s.advance t).setHart h { s.hart h with waiting := false }))) ∧
  (∀ (s : State) (t : Stamp) (c : Nat), s.up = true → c < 288 →
    exec (.clockSwitch t c) s = settled s t ((s.advance t).set CORE_PWR.CLK_SWITCHING c 0)) ∧
  (∀ (s : State) (t : Stamp) (h ins : Nat), s.up = true → s.ready h = true → ins % 128 = 0x73 → bitsOf ins 12 3 % 4 ≠ 0 →
    ins < 2 ^ 32 → exec (.csrAccess t h ins) s = settled s t ((s.advance t).csrIns h ins)) ∧
  (∀ (s : State) (t : Stamp) (h : Nat), s.up = true → h < 288 → s.coreUp h = true → (s.hart h).halted = false →
    let k := if s.fld CORE_PAIR.STATE h = 3 then s.fld CORE_PAIR.PARTNER h else h
    exec (.debugHaltRequest t h) s = settled s t ((s.advance t).setHart k { s.hart k with haltPend := true }))

/-- R383 to R388: a domain that nothing holds goes OFF and one that is held comes ON; the package goes idle, and to ECLIPSE at a keeper
tick where it may, and wakes. -/
def Obligations.DomainsAndSleep : Prop :=
  (∀ (s : State) (t : Stamp) (i : Nat), s.up = true → s.domainThere i = true → s.is PWR_DOMAIN.ON i = true → s.domainHeld i = false →
    exec (.domainOff t i) s = settled s t ((s.advance t).domainOff i)) ∧
  (∀ (s : State) (t : Stamp) (i : Nat), s.up = true → 136 ≤ i → s.domainThere i = true → s.fld PWR_DOMAIN.ON i = 0 →
    s.domainHeld i = true → s.pow.eclipse = false → s.nf.triggered = false →
    exec (.domainOn t i) s = settled s t ((s.advance t).domainOn i)) ∧
  (∀ (s : State) (t : Stamp), s.up = true → exec (.idleEntry t) s = settled s t (s.advance t).enterIdle) ∧
  (∀ (s : State) (t : Stamp), s.up = true → (s.advance t).mayEclipse = true → (s.advance t).stb % 1024 = 0 → s.pow.eclipse = false →
    s.nf.triggered = false →
    let a := (eclipseOff.filter (fun i => s.is PWR_DOMAIN.ON i)).foldl State.domainOff (s.advance t)
    exec (.eclipseEntry t) s = settled s t
      ((({ a with pow := { a.pow with eclipse := true } }).endIdle).setReady false)) ∧
  (∀ (s : State) (t : Stamp) (i3c : Bool) (trained : List Trained), s.up = true → s.pow.eclipse = true → s.nf.triggered = false →
    ∃ r : State, exec (.eclipseWake t i3c trained) s = settled s t r ∧ r.fld PWR_DOMAIN.PACKAGE_VOTE 152 = 1 ∧ r.pow.eclipse = false)

/-- R390, R391: a rail's acknowledgement, its lateness and its retry are followed; a poll of the regulators is taken unless Nightfall
has begun. R394, R395: capping begins where a junction, the lid or a regulator has been above its limit long enough, is lifted where it
has been below it, and a junction of 110 °C trips the package with source 36. -/
def Obligations.RailsAndCapping : Prop :=
  (∀ (s : State) (t : Stamp), s.up = true →
    (∀ r, exec (.avsbusAcknowledgement t r) s = settled s t ((s.advance t).thermal (fun x => x.railAck r)) ∧
      exec (.avsbusTimeout t r) s = settled s t ((s.advance t).thermal (fun x => x.railLate r)) ∧
      exec (.avsbusRetry t r) s = settled s t ((s.advance t).thermal (fun x => x.railRetry r))) ∧
    (∀ regs vin, s.nf.triggered = false →
      exec (.pmbusPoll t regs vin) s = settled s t (((s.advance t).emit .pmbus [vin]).poll regs vin))) ∧
  (∀ (s : State) (t : Stamp) (die : Nat), s.up = true → die < 12 → (s.advance t).heldFor s.pow.hot die (msTicks 1) = true →
    exec (.junctionCapping t die) s = settled s t
      ((s.advance t).thermal (fun x => x.capStep die 0 33 (msTicks 1) (brickDomains die)))) ∧
  (∀ (s : State) (t : Stamp), s.up = true → (s.advance t).heldFor s.pow.hot 16 (msTicks 1) = true →
    exec (.lidCapping t) s = settled s t ((s.advance t).thermal (fun x => x.capStep 16 1 34 (msTicks 1) domains))) ∧
  (∀ (s : State) (t : Stamp) (r : Nat), s.up = true → r < 2 → s.pow.warn.contains r = true →
    (s.advance t).heldFor s.pow.hot (32 + r) 0 = true →
    exec (.regulatorCapping t r) s = settled s t ((s.advance t).thermal (fun x =>
      { x.lowerFc 2 (railDomains r) with
        pow := { (x.lowerFc 2 (railDomains r)).pow with
          hot := nput (x.lowerFc 2 (railDomains r)).pow.hot (32 + r) (x.stb + msTicks 10) } }))) ∧
  (∀ (s : State) (t : Stamp), s.up = true → (s.advance t).heldFor s.pow.cool 16 (msTicks 100) = true →
    exec (.cappingLift t 1 0) s = settled s t ((s.advance t).thermal (fun x => x.liftCap 16 1 domains))) ∧
  (∀ (x : State), (∀ r < 2, (x.raiseFc 1 domains).railCommitted r (fun _ => true) ≤ (x.rail r).level) →
    x.liftCap 16 1 domains =
      { x.raiseFc 1 domains with
        pow := { (x.raiseFc 1 domains).pow with
          cool := nput (x.raiseFc 1 domains).pow.cool 16 (nget x.pow.cool 16 0 + msTicks 100) } }) ∧
  (∀ (s : State) (t : Stamp) (die : Nat), s.up = true → die < 13 → 110 * 16 ≤ celsius16 (nget s.pow.temps die 0) →
    s.pins.thermtripN = true →
    let a := s.advance t
    exec (.thermalTrip t die) s = settled s t
      (({ a with pins := { a.pins with thermtripN := false } }).raise { coll := .chip, bit := 36 }))

/-- R397 to R403: a qualified trigger halts the package and notes its cause, its stamp, FAULT_N and NF_ACTIVE_N; an armed package with a
free slot begins to write the image of what it holds there, and any other fences, releases NF_ACTIVE_N and writes no image. R400, R408:
a save that is complete leaves a valid image with all its parts. R404: a shadow load leaves the listed ranges' bytes in the shadow. -/
def Obligations.NightfallSaves : Prop :=
  (∀ (s : State) (t : Stamp) (cause : Nat), s.up = true → s.nf.triggered = false → 0 < cause → cause ≤ 3 →
    let b := (s.advance t).haltAll
    let a := b.noteTrigger cause
    exec (.nightfallTrigger t cause) s = settled s t (a.fenceAndSave cause) ∧
      a.fld NF_STATUS.CAUSE 0 = cause ∧ a.fld NF_STATUS.TRIGGER 0 = b.stb % 2 ^ 64 ∧ a.fld NF_STATUS.HALT 0 = b.stb % 2 ^ 64 ∧
      a.fld NF_STATUS.STAGE 0 = 5 ∧ (a.fld CHIP_SAFE.FAULT_N_BY 0).testBit 1 = true ∧ a.pins.nfActiveN = false ∧
      a.pins.faultN = false ∧ a.nf = b.nf ∧
      ((a.is NF_STATUS.ARMED 0 = false ∨ a.freeSlot = none) →
        (a.fenceAndSave cause).nf = b.nf ∧ (a.fenceAndSave cause).fld NF_STATUS.STAGE 0 = 7 ∧
          (a.fenceAndSave cause).pins.nfActiveN = true) ∧
      (∀ k, a.is NF_STATUS.ARMED 0 = true → a.freeSlot = some k →
        (a.fenceAndSave cause).nf.writing = some k ∧ (a.fenceAndSave cause).imageIn k = some (a.imageNow k cause) ∧
          (a.fenceAndSave cause).pins.nfActiveN = false)) ∧
  (∀ (s : State) (t : Stamp) (im : Image), s.up = true → s.nf.writing.bind s.imageIn = some im →
    let a := (s.advance t).putImage { im with state := 2, stop := (s.advance t).stb, parts := 0x3F, crcOk := 0x7F }
    exec (.saveComplete t) s = settled s t
      ((({ a with nf := { a.nf with writing := none }, pins := { a.pins with nfActiveN := true } }).set NF_STATUS.STAGE 0 7).refreshHeld)) ∧
  (∀ (s : State) (t : Stamp), s.up = true → s.is NF_STATUS.SHADOW_READY 0 = false → s.nf.triggered = false →
    ∃ r : State, exec (.shadowLoadDone t) s = settled s t r ∧ r.fld NF_STATUS.SHADOW_READY 0 = 1 ∧ r.mem = s.mem ∧
      r.nf.shadow = s.mem.cells.filter (fun q => s.nf.ranges.any (fun x => decide (x.1 ≤ q.1) && decide (q.1 < x.1 + x.2))))

/-! ### Start, reset and loss of power -/

/-- R429: a reset without a Nightfall leaves the state of reset but for the save store's images, the boot flash, THERMTRIP_N, the
levels that hosts drive, and the rows spared before (R228, R430); R85: so does a loss of power, which releases THERMTRIP_N and keeps what a save in progress has written. The queue stays as it was. -/
def Obligations.ResetAndPowerLoss : Prop :=
  (∀ s : State, s.nf.triggered = false →
    exec .pkgReset s = .next { State.reset with
      mem := { State.reset.mem with spared := s.mem.spared, hard := s.mem.hard }, nf := { State.reset.nf with images := s.nf.images }, fw := { State.reset.fw with flash := s.fw.flash, serial := s.fw.serial },
      pins := { State.reset.pins with thermtripN := s.pins.thermtripN, epPerst := s.pins.epPerst }, out := s.out, freshCount := s.freshCount,
      pending := s.pending }) ∧
  (∀ s : State, s.nf.triggered = true → exec .pkgReset s = .next s) ∧
  (∀ (s : State) (n : Nat), s.nf.writing = none →
    exec (.powerLoss n) s = .next { State.reset with
      mem := { State.reset.mem with spared := s.mem.spared, hard := s.mem.hard }, nf := { State.reset.nf with images := s.nf.images }, fw := { State.reset.fw with flash := s.fw.flash, serial := s.fw.serial },
      pins := { State.reset.pins with epPerst := s.pins.epPerst }, out := s.out, freshCount := s.freshCount, pending := s.pending })

/-- R428, R431, R433, R440: a start with an image that verifies latches the straps and brings the package up at its stamp; without one nothing starts and FAULT_N is
asserted. -/
def Obligations.StartUp : Prop :=
  (∀ (s : State) (t : Stamp) (x : Start) (i : Nat) (fallback : Bool), s.up = false → s.pins.thermtripN = true →
    chooseImage x.board = some (i, fallback) →
    let a : State := { (s.latchStraps x.board) with
      stb := t, up := true, board := some x.board, fw := { s.fw with flash := x.board.flash }, pins := { s.pins with faultN := true } }
    exec (.startUp t x) s = .next (a.bounded (a.startFrom x i fallback).settle)) ∧
  (∀ (s : State) (t : Stamp) (x : Start), s.up = false → s.pins.thermtripN = true → chooseImage x.board = none →
    ∃ r : State, exec (.startUp t x) s = .next r ∧ r.up = false ∧ r.pins.faultN = false ∧ r.fld BOOT_STATUS.STEP 0 = 1)
end

