-- ==== Sys2Proof/Laws/Maps.lean ====
section
/-! SUPPORT. What the finite maps answer after an update, and that an update keeps their order. -/

namespace Sys2Proof.Machine

theorem lookupKey_putBy_same {κ α : Type} [DecidableEq κ] (lt : κ → κ → Bool) (k : κ) (v : α) (m : FMap κ α) :
    lookupKey k (putBy lt k v m) = some v := by
  induction m with
  | nil => simp [putBy, lookupKey]
  | cons q r ih =>
    unfold putBy
    split
    · simp [lookupKey]
    · split <;> simp [lookupKey, *]

theorem lookupKey_putBy_other {κ α : Type} [DecidableEq κ] (lt : κ → κ → Bool) (k j : κ) (v : α) (m : FMap κ α) (h : j ≠ k) :
    lookupKey j (putBy lt k v m) = lookupKey j m := by
  induction m with
  | nil => simp [putBy, lookupKey, h]
  | cons q r ih =>
    unfold putBy
    split
    · rename_i e; subst e; simp [lookupKey, h]
    · split <;> simp [lookupKey, h, ih]

theorem lookupKey_dropKey_same {κ α : Type} [DecidableEq κ] (k : κ) (m : FMap κ α) : lookupKey k (dropKey k m) = none := by
  induction m with
  | nil => rfl
  | cons q r ih =>
    unfold dropKey
    split
    · exact ih
    · simp [lookupKey, *]

theorem lookupKey_dropKey_other {κ α : Type} [DecidableEq κ] (k j : κ) (m : FMap κ α) (h : j ≠ k) :
    lookupKey j (dropKey k m) = lookupKey j m := by
  induction m with
  | nil => rfl
  | cons q r ih =>
    unfold dropKey
    split
    · rename_i e; subst e; simp [lookupKey, h, ih]
    · simp [lookupKey, ih]

@[simp] theorem nget_nput_same {α : Type} (m : NMap α) (k : Nat) (v d : α) : nget (nput m k v) k d = v := by
  simp [nget, nput, lookupKey_putBy_same]

theorem nget_nput_other {α : Type} (m : NMap α) (k j : Nat) (v d : α) (h : j ≠ k) : nget (nput m k v) j d = nget m j d := by
  simp [nget, nput, lookupKey_putBy_other _ _ _ _ _ h]

@[simp] theorem nget_nputd_same {α : Type} [DecidableEq α] (m : NMap α) (k : Nat) (v d : α) : nget (nputd m k v d) k d = v := by
  unfold nputd
  split
  · rename_i e; simp [nget, lookupKey_dropKey_same, e]
  · simp

theorem nget_nputd_other {α : Type} [DecidableEq α] (m : NMap α) (k j : Nat) (v d : α) (h : j ≠ k) :
    nget (nputd m k v d) j d = nget m j d := by
  unfold nputd
  split
  · simp [nget, lookupKey_dropKey_other _ _ _ h]
  · exact nget_nput_other m k j v d h

/-- A map from unit numbers is in order when every key is below every later one. -/
theorem sortedBy_iff {α : Type} (m : NMap α) :
    sortedBy (fun a b => decide (a < b)) m = true ↔ m.Pairwise (fun p q => p.1 < q.1) := by
  induction m with
  | nil => simp [sortedBy]
  | cons p r ih =>
    cases r with
    | nil => simp [sortedBy]
    | cons q r =>
      simp only [sortedBy, Bool.and_eq_true, decide_eq_true_eq, ih, List.pairwise_cons]
      constructor
      · rintro ⟨h, h2, h3⟩
        refine ⟨?_, h2, h3⟩
        intro x hx
        rcases List.mem_cons.1 hx with e | e
        · exact e ▸ h
        · exact Nat.lt_trans h (h2 x e)
      · rintro ⟨h, h2, h3⟩
        exact ⟨h q (List.mem_cons_self ..), h2, h3⟩

theorem dropKey_sublist {κ α : Type} [DecidableEq κ] (k : κ) (m : FMap κ α) : (dropKey k m).Sublist m := by
  induction m with
  | nil => exact List.Sublist.refl _
  | cons q r ih =>
    unfold dropKey
    split
    · exact ih.cons _
    · exact ih.cons_cons _

theorem mem_putBy {κ α : Type} [DecidableEq κ] (lt : κ → κ → Bool) (k : κ) (v : α) (m : FMap κ α) (x : κ × α)
    (h : x ∈ putBy lt k v m) : x = (k, v) ∨ x ∈ m := by
  induction m with
  | nil => simpa [putBy] using h
  | cons q r ih =>
    unfold putBy at h
    split at h
    · rcases List.mem_cons.1 h with e | e
      · exact .inl e
      · exact .inr (List.mem_cons_of_mem _ e)
    · split at h
      · rcases List.mem_cons.1 h with e | e
        · exact .inl e
        · exact .inr e
      · rcases List.mem_cons.1 h with e | e
        · exact .inr (e ▸ List.mem_cons_self ..)
        · rcases ih e with e | e
          · exact .inl e
          · exact .inr (List.mem_cons_of_mem _ e)

theorem pairwise_nput {α : Type} (m : NMap α) (k : Nat) (v : α) (h : m.Pairwise (fun p q => p.1 < q.1)) :
    (nput m k v).Pairwise (fun p q => p.1 < q.1) := by
  induction m with
  | nil => simp [nput, putBy]
  | cons q r ih =>
    obtain ⟨h1, h2⟩ := List.pairwise_cons.1 h
    unfold nput putBy
    split
    · rename_i e
      exact List.pairwise_cons.2 ⟨fun x hx => by simpa [e] using h1 x hx, h2⟩
    · rename_i ne
      split
      · rename_i lt
        have lt : k < q.1 := of_decide_eq_true lt
        refine List.pairwise_cons.2 ⟨fun x hx => ?_, h⟩
        rcases List.mem_cons.1 hx with e | e
        · exact e ▸ lt
        · exact Nat.lt_trans lt (h1 x e)
      · rename_i nlt
        have nlt : ¬ k < q.1 := fun hh => nlt (decide_eq_true hh)
        refine List.pairwise_cons.2 ⟨fun x hx => ?_, ih h2⟩
        rcases mem_putBy _ _ _ _ _ hx with e | e
        · rw [e]; show q.1 < k; omega
        · exact h1 x e

end Sys2Proof.Machine
end

