-- ==== Sys2Proof/Laws/State.lean ====
section
/-! SUPPORT. What each update of the state leaves unchanged: one lemma for each field and each update, and what the reads that the
meanings use see after it. -/

namespace Sys2Proof.Machine

/-! `State.advance` changes `stb` alone. -/

@[simp] theorem State.advance_up (s : State) (t : Stamp) : (s.advance t).up = s.up := rfl
@[simp] theorem State.advance_locked (s : State) (t : Stamp) : (s.advance t).locked = s.locked := rfl
@[simp] theorem State.advance_regs (s : State) (t : Stamp) : (s.advance t).regs = s.regs := rfl
@[simp] theorem State.advance_hits (s : State) (t : Stamp) : (s.advance t).hits = s.hits := rfl
@[simp] theorem State.advance_pins (s : State) (t : Stamp) : (s.advance t).pins = s.pins := rfl
@[simp] theorem State.advance_keeper (s : State) (t : Stamp) : (s.advance t).keeper = s.keeper := rfl
@[simp] theorem State.advance_units (s : State) (t : Stamp) : (s.advance t).units = s.units := rfl
@[simp] theorem State.advance_faults (s : State) (t : Stamp) : (s.advance t).faults = s.faults := rfl
@[simp] theorem State.advance_maint (s : State) (t : Stamp) : (s.advance t).maint = s.maint := rfl
@[simp] theorem State.advance_alm (s : State) (t : Stamp) : (s.advance t).alm = s.alm := rfl
@[simp] theorem State.advance_svc (s : State) (t : Stamp) : (s.advance t).svc = s.svc := rfl
@[simp] theorem State.advance_jnl (s : State) (t : Stamp) : (s.advance t).jnl = s.jnl := rfl
@[simp] theorem State.advance_pcie (s : State) (t : Stamp) : (s.advance t).pcie = s.pcie := rfl
@[simp] theorem State.advance_mem (s : State) (t : Stamp) : (s.advance t).mem = s.mem := rfl
@[simp] theorem State.advance_fab (s : State) (t : Stamp) : (s.advance t).fab = s.fab := rfl
@[simp] theorem State.advance_clock (s : State) (t : Stamp) : (s.advance t).clock = s.clock := rfl
@[simp] theorem State.advance_crs (s : State) (t : Stamp) : (s.advance t).crs = s.crs := rfl
@[simp] theorem State.advance_cst (s : State) (t : Stamp) : (s.advance t).cst = s.cst := rfl
@[simp] theorem State.advance_pow (s : State) (t : Stamp) : (s.advance t).pow = s.pow := rfl
@[simp] theorem State.advance_nf (s : State) (t : Stamp) : (s.advance t).nf = s.nf := rfl
@[simp] theorem State.advance_dbg (s : State) (t : Stamp) : (s.advance t).dbg = s.dbg := rfl
@[simp] theorem State.advance_fw (s : State) (t : Stamp) : (s.advance t).fw = s.fw := rfl
@[simp] theorem State.advance_ctr (s : State) (t : Stamp) : (s.advance t).ctr = s.ctr := rfl
@[simp] theorem State.advance_board (s : State) (t : Stamp) : (s.advance t).board = s.board := rfl
@[simp] theorem State.advance_imsic (s : State) (t : Stamp) : (s.advance t).imsic = s.imsic := rfl
@[simp] theorem State.advance_csrs (s : State) (t : Stamp) : (s.advance t).csrs = s.csrs := rfl
@[simp] theorem State.advance_xregs (s : State) (t : Stamp) : (s.advance t).xregs = s.xregs := rfl
@[simp] theorem State.advance_fregs (s : State) (t : Stamp) : (s.advance t).fregs = s.fregs := rfl
@[simp] theorem State.advance_vregs (s : State) (t : Stamp) : (s.advance t).vregs = s.vregs := rfl
@[simp] theorem State.advance_harts (s : State) (t : Stamp) : (s.advance t).harts = s.harts := rfl
@[simp] theorem State.advance_out (s : State) (t : Stamp) : (s.advance t).out = s.out := rfl
@[simp] theorem State.advance_freshCount (s : State) (t : Stamp) : (s.advance t).freshCount = s.freshCount := rfl
@[simp] theorem State.advance_pending (s : State) (t : Stamp) : (s.advance t).pending = s.pending := rfl

/-! `State.setWord` changes `regs` alone. -/

@[simp] theorem State.setWord_stb (s : State) (r : Reg) (i w : Nat) (v : Word) : (s.setWord r i w v).stb = s.stb := rfl
@[simp] theorem State.setWord_up (s : State) (r : Reg) (i w : Nat) (v : Word) : (s.setWord r i w v).up = s.up := rfl
@[simp] theorem State.setWord_locked (s : State) (r : Reg) (i w : Nat) (v : Word) : (s.setWord r i w v).locked = s.locked := rfl
@[simp] theorem State.setWord_hits (s : State) (r : Reg) (i w : Nat) (v : Word) : (s.setWord r i w v).hits = s.hits := rfl
@[simp] theorem State.setWord_pins (s : State) (r : Reg) (i w : Nat) (v : Word) : (s.setWord r i w v).pins = s.pins := rfl
@[simp] theorem State.setWord_keeper (s : State) (r : Reg) (i w : Nat) (v : Word) : (s.setWord r i w v).keeper = s.keeper := rfl
@[simp] theorem State.setWord_units (s : State) (r : Reg) (i w : Nat) (v : Word) : (s.setWord r i w v).units = s.units := rfl
@[simp] theorem State.setWord_faults (s : State) (r : Reg) (i w : Nat) (v : Word) : (s.setWord r i w v).faults = s.faults := rfl
@[simp] theorem State.setWord_maint (s : State) (r : Reg) (i w : Nat) (v : Word) : (s.setWord r i w v).maint = s.maint := rfl
@[simp] theorem State.setWord_alm (s : State) (r : Reg) (i w : Nat) (v : Word) : (s.setWord r i w v).alm = s.alm := rfl
@[simp] theorem State.setWord_svc (s : State) (r : Reg) (i w : Nat) (v : Word) : (s.setWord r i w v).svc = s.svc := rfl
@[simp] theorem State.setWord_jnl (s : State) (r : Reg) (i w : Nat) (v : Word) : (s.setWord r i w v).jnl = s.jnl := rfl
@[simp] theorem State.setWord_pcie (s : State) (r : Reg) (i w : Nat) (v : Word) : (s.setWord r i w v).pcie = s.pcie := rfl
@[simp] theorem State.setWord_mem (s : State) (r : Reg) (i w : Nat) (v : Word) : (s.setWord r i w v).mem = s.mem := rfl
@[simp] theorem State.setWord_fab (s : State) (r : Reg) (i w : Nat) (v : Word) : (s.setWord r i w v).fab = s.fab := rfl
@[simp] theorem State.setWord_clock (s : State) (r : Reg) (i w : Nat) (v : Word) : (s.setWord r i w v).clock = s.clock := rfl
@[simp] theorem State.setWord_crs (s : State) (r : Reg) (i w : Nat) (v : Word) : (s.setWord r i w v).crs = s.crs := rfl
@[simp] theorem State.setWord_cst (s : State) (r : Reg) (i w : Nat) (v : Word) : (s.setWord r i w v).cst = s.cst := rfl
@[simp] theorem State.setWord_pow (s : State) (r : Reg) (i w : Nat) (v : Word) : (s.setWord r i w v).pow = s.pow := rfl
@[simp] theorem State.setWord_nf (s : State) (r : Reg) (i w : Nat) (v : Word) : (s.setWord r i w v).nf = s.nf := rfl
@[simp] theorem State.setWord_dbg (s : State) (r : Reg) (i w : Nat) (v : Word) : (s.setWord r i w v).dbg = s.dbg := rfl
@[simp] theorem State.setWord_fw (s : State) (r : Reg) (i w : Nat) (v : Word) : (s.setWord r i w v).fw = s.fw := rfl
@[simp] theorem State.setWord_ctr (s : State) (r : Reg) (i w : Nat) (v : Word) : (s.setWord r i w v).ctr = s.ctr := rfl
@[simp] theorem State.setWord_board (s : State) (r : Reg) (i w : Nat) (v : Word) : (s.setWord r i w v).board = s.board := rfl
@[simp] theorem State.setWord_imsic (s : State) (r : Reg) (i w : Nat) (v : Word) : (s.setWord r i w v).imsic = s.imsic := rfl
@[simp] theorem State.setWord_csrs (s : State) (r : Reg) (i w : Nat) (v : Word) : (s.setWord r i w v).csrs = s.csrs := rfl
@[simp] theorem State.setWord_xregs (s : State) (r : Reg) (i w : Nat) (v : Word) : (s.setWord r i w v).xregs = s.xregs := rfl
@[simp] theorem State.setWord_fregs (s : State) (r : Reg) (i w : Nat) (v : Word) : (s.setWord r i w v).fregs = s.fregs := rfl
@[simp] theorem State.setWord_vregs (s : State) (r : Reg) (i w : Nat) (v : Word) : (s.setWord r i w v).vregs = s.vregs := rfl
@[simp] theorem State.setWord_harts (s : State) (r : Reg) (i w : Nat) (v : Word) : (s.setWord r i w v).harts = s.harts := rfl
@[simp] theorem State.setWord_out (s : State) (r : Reg) (i w : Nat) (v : Word) : (s.setWord r i w v).out = s.out := rfl
@[simp] theorem State.setWord_freshCount (s : State) (r : Reg) (i w : Nat) (v : Word) : (s.setWord r i w v).freshCount = s.freshCount := rfl
@[simp] theorem State.setWord_pending (s : State) (r : Reg) (i w : Nat) (v : Word) : (s.setWord r i w v).pending = s.pending := rfl

/-! `State.set` changes `regs` and `hits` alone. -/

@[simp] theorem State.set_stb (s : State) (F : Fld) (i v : Nat) : (s.set F i v).stb = s.stb := rfl
@[simp] theorem State.set_up (s : State) (F : Fld) (i v : Nat) : (s.set F i v).up = s.up := rfl
@[simp] theorem State.set_locked (s : State) (F : Fld) (i v : Nat) : (s.set F i v).locked = s.locked := rfl
@[simp] theorem State.set_pins (s : State) (F : Fld) (i v : Nat) : (s.set F i v).pins = s.pins := rfl
@[simp] theorem State.set_keeper (s : State) (F : Fld) (i v : Nat) : (s.set F i v).keeper = s.keeper := rfl
@[simp] theorem State.set_units (s : State) (F : Fld) (i v : Nat) : (s.set F i v).units = s.units := rfl
@[simp] theorem State.set_faults (s : State) (F : Fld) (i v : Nat) : (s.set F i v).faults = s.faults := rfl
@[simp] theorem State.set_maint (s : State) (F : Fld) (i v : Nat) : (s.set F i v).maint = s.maint := rfl
@[simp] theorem State.set_alm (s : State) (F : Fld) (i v : Nat) : (s.set F i v).alm = s.alm := rfl
@[simp] theorem State.set_svc (s : State) (F : Fld) (i v : Nat) : (s.set F i v).svc = s.svc := rfl
@[simp] theorem State.set_jnl (s : State) (F : Fld) (i v : Nat) : (s.set F i v).jnl = s.jnl := rfl
@[simp] theorem State.set_pcie (s : State) (F : Fld) (i v : Nat) : (s.set F i v).pcie = s.pcie := rfl
@[simp] theorem State.set_mem (s : State) (F : Fld) (i v : Nat) : (s.set F i v).mem = s.mem := rfl
@[simp] theorem State.set_fab (s : State) (F : Fld) (i v : Nat) : (s.set F i v).fab = s.fab := rfl
@[simp] theorem State.set_clock (s : State) (F : Fld) (i v : Nat) : (s.set F i v).clock = s.clock := rfl
@[simp] theorem State.set_crs (s : State) (F : Fld) (i v : Nat) : (s.set F i v).crs = s.crs := rfl
@[simp] theorem State.set_cst (s : State) (F : Fld) (i v : Nat) : (s.set F i v).cst = s.cst := rfl
@[simp] theorem State.set_pow (s : State) (F : Fld) (i v : Nat) : (s.set F i v).pow = s.pow := rfl
@[simp] theorem State.set_nf (s : State) (F : Fld) (i v : Nat) : (s.set F i v).nf = s.nf := rfl
@[simp] theorem State.set_dbg (s : State) (F : Fld) (i v : Nat) : (s.set F i v).dbg = s.dbg := rfl
@[simp] theorem State.set_fw (s : State) (F : Fld) (i v : Nat) : (s.set F i v).fw = s.fw := rfl
@[simp] theorem State.set_ctr (s : State) (F : Fld) (i v : Nat) : (s.set F i v).ctr = s.ctr := rfl
@[simp] theorem State.set_board (s : State) (F : Fld) (i v : Nat) : (s.set F i v).board = s.board := rfl
@[simp] theorem State.set_imsic (s : State) (F : Fld) (i v : Nat) : (s.set F i v).imsic = s.imsic := rfl
@[simp] theorem State.set_csrs (s : State) (F : Fld) (i v : Nat) : (s.set F i v).csrs = s.csrs := rfl
@[simp] theorem State.set_xregs (s : State) (F : Fld) (i v : Nat) : (s.set F i v).xregs = s.xregs := rfl
@[simp] theorem State.set_fregs (s : State) (F : Fld) (i v : Nat) : (s.set F i v).fregs = s.fregs := rfl
@[simp] theorem State.set_vregs (s : State) (F : Fld) (i v : Nat) : (s.set F i v).vregs = s.vregs := rfl
@[simp] theorem State.set_harts (s : State) (F : Fld) (i v : Nat) : (s.set F i v).harts = s.harts := rfl
@[simp] theorem State.set_out (s : State) (F : Fld) (i v : Nat) : (s.set F i v).out = s.out := rfl
@[simp] theorem State.set_freshCount (s : State) (F : Fld) (i v : Nat) : (s.set F i v).freshCount = s.freshCount := rfl
@[simp] theorem State.set_pending (s : State) (F : Fld) (i v : Nat) : (s.set F i v).pending = s.pending := rfl

/-! `State.bump` changes `regs` and `hits` alone. -/

@[simp] theorem State.bump_stb (s : State) (F : Fld) (i : Nat) : (s.bump F i).stb = s.stb := rfl
@[simp] theorem State.bump_up (s : State) (F : Fld) (i : Nat) : (s.bump F i).up = s.up := rfl
@[simp] theorem State.bump_locked (s : State) (F : Fld) (i : Nat) : (s.bump F i).locked = s.locked := rfl
@[simp] theorem State.bump_pins (s : State) (F : Fld) (i : Nat) : (s.bump F i).pins = s.pins := rfl
@[simp] theorem State.bump_keeper (s : State) (F : Fld) (i : Nat) : (s.bump F i).keeper = s.keeper := rfl
@[simp] theorem State.bump_units (s : State) (F : Fld) (i : Nat) : (s.bump F i).units = s.units := rfl
@[simp] theorem State.bump_faults (s : State) (F : Fld) (i : Nat) : (s.bump F i).faults = s.faults := rfl
@[simp] theorem State.bump_maint (s : State) (F : Fld) (i : Nat) : (s.bump F i).maint = s.maint := rfl
@[simp] theorem State.bump_alm (s : State) (F : Fld) (i : Nat) : (s.bump F i).alm = s.alm := rfl
@[simp] theorem State.bump_svc (s : State) (F : Fld) (i : Nat) : (s.bump F i).svc = s.svc := rfl
@[simp] theorem State.bump_jnl (s : State) (F : Fld) (i : Nat) : (s.bump F i).jnl = s.jnl := rfl
@[simp] theorem State.bump_pcie (s : State) (F : Fld) (i : Nat) : (s.bump F i).pcie = s.pcie := rfl
@[simp] theorem State.bump_mem (s : State) (F : Fld) (i : Nat) : (s.bump F i).mem = s.mem := rfl
@[simp] theorem State.bump_fab (s : State) (F : Fld) (i : Nat) : (s.bump F i).fab = s.fab := rfl
@[simp] theorem State.bump_clock (s : State) (F : Fld) (i : Nat) : (s.bump F i).clock = s.clock := rfl
@[simp] theorem State.bump_crs (s : State) (F : Fld) (i : Nat) : (s.bump F i).crs = s.crs := rfl
@[simp] theorem State.bump_cst (s : State) (F : Fld) (i : Nat) : (s.bump F i).cst = s.cst := rfl
@[simp] theorem State.bump_pow (s : State) (F : Fld) (i : Nat) : (s.bump F i).pow = s.pow := rfl
@[simp] theorem State.bump_nf (s : State) (F : Fld) (i : Nat) : (s.bump F i).nf = s.nf := rfl
@[simp] theorem State.bump_dbg (s : State) (F : Fld) (i : Nat) : (s.bump F i).dbg = s.dbg := rfl
@[simp] theorem State.bump_fw (s : State) (F : Fld) (i : Nat) : (s.bump F i).fw = s.fw := rfl
@[simp] theorem State.bump_ctr (s : State) (F : Fld) (i : Nat) : (s.bump F i).ctr = s.ctr := rfl
@[simp] theorem State.bump_board (s : State) (F : Fld) (i : Nat) : (s.bump F i).board = s.board := rfl
@[simp] theorem State.bump_imsic (s : State) (F : Fld) (i : Nat) : (s.bump F i).imsic = s.imsic := rfl
@[simp] theorem State.bump_csrs (s : State) (F : Fld) (i : Nat) : (s.bump F i).csrs = s.csrs := rfl
@[simp] theorem State.bump_xregs (s : State) (F : Fld) (i : Nat) : (s.bump F i).xregs = s.xregs := rfl
@[simp] theorem State.bump_fregs (s : State) (F : Fld) (i : Nat) : (s.bump F i).fregs = s.fregs := rfl
@[simp] theorem State.bump_vregs (s : State) (F : Fld) (i : Nat) : (s.bump F i).vregs = s.vregs := rfl
@[simp] theorem State.bump_harts (s : State) (F : Fld) (i : Nat) : (s.bump F i).harts = s.harts := rfl
@[simp] theorem State.bump_out (s : State) (F : Fld) (i : Nat) : (s.bump F i).out = s.out := rfl
@[simp] theorem State.bump_freshCount (s : State) (F : Fld) (i : Nat) : (s.bump F i).freshCount = s.freshCount := rfl
@[simp] theorem State.bump_pending (s : State) (F : Fld) (i : Nat) : (s.bump F i).pending = s.pending := rfl

/-! `State.bumpSat` changes `regs` and `hits` alone. -/

@[simp] theorem State.bumpSat_stb (s : State) (F : Fld) (i n : Nat) : (s.bumpSat F i n).stb = s.stb := rfl
@[simp] theorem State.bumpSat_up (s : State) (F : Fld) (i n : Nat) : (s.bumpSat F i n).up = s.up := rfl
@[simp] theorem State.bumpSat_locked (s : State) (F : Fld) (i n : Nat) : (s.bumpSat F i n).locked = s.locked := rfl
@[simp] theorem State.bumpSat_pins (s : State) (F : Fld) (i n : Nat) : (s.bumpSat F i n).pins = s.pins := rfl
@[simp] theorem State.bumpSat_keeper (s : State) (F : Fld) (i n : Nat) : (s.bumpSat F i n).keeper = s.keeper := rfl
@[simp] theorem State.bumpSat_units (s : State) (F : Fld) (i n : Nat) : (s.bumpSat F i n).units = s.units := rfl
@[simp] theorem State.bumpSat_faults (s : State) (F : Fld) (i n : Nat) : (s.bumpSat F i n).faults = s.faults := rfl
@[simp] theorem State.bumpSat_maint (s : State) (F : Fld) (i n : Nat) : (s.bumpSat F i n).maint = s.maint := rfl
@[simp] theorem State.bumpSat_alm (s : State) (F : Fld) (i n : Nat) : (s.bumpSat F i n).alm = s.alm := rfl
@[simp] theorem State.bumpSat_svc (s : State) (F : Fld) (i n : Nat) : (s.bumpSat F i n).svc = s.svc := rfl
@[simp] theorem State.bumpSat_jnl (s : State) (F : Fld) (i n : Nat) : (s.bumpSat F i n).jnl = s.jnl := rfl
@[simp] theorem State.bumpSat_pcie (s : State) (F : Fld) (i n : Nat) : (s.bumpSat F i n).pcie = s.pcie := rfl
@[simp] theorem State.bumpSat_mem (s : State) (F : Fld) (i n : Nat) : (s.bumpSat F i n).mem = s.mem := rfl
@[simp] theorem State.bumpSat_fab (s : State) (F : Fld) (i n : Nat) : (s.bumpSat F i n).fab = s.fab := rfl
@[simp] theorem State.bumpSat_clock (s : State) (F : Fld) (i n : Nat) : (s.bumpSat F i n).clock = s.clock := rfl
@[simp] theorem State.bumpSat_crs (s : State) (F : Fld) (i n : Nat) : (s.bumpSat F i n).crs = s.crs := rfl
@[simp] theorem State.bumpSat_cst (s : State) (F : Fld) (i n : Nat) : (s.bumpSat F i n).cst = s.cst := rfl
@[simp] theorem State.bumpSat_pow (s : State) (F : Fld) (i n : Nat) : (s.bumpSat F i n).pow = s.pow := rfl
@[simp] theorem State.bumpSat_nf (s : State) (F : Fld) (i n : Nat) : (s.bumpSat F i n).nf = s.nf := rfl
@[simp] theorem State.bumpSat_dbg (s : State) (F : Fld) (i n : Nat) : (s.bumpSat F i n).dbg = s.dbg := rfl
@[simp] theorem State.bumpSat_fw (s : State) (F : Fld) (i n : Nat) : (s.bumpSat F i n).fw = s.fw := rfl
@[simp] theorem State.bumpSat_ctr (s : State) (F : Fld) (i n : Nat) : (s.bumpSat F i n).ctr = s.ctr := rfl
@[simp] theorem State.bumpSat_board (s : State) (F : Fld) (i n : Nat) : (s.bumpSat F i n).board = s.board := rfl
@[simp] theorem State.bumpSat_imsic (s : State) (F : Fld) (i n : Nat) : (s.bumpSat F i n).imsic = s.imsic := rfl
@[simp] theorem State.bumpSat_csrs (s : State) (F : Fld) (i n : Nat) : (s.bumpSat F i n).csrs = s.csrs := rfl
@[simp] theorem State.bumpSat_xregs (s : State) (F : Fld) (i n : Nat) : (s.bumpSat F i n).xregs = s.xregs := rfl
@[simp] theorem State.bumpSat_fregs (s : State) (F : Fld) (i n : Nat) : (s.bumpSat F i n).fregs = s.fregs := rfl
@[simp] theorem State.bumpSat_vregs (s : State) (F : Fld) (i n : Nat) : (s.bumpSat F i n).vregs = s.vregs := rfl
@[simp] theorem State.bumpSat_harts (s : State) (F : Fld) (i n : Nat) : (s.bumpSat F i n).harts = s.harts := rfl
@[simp] theorem State.bumpSat_out (s : State) (F : Fld) (i n : Nat) : (s.bumpSat F i n).out = s.out := rfl
@[simp] theorem State.bumpSat_freshCount (s : State) (F : Fld) (i n : Nat) : (s.bumpSat F i n).freshCount = s.freshCount := rfl
@[simp] theorem State.bumpSat_pending (s : State) (F : Fld) (i n : Nat) : (s.bumpSat F i n).pending = s.pending := rfl

/-! `State.emit` changes `out` alone. -/

@[simp] theorem State.emit_stb (s : State) (k : OutKind) (a : List Nat) (d : List Byte) : (s.emit k a d).stb = s.stb := rfl
@[simp] theorem State.emit_up (s : State) (k : OutKind) (a : List Nat) (d : List Byte) : (s.emit k a d).up = s.up := rfl
@[simp] theorem State.emit_locked (s : State) (k : OutKind) (a : List Nat) (d : List Byte) : (s.emit k a d).locked = s.locked := rfl
@[simp] theorem State.emit_regs (s : State) (k : OutKind) (a : List Nat) (d : List Byte) : (s.emit k a d).regs = s.regs := rfl
@[simp] theorem State.emit_hits (s : State) (k : OutKind) (a : List Nat) (d : List Byte) : (s.emit k a d).hits = s.hits := rfl
@[simp] theorem State.emit_pins (s : State) (k : OutKind) (a : List Nat) (d : List Byte) : (s.emit k a d).pins = s.pins := rfl
@[simp] theorem State.emit_keeper (s : State) (k : OutKind) (a : List Nat) (d : List Byte) : (s.emit k a d).keeper = s.keeper := rfl
@[simp] theorem State.emit_units (s : State) (k : OutKind) (a : List Nat) (d : List Byte) : (s.emit k a d).units = s.units := rfl
@[simp] theorem State.emit_faults (s : State) (k : OutKind) (a : List Nat) (d : List Byte) : (s.emit k a d).faults = s.faults := rfl
@[simp] theorem State.emit_maint (s : State) (k : OutKind) (a : List Nat) (d : List Byte) : (s.emit k a d).maint = s.maint := rfl
@[simp] theorem State.emit_alm (s : State) (k : OutKind) (a : List Nat) (d : List Byte) : (s.emit k a d).alm = s.alm := rfl
@[simp] theorem State.emit_svc (s : State) (k : OutKind) (a : List Nat) (d : List Byte) : (s.emit k a d).svc = s.svc := rfl
@[simp] theorem State.emit_jnl (s : State) (k : OutKind) (a : List Nat) (d : List Byte) : (s.emit k a d).jnl = s.jnl := rfl
@[simp] theorem State.emit_pcie (s : State) (k : OutKind) (a : List Nat) (d : List Byte) : (s.emit k a d).pcie = s.pcie := rfl
@[simp] theorem State.emit_mem (s : State) (k : OutKind) (a : List Nat) (d : List Byte) : (s.emit k a d).mem = s.mem := rfl
@[simp] theorem State.emit_fab (s : State) (k : OutKind) (a : List Nat) (d : List Byte) : (s.emit k a d).fab = s.fab := rfl
@[simp] theorem State.emit_clock (s : State) (k : OutKind) (a : List Nat) (d : List Byte) : (s.emit k a d).clock = s.clock := rfl
@[simp] theorem State.emit_crs (s : State) (k : OutKind) (a : List Nat) (d : List Byte) : (s.emit k a d).crs = s.crs := rfl
@[simp] theorem State.emit_cst (s : State) (k : OutKind) (a : List Nat) (d : List Byte) : (s.emit k a d).cst = s.cst := rfl
@[simp] theorem State.emit_pow (s : State) (k : OutKind) (a : List Nat) (d : List Byte) : (s.emit k a d).pow = s.pow := rfl
@[simp] theorem State.emit_nf (s : State) (k : OutKind) (a : List Nat) (d : List Byte) : (s.emit k a d).nf = s.nf := rfl
@[simp] theorem State.emit_dbg (s : State) (k : OutKind) (a : List Nat) (d : List Byte) : (s.emit k a d).dbg = s.dbg := rfl
@[simp] theorem State.emit_fw (s : State) (k : OutKind) (a : List Nat) (d : List Byte) : (s.emit k a d).fw = s.fw := rfl
@[simp] theorem State.emit_ctr (s : State) (k : OutKind) (a : List Nat) (d : List Byte) : (s.emit k a d).ctr = s.ctr := rfl
@[simp] theorem State.emit_board (s : State) (k : OutKind) (a : List Nat) (d : List Byte) : (s.emit k a d).board = s.board := rfl
@[simp] theorem State.emit_imsic (s : State) (k : OutKind) (a : List Nat) (d : List Byte) : (s.emit k a d).imsic = s.imsic := rfl
@[simp] theorem State.emit_csrs (s : State) (k : OutKind) (a : List Nat) (d : List Byte) : (s.emit k a d).csrs = s.csrs := rfl
@[simp] theorem State.emit_xregs (s : State) (k : OutKind) (a : List Nat) (d : List Byte) : (s.emit k a d).xregs = s.xregs := rfl
@[simp] theorem State.emit_fregs (s : State) (k : OutKind) (a : List Nat) (d : List Byte) : (s.emit k a d).fregs = s.fregs := rfl
@[simp] theorem State.emit_vregs (s : State) (k : OutKind) (a : List Nat) (d : List Byte) : (s.emit k a d).vregs = s.vregs := rfl
@[simp] theorem State.emit_harts (s : State) (k : OutKind) (a : List Nat) (d : List Byte) : (s.emit k a d).harts = s.harts := rfl
@[simp] theorem State.emit_freshCount (s : State) (k : OutKind) (a : List Nat) (d : List Byte) : (s.emit k a d).freshCount = s.freshCount := rfl
@[simp] theorem State.emit_pending (s : State) (k : OutKind) (a : List Nat) (d : List Byte) : (s.emit k a d).pending = s.pending := rfl

/-! `State.setHart` changes `harts` alone. -/

@[simp] theorem State.setHart_stb (s : State) (h : Nat) (x : Hart) : (s.setHart h x).stb = s.stb := rfl
@[simp] theorem State.setHart_up (s : State) (h : Nat) (x : Hart) : (s.setHart h x).up = s.up := rfl
@[simp] theorem State.setHart_locked (s : State) (h : Nat) (x : Hart) : (s.setHart h x).locked = s.locked := rfl
@[simp] theorem State.setHart_regs (s : State) (h : Nat) (x : Hart) : (s.setHart h x).regs = s.regs := rfl
@[simp] theorem State.setHart_hits (s : State) (h : Nat) (x : Hart) : (s.setHart h x).hits = s.hits := rfl
@[simp] theorem State.setHart_pins (s : State) (h : Nat) (x : Hart) : (s.setHart h x).pins = s.pins := rfl
@[simp] theorem State.setHart_keeper (s : State) (h : Nat) (x : Hart) : (s.setHart h x).keeper = s.keeper := rfl
@[simp] theorem State.setHart_units (s : State) (h : Nat) (x : Hart) : (s.setHart h x).units = s.units := rfl
@[simp] theorem State.setHart_faults (s : State) (h : Nat) (x : Hart) : (s.setHart h x).faults = s.faults := rfl
@[simp] theorem State.setHart_maint (s : State) (h : Nat) (x : Hart) : (s.setHart h x).maint = s.maint := rfl
@[simp] theorem State.setHart_alm (s : State) (h : Nat) (x : Hart) : (s.setHart h x).alm = s.alm := rfl
@[simp] theorem State.setHart_svc (s : State) (h : Nat) (x : Hart) : (s.setHart h x).svc = s.svc := rfl
@[simp] theorem State.setHart_jnl (s : State) (h : Nat) (x : Hart) : (s.setHart h x).jnl = s.jnl := rfl
@[simp] theorem State.setHart_pcie (s : State) (h : Nat) (x : Hart) : (s.setHart h x).pcie = s.pcie := rfl
@[simp] theorem State.setHart_mem (s : State) (h : Nat) (x : Hart) : (s.setHart h x).mem = s.mem := rfl
@[simp] theorem State.setHart_fab (s : State) (h : Nat) (x : Hart) : (s.setHart h x).fab = s.fab := rfl
@[simp] theorem State.setHart_clock (s : State) (h : Nat) (x : Hart) : (s.setHart h x).clock = s.clock := rfl
@[simp] theorem State.setHart_crs (s : State) (h : Nat) (x : Hart) : (s.setHart h x).crs = s.crs := rfl
@[simp] theorem State.setHart_cst (s : State) (h : Nat) (x : Hart) : (s.setHart h x).cst = s.cst := rfl
@[simp] theorem State.setHart_pow (s : State) (h : Nat) (x : Hart) : (s.setHart h x).pow = s.pow := rfl
@[simp] theorem State.setHart_nf (s : State) (h : Nat) (x : Hart) : (s.setHart h x).nf = s.nf := rfl
@[simp] theorem State.setHart_dbg (s : State) (h : Nat) (x : Hart) : (s.setHart h x).dbg = s.dbg := rfl
@[simp] theorem State.setHart_fw (s : State) (h : Nat) (x : Hart) : (s.setHart h x).fw = s.fw := rfl
@[simp] theorem State.setHart_ctr (s : State) (h : Nat) (x : Hart) : (s.setHart h x).ctr = s.ctr := rfl
@[simp] theorem State.setHart_board (s : State) (h : Nat) (x : Hart) : (s.setHart h x).board = s.board := rfl
@[simp] theorem State.setHart_imsic (s : State) (h : Nat) (x : Hart) : (s.setHart h x).imsic = s.imsic := rfl
@[simp] theorem State.setHart_csrs (s : State) (h : Nat) (x : Hart) : (s.setHart h x).csrs = s.csrs := rfl
@[simp] theorem State.setHart_xregs (s : State) (h : Nat) (x : Hart) : (s.setHart h x).xregs = s.xregs := rfl
@[simp] theorem State.setHart_fregs (s : State) (h : Nat) (x : Hart) : (s.setHart h x).fregs = s.fregs := rfl
@[simp] theorem State.setHart_vregs (s : State) (h : Nat) (x : Hart) : (s.setHart h x).vregs = s.vregs := rfl
@[simp] theorem State.setHart_out (s : State) (h : Nat) (x : Hart) : (s.setHart h x).out = s.out := rfl
@[simp] theorem State.setHart_freshCount (s : State) (h : Nat) (x : Hart) : (s.setHart h x).freshCount = s.freshCount := rfl
@[simp] theorem State.setHart_pending (s : State) (h : Nat) (x : Hart) : (s.setHart h x).pending = s.pending := rfl

/-! `State.setPc` changes `harts` alone. -/

@[simp] theorem State.setPc_stb (s : State) (h : Nat) (v : Word) : (s.setPc h v).stb = s.stb := rfl
@[simp] theorem State.setPc_up (s : State) (h : Nat) (v : Word) : (s.setPc h v).up = s.up := rfl
@[simp] theorem State.setPc_locked (s : State) (h : Nat) (v : Word) : (s.setPc h v).locked = s.locked := rfl
@[simp] theorem State.setPc_regs (s : State) (h : Nat) (v : Word) : (s.setPc h v).regs = s.regs := rfl
@[simp] theorem State.setPc_hits (s : State) (h : Nat) (v : Word) : (s.setPc h v).hits = s.hits := rfl
@[simp] theorem State.setPc_pins (s : State) (h : Nat) (v : Word) : (s.setPc h v).pins = s.pins := rfl
@[simp] theorem State.setPc_keeper (s : State) (h : Nat) (v : Word) : (s.setPc h v).keeper = s.keeper := rfl
@[simp] theorem State.setPc_units (s : State) (h : Nat) (v : Word) : (s.setPc h v).units = s.units := rfl
@[simp] theorem State.setPc_faults (s : State) (h : Nat) (v : Word) : (s.setPc h v).faults = s.faults := rfl
@[simp] theorem State.setPc_maint (s : State) (h : Nat) (v : Word) : (s.setPc h v).maint = s.maint := rfl
@[simp] theorem State.setPc_alm (s : State) (h : Nat) (v : Word) : (s.setPc h v).alm = s.alm := rfl
@[simp] theorem State.setPc_svc (s : State) (h : Nat) (v : Word) : (s.setPc h v).svc = s.svc := rfl
@[simp] theorem State.setPc_jnl (s : State) (h : Nat) (v : Word) : (s.setPc h v).jnl = s.jnl := rfl
@[simp] theorem State.setPc_pcie (s : State) (h : Nat) (v : Word) : (s.setPc h v).pcie = s.pcie := rfl
@[simp] theorem State.setPc_mem (s : State) (h : Nat) (v : Word) : (s.setPc h v).mem = s.mem := rfl
@[simp] theorem State.setPc_fab (s : State) (h : Nat) (v : Word) : (s.setPc h v).fab = s.fab := rfl
@[simp] theorem State.setPc_clock (s : State) (h : Nat) (v : Word) : (s.setPc h v).clock = s.clock := rfl
@[simp] theorem State.setPc_crs (s : State) (h : Nat) (v : Word) : (s.setPc h v).crs = s.crs := rfl
@[simp] theorem State.setPc_cst (s : State) (h : Nat) (v : Word) : (s.setPc h v).cst = s.cst := rfl
@[simp] theorem State.setPc_pow (s : State) (h : Nat) (v : Word) : (s.setPc h v).pow = s.pow := rfl
@[simp] theorem State.setPc_nf (s : State) (h : Nat) (v : Word) : (s.setPc h v).nf = s.nf := rfl
@[simp] theorem State.setPc_dbg (s : State) (h : Nat) (v : Word) : (s.setPc h v).dbg = s.dbg := rfl
@[simp] theorem State.setPc_fw (s : State) (h : Nat) (v : Word) : (s.setPc h v).fw = s.fw := rfl
@[simp] theorem State.setPc_ctr (s : State) (h : Nat) (v : Word) : (s.setPc h v).ctr = s.ctr := rfl
@[simp] theorem State.setPc_board (s : State) (h : Nat) (v : Word) : (s.setPc h v).board = s.board := rfl
@[simp] theorem State.setPc_imsic (s : State) (h : Nat) (v : Word) : (s.setPc h v).imsic = s.imsic := rfl
@[simp] theorem State.setPc_csrs (s : State) (h : Nat) (v : Word) : (s.setPc h v).csrs = s.csrs := rfl
@[simp] theorem State.setPc_xregs (s : State) (h : Nat) (v : Word) : (s.setPc h v).xregs = s.xregs := rfl
@[simp] theorem State.setPc_fregs (s : State) (h : Nat) (v : Word) : (s.setPc h v).fregs = s.fregs := rfl
@[simp] theorem State.setPc_vregs (s : State) (h : Nat) (v : Word) : (s.setPc h v).vregs = s.vregs := rfl
@[simp] theorem State.setPc_out (s : State) (h : Nat) (v : Word) : (s.setPc h v).out = s.out := rfl
@[simp] theorem State.setPc_freshCount (s : State) (h : Nat) (v : Word) : (s.setPc h v).freshCount = s.freshCount := rfl
@[simp] theorem State.setPc_pending (s : State) (h : Nat) (v : Word) : (s.setPc h v).pending = s.pending := rfl

/-! `State.setCsr` changes `csrs` alone. -/

@[simp] theorem State.setCsr_stb (s : State) (h n : Nat) (v : Word) : (s.setCsr h n v).stb = s.stb := rfl
@[simp] theorem State.setCsr_up (s : State) (h n : Nat) (v : Word) : (s.setCsr h n v).up = s.up := rfl
@[simp] theorem State.setCsr_locked (s : State) (h n : Nat) (v : Word) : (s.setCsr h n v).locked = s.locked := rfl
@[simp] theorem State.setCsr_regs (s : State) (h n : Nat) (v : Word) : (s.setCsr h n v).regs = s.regs := rfl
@[simp] theorem State.setCsr_hits (s : State) (h n : Nat) (v : Word) : (s.setCsr h n v).hits = s.hits := rfl
@[simp] theorem State.setCsr_pins (s : State) (h n : Nat) (v : Word) : (s.setCsr h n v).pins = s.pins := rfl
@[simp] theorem State.setCsr_keeper (s : State) (h n : Nat) (v : Word) : (s.setCsr h n v).keeper = s.keeper := rfl
@[simp] theorem State.setCsr_units (s : State) (h n : Nat) (v : Word) : (s.setCsr h n v).units = s.units := rfl
@[simp] theorem State.setCsr_faults (s : State) (h n : Nat) (v : Word) : (s.setCsr h n v).faults = s.faults := rfl
@[simp] theorem State.setCsr_maint (s : State) (h n : Nat) (v : Word) : (s.setCsr h n v).maint = s.maint := rfl
@[simp] theorem State.setCsr_alm (s : State) (h n : Nat) (v : Word) : (s.setCsr h n v).alm = s.alm := rfl
@[simp] theorem State.setCsr_svc (s : State) (h n : Nat) (v : Word) : (s.setCsr h n v).svc = s.svc := rfl
@[simp] theorem State.setCsr_jnl (s : State) (h n : Nat) (v : Word) : (s.setCsr h n v).jnl = s.jnl := rfl
@[simp] theorem State.setCsr_pcie (s : State) (h n : Nat) (v : Word) : (s.setCsr h n v).pcie = s.pcie := rfl
@[simp] theorem State.setCsr_mem (s : State) (h n : Nat) (v : Word) : (s.setCsr h n v).mem = s.mem := rfl
@[simp] theorem State.setCsr_fab (s : State) (h n : Nat) (v : Word) : (s.setCsr h n v).fab = s.fab := rfl
@[simp] theorem State.setCsr_clock (s : State) (h n : Nat) (v : Word) : (s.setCsr h n v).clock = s.clock := rfl
@[simp] theorem State.setCsr_crs (s : State) (h n : Nat) (v : Word) : (s.setCsr h n v).crs = s.crs := rfl
@[simp] theorem State.setCsr_cst (s : State) (h n : Nat) (v : Word) : (s.setCsr h n v).cst = s.cst := rfl
@[simp] theorem State.setCsr_pow (s : State) (h n : Nat) (v : Word) : (s.setCsr h n v).pow = s.pow := rfl
@[simp] theorem State.setCsr_nf (s : State) (h n : Nat) (v : Word) : (s.setCsr h n v).nf = s.nf := rfl
@[simp] theorem State.setCsr_dbg (s : State) (h n : Nat) (v : Word) : (s.setCsr h n v).dbg = s.dbg := rfl
@[simp] theorem State.setCsr_fw (s : State) (h n : Nat) (v : Word) : (s.setCsr h n v).fw = s.fw := rfl
@[simp] theorem State.setCsr_ctr (s : State) (h n : Nat) (v : Word) : (s.setCsr h n v).ctr = s.ctr := rfl
@[simp] theorem State.setCsr_board (s : State) (h n : Nat) (v : Word) : (s.setCsr h n v).board = s.board := rfl
@[simp] theorem State.setCsr_imsic (s : State) (h n : Nat) (v : Word) : (s.setCsr h n v).imsic = s.imsic := rfl
@[simp] theorem State.setCsr_xregs (s : State) (h n : Nat) (v : Word) : (s.setCsr h n v).xregs = s.xregs := rfl
@[simp] theorem State.setCsr_fregs (s : State) (h n : Nat) (v : Word) : (s.setCsr h n v).fregs = s.fregs := rfl
@[simp] theorem State.setCsr_vregs (s : State) (h n : Nat) (v : Word) : (s.setCsr h n v).vregs = s.vregs := rfl
@[simp] theorem State.setCsr_harts (s : State) (h n : Nat) (v : Word) : (s.setCsr h n v).harts = s.harts := rfl
@[simp] theorem State.setCsr_out (s : State) (h n : Nat) (v : Word) : (s.setCsr h n v).out = s.out := rfl
@[simp] theorem State.setCsr_freshCount (s : State) (h n : Nat) (v : Word) : (s.setCsr h n v).freshCount = s.freshCount := rfl
@[simp] theorem State.setCsr_pending (s : State) (h n : Nat) (v : Word) : (s.setCsr h n v).pending = s.pending := rfl

/-! `State.setMip` changes `csrs` alone. -/

@[simp] theorem State.setMip_stb (s : State) (h bit : Nat) (on : Bool) : (s.setMip h bit on).stb = s.stb := rfl
@[simp] theorem State.setMip_up (s : State) (h bit : Nat) (on : Bool) : (s.setMip h bit on).up = s.up := rfl
@[simp] theorem State.setMip_locked (s : State) (h bit : Nat) (on : Bool) : (s.setMip h bit on).locked = s.locked := rfl
@[simp] theorem State.setMip_regs (s : State) (h bit : Nat) (on : Bool) : (s.setMip h bit on).regs = s.regs := rfl
@[simp] theorem State.setMip_hits (s : State) (h bit : Nat) (on : Bool) : (s.setMip h bit on).hits = s.hits := rfl
@[simp] theorem State.setMip_pins (s : State) (h bit : Nat) (on : Bool) : (s.setMip h bit on).pins = s.pins := rfl
@[simp] theorem State.setMip_keeper (s : State) (h bit : Nat) (on : Bool) : (s.setMip h bit on).keeper = s.keeper := rfl
@[simp] theorem State.setMip_units (s : State) (h bit : Nat) (on : Bool) : (s.setMip h bit on).units = s.units := rfl
@[simp] theorem State.setMip_faults (s : State) (h bit : Nat) (on : Bool) : (s.setMip h bit on).faults = s.faults := rfl
@[simp] theorem State.setMip_maint (s : State) (h bit : Nat) (on : Bool) : (s.setMip h bit on).maint = s.maint := rfl
@[simp] theorem State.setMip_alm (s : State) (h bit : Nat) (on : Bool) : (s.setMip h bit on).alm = s.alm := rfl
@[simp] theorem State.setMip_svc (s : State) (h bit : Nat) (on : Bool) : (s.setMip h bit on).svc = s.svc := rfl
@[simp] theorem State.setMip_jnl (s : State) (h bit : Nat) (on : Bool) : (s.setMip h bit on).jnl = s.jnl := rfl
@[simp] theorem State.setMip_pcie (s : State) (h bit : Nat) (on : Bool) : (s.setMip h bit on).pcie = s.pcie := rfl
@[simp] theorem State.setMip_mem (s : State) (h bit : Nat) (on : Bool) : (s.setMip h bit on).mem = s.mem := rfl
@[simp] theorem State.setMip_fab (s : State) (h bit : Nat) (on : Bool) : (s.setMip h bit on).fab = s.fab := rfl
@[simp] theorem State.setMip_clock (s : State) (h bit : Nat) (on : Bool) : (s.setMip h bit on).clock = s.clock := rfl
@[simp] theorem State.setMip_crs (s : State) (h bit : Nat) (on : Bool) : (s.setMip h bit on).crs = s.crs := rfl
@[simp] theorem State.setMip_cst (s : State) (h bit : Nat) (on : Bool) : (s.setMip h bit on).cst = s.cst := rfl
@[simp] theorem State.setMip_pow (s : State) (h bit : Nat) (on : Bool) : (s.setMip h bit on).pow = s.pow := rfl
@[simp] theorem State.setMip_nf (s : State) (h bit : Nat) (on : Bool) : (s.setMip h bit on).nf = s.nf := rfl
@[simp] theorem State.setMip_dbg (s : State) (h bit : Nat) (on : Bool) : (s.setMip h bit on).dbg = s.dbg := rfl
@[simp] theorem State.setMip_fw (s : State) (h bit : Nat) (on : Bool) : (s.setMip h bit on).fw = s.fw := rfl
@[simp] theorem State.setMip_ctr (s : State) (h bit : Nat) (on : Bool) : (s.setMip h bit on).ctr = s.ctr := rfl
@[simp] theorem State.setMip_board (s : State) (h bit : Nat) (on : Bool) : (s.setMip h bit on).board = s.board := rfl
@[simp] theorem State.setMip_imsic (s : State) (h bit : Nat) (on : Bool) : (s.setMip h bit on).imsic = s.imsic := rfl
@[simp] theorem State.setMip_xregs (s : State) (h bit : Nat) (on : Bool) : (s.setMip h bit on).xregs = s.xregs := rfl
@[simp] theorem State.setMip_fregs (s : State) (h bit : Nat) (on : Bool) : (s.setMip h bit on).fregs = s.fregs := rfl
@[simp] theorem State.setMip_vregs (s : State) (h bit : Nat) (on : Bool) : (s.setMip h bit on).vregs = s.vregs := rfl
@[simp] theorem State.setMip_harts (s : State) (h bit : Nat) (on : Bool) : (s.setMip h bit on).harts = s.harts := rfl
@[simp] theorem State.setMip_out (s : State) (h bit : Nat) (on : Bool) : (s.setMip h bit on).out = s.out := rfl
@[simp] theorem State.setMip_freshCount (s : State) (h bit : Nat) (on : Bool) : (s.setMip h bit on).freshCount = s.freshCount := rfl
@[simp] theorem State.setMip_pending (s : State) (h bit : Nat) (on : Bool) : (s.setMip h bit on).pending = s.pending := rfl

/-! `State.setX` changes `xregs` alone. -/

@[simp] theorem State.setX_stb (s : State) (h r : Nat) (v : Word) : (s.setX h r v).stb = s.stb := by
  unfold State.setX; split <;> rfl
@[simp] theorem State.setX_up (s : State) (h r : Nat) (v : Word) : (s.setX h r v).up = s.up := by
  unfold State.setX; split <;> rfl
@[simp] theorem State.setX_locked (s : State) (h r : Nat) (v : Word) : (s.setX h r v).locked = s.locked := by
  unfold State.setX; split <;> rfl
@[simp] theorem State.setX_regs (s : State) (h r : Nat) (v : Word) : (s.setX h r v).regs = s.regs := by
  unfold State.setX; split <;> rfl
@[simp] theorem State.setX_hits (s : State) (h r : Nat) (v : Word) : (s.setX h r v).hits = s.hits := by
  unfold State.setX; split <;> rfl
@[simp] theorem State.setX_pins (s : State) (h r : Nat) (v : Word) : (s.setX h r v).pins = s.pins := by
  unfold State.setX; split <;> rfl
@[simp] theorem State.setX_keeper (s : State) (h r : Nat) (v : Word) : (s.setX h r v).keeper = s.keeper := by
  unfold State.setX; split <;> rfl
@[simp] theorem State.setX_units (s : State) (h r : Nat) (v : Word) : (s.setX h r v).units = s.units := by
  unfold State.setX; split <;> rfl
@[simp] theorem State.setX_faults (s : State) (h r : Nat) (v : Word) : (s.setX h r v).faults = s.faults := by
  unfold State.setX; split <;> rfl
@[simp] theorem State.setX_maint (s : State) (h r : Nat) (v : Word) : (s.setX h r v).maint = s.maint := by
  unfold State.setX; split <;> rfl
@[simp] theorem State.setX_alm (s : State) (h r : Nat) (v : Word) : (s.setX h r v).alm = s.alm := by
  unfold State.setX; split <;> rfl
@[simp] theorem State.setX_svc (s : State) (h r : Nat) (v : Word) : (s.setX h r v).svc = s.svc := by
  unfold State.setX; split <;> rfl
@[simp] theorem State.setX_jnl (s : State) (h r : Nat) (v : Word) : (s.setX h r v).jnl = s.jnl := by
  unfold State.setX; split <;> rfl
@[simp] theorem State.setX_pcie (s : State) (h r : Nat) (v : Word) : (s.setX h r v).pcie = s.pcie := by
  unfold State.setX; split <;> rfl
@[simp] theorem State.setX_mem (s : State) (h r : Nat) (v : Word) : (s.setX h r v).mem = s.mem := by
  unfold State.setX; split <;> rfl
@[simp] theorem State.setX_fab (s : State) (h r : Nat) (v : Word) : (s.setX h r v).fab = s.fab := by
  unfold State.setX; split <;> rfl
@[simp] theorem State.setX_clock (s : State) (h r : Nat) (v : Word) : (s.setX h r v).clock = s.clock := by
  unfold State.setX; split <;> rfl
@[simp] theorem State.setX_crs (s : State) (h r : Nat) (v : Word) : (s.setX h r v).crs = s.crs := by
  unfold State.setX; split <;> rfl
@[simp] theorem State.setX_cst (s : State) (h r : Nat) (v : Word) : (s.setX h r v).cst = s.cst := by
  unfold State.setX; split <;> rfl
@[simp] theorem State.setX_pow (s : State) (h r : Nat) (v : Word) : (s.setX h r v).pow = s.pow := by
  unfold State.setX; split <;> rfl
@[simp] theorem State.setX_nf (s : State) (h r : Nat) (v : Word) : (s.setX h r v).nf = s.nf := by
  unfold State.setX; split <;> rfl
@[simp] theorem State.setX_dbg (s : State) (h r : Nat) (v : Word) : (s.setX h r v).dbg = s.dbg := by
  unfold State.setX; split <;> rfl
@[simp] theorem State.setX_fw (s : State) (h r : Nat) (v : Word) : (s.setX h r v).fw = s.fw := by
  unfold State.setX; split <;> rfl
@[simp] theorem State.setX_ctr (s : State) (h r : Nat) (v : Word) : (s.setX h r v).ctr = s.ctr := by
  unfold State.setX; split <;> rfl
@[simp] theorem State.setX_board (s : State) (h r : Nat) (v : Word) : (s.setX h r v).board = s.board := by
  unfold State.setX; split <;> rfl
@[simp] theorem State.setX_imsic (s : State) (h r : Nat) (v : Word) : (s.setX h r v).imsic = s.imsic := by
  unfold State.setX; split <;> rfl
@[simp] theorem State.setX_csrs (s : State) (h r : Nat) (v : Word) : (s.setX h r v).csrs = s.csrs := by
  unfold State.setX; split <;> rfl
@[simp] theorem State.setX_fregs (s : State) (h r : Nat) (v : Word) : (s.setX h r v).fregs = s.fregs := by
  unfold State.setX; split <;> rfl
@[simp] theorem State.setX_vregs (s : State) (h r : Nat) (v : Word) : (s.setX h r v).vregs = s.vregs := by
  unfold State.setX; split <;> rfl
@[simp] theorem State.setX_harts (s : State) (h r : Nat) (v : Word) : (s.setX h r v).harts = s.harts := by
  unfold State.setX; split <;> rfl
@[simp] theorem State.setX_out (s : State) (h r : Nat) (v : Word) : (s.setX h r v).out = s.out := by
  unfold State.setX; split <;> rfl
@[simp] theorem State.setX_freshCount (s : State) (h r : Nat) (v : Word) : (s.setX h r v).freshCount = s.freshCount := by
  unfold State.setX; split <;> rfl
@[simp] theorem State.setX_pending (s : State) (h r : Nat) (v : Word) : (s.setX h r v).pending = s.pending := by
  unfold State.setX; split <;> rfl

/-! `State.setBox` changes `keeper` alone. -/

@[simp] theorem State.setBox_stb (s : State) (m : Nat) (b : Mailbox) : (s.setBox m b).stb = s.stb := rfl
@[simp] theorem State.setBox_up (s : State) (m : Nat) (b : Mailbox) : (s.setBox m b).up = s.up := rfl
@[simp] theorem State.setBox_locked (s : State) (m : Nat) (b : Mailbox) : (s.setBox m b).locked = s.locked := rfl
@[simp] theorem State.setBox_regs (s : State) (m : Nat) (b : Mailbox) : (s.setBox m b).regs = s.regs := rfl
@[simp] theorem State.setBox_hits (s : State) (m : Nat) (b : Mailbox) : (s.setBox m b).hits = s.hits := rfl
@[simp] theorem State.setBox_pins (s : State) (m : Nat) (b : Mailbox) : (s.setBox m b).pins = s.pins := rfl
@[simp] theorem State.setBox_units (s : State) (m : Nat) (b : Mailbox) : (s.setBox m b).units = s.units := rfl
@[simp] theorem State.setBox_faults (s : State) (m : Nat) (b : Mailbox) : (s.setBox m b).faults = s.faults := rfl
@[simp] theorem State.setBox_maint (s : State) (m : Nat) (b : Mailbox) : (s.setBox m b).maint = s.maint := rfl
@[simp] theorem State.setBox_alm (s : State) (m : Nat) (b : Mailbox) : (s.setBox m b).alm = s.alm := rfl
@[simp] theorem State.setBox_svc (s : State) (m : Nat) (b : Mailbox) : (s.setBox m b).svc = s.svc := rfl
@[simp] theorem State.setBox_jnl (s : State) (m : Nat) (b : Mailbox) : (s.setBox m b).jnl = s.jnl := rfl
@[simp] theorem State.setBox_pcie (s : State) (m : Nat) (b : Mailbox) : (s.setBox m b).pcie = s.pcie := rfl
@[simp] theorem State.setBox_mem (s : State) (m : Nat) (b : Mailbox) : (s.setBox m b).mem = s.mem := rfl
@[simp] theorem State.setBox_fab (s : State) (m : Nat) (b : Mailbox) : (s.setBox m b).fab = s.fab := rfl
@[simp] theorem State.setBox_clock (s : State) (m : Nat) (b : Mailbox) : (s.setBox m b).clock = s.clock := rfl
@[simp] theorem State.setBox_crs (s : State) (m : Nat) (b : Mailbox) : (s.setBox m b).crs = s.crs := rfl
@[simp] theorem State.setBox_cst (s : State) (m : Nat) (b : Mailbox) : (s.setBox m b).cst = s.cst := rfl
@[simp] theorem State.setBox_pow (s : State) (m : Nat) (b : Mailbox) : (s.setBox m b).pow = s.pow := rfl
@[simp] theorem State.setBox_nf (s : State) (m : Nat) (b : Mailbox) : (s.setBox m b).nf = s.nf := rfl
@[simp] theorem State.setBox_dbg (s : State) (m : Nat) (b : Mailbox) : (s.setBox m b).dbg = s.dbg := rfl
@[simp] theorem State.setBox_fw (s : State) (m : Nat) (b : Mailbox) : (s.setBox m b).fw = s.fw := rfl
@[simp] theorem State.setBox_ctr (s : State) (m : Nat) (b : Mailbox) : (s.setBox m b).ctr = s.ctr := rfl
@[simp] theorem State.setBox_board (s : State) (m : Nat) (b : Mailbox) : (s.setBox m b).board = s.board := rfl
@[simp] theorem State.setBox_imsic (s : State) (m : Nat) (b : Mailbox) : (s.setBox m b).imsic = s.imsic := rfl
@[simp] theorem State.setBox_csrs (s : State) (m : Nat) (b : Mailbox) : (s.setBox m b).csrs = s.csrs := rfl
@[simp] theorem State.setBox_xregs (s : State) (m : Nat) (b : Mailbox) : (s.setBox m b).xregs = s.xregs := rfl
@[simp] theorem State.setBox_fregs (s : State) (m : Nat) (b : Mailbox) : (s.setBox m b).fregs = s.fregs := rfl
@[simp] theorem State.setBox_vregs (s : State) (m : Nat) (b : Mailbox) : (s.setBox m b).vregs = s.vregs := rfl
@[simp] theorem State.setBox_harts (s : State) (m : Nat) (b : Mailbox) : (s.setBox m b).harts = s.harts := rfl
@[simp] theorem State.setBox_out (s : State) (m : Nat) (b : Mailbox) : (s.setBox m b).out = s.out := rfl
@[simp] theorem State.setBox_freshCount (s : State) (m : Nat) (b : Mailbox) : (s.setBox m b).freshCount = s.freshCount := rfl
@[simp] theorem State.setBox_pending (s : State) (m : Nat) (b : Mailbox) : (s.setBox m b).pending = s.pending := rfl

/-! `State.mapTaken` changes `keeper` alone. -/

@[simp] theorem State.mapTaken_stb (s : State) (m : Nat) (p : Taken → Bool) (f : Taken → Taken) : (s.mapTaken m p f).stb = s.stb := rfl
@[simp] theorem State.mapTaken_up (s : State) (m : Nat) (p : Taken → Bool) (f : Taken → Taken) : (s.mapTaken m p f).up = s.up := rfl
@[simp] theorem State.mapTaken_locked (s : State) (m : Nat) (p : Taken → Bool) (f : Taken → Taken) : (s.mapTaken m p f).locked = s.locked := rfl
@[simp] theorem State.mapTaken_regs (s : State) (m : Nat) (p : Taken → Bool) (f : Taken → Taken) : (s.mapTaken m p f).regs = s.regs := rfl
@[simp] theorem State.mapTaken_hits (s : State) (m : Nat) (p : Taken → Bool) (f : Taken → Taken) : (s.mapTaken m p f).hits = s.hits := rfl
@[simp] theorem State.mapTaken_pins (s : State) (m : Nat) (p : Taken → Bool) (f : Taken → Taken) : (s.mapTaken m p f).pins = s.pins := rfl
@[simp] theorem State.mapTaken_units (s : State) (m : Nat) (p : Taken → Bool) (f : Taken → Taken) : (s.mapTaken m p f).units = s.units := rfl
@[simp] theorem State.mapTaken_faults (s : State) (m : Nat) (p : Taken → Bool) (f : Taken → Taken) : (s.mapTaken m p f).faults = s.faults := rfl
@[simp] theorem State.mapTaken_maint (s : State) (m : Nat) (p : Taken → Bool) (f : Taken → Taken) : (s.mapTaken m p f).maint = s.maint := rfl
@[simp] theorem State.mapTaken_alm (s : State) (m : Nat) (p : Taken → Bool) (f : Taken → Taken) : (s.mapTaken m p f).alm = s.alm := rfl
@[simp] theorem State.mapTaken_svc (s : State) (m : Nat) (p : Taken → Bool) (f : Taken → Taken) : (s.mapTaken m p f).svc = s.svc := rfl
@[simp] theorem State.mapTaken_jnl (s : State) (m : Nat) (p : Taken → Bool) (f : Taken → Taken) : (s.mapTaken m p f).jnl = s.jnl := rfl
@[simp] theorem State.mapTaken_pcie (s : State) (m : Nat) (p : Taken → Bool) (f : Taken → Taken) : (s.mapTaken m p f).pcie = s.pcie := rfl
@[simp] theorem State.mapTaken_mem (s : State) (m : Nat) (p : Taken → Bool) (f : Taken → Taken) : (s.mapTaken m p f).mem = s.mem := rfl
@[simp] theorem State.mapTaken_fab (s : State) (m : Nat) (p : Taken → Bool) (f : Taken → Taken) : (s.mapTaken m p f).fab = s.fab := rfl
@[simp] theorem State.mapTaken_clock (s : State) (m : Nat) (p : Taken → Bool) (f : Taken → Taken) : (s.mapTaken m p f).clock = s.clock := rfl
@[simp] theorem State.mapTaken_crs (s : State) (m : Nat) (p : Taken → Bool) (f : Taken → Taken) : (s.mapTaken m p f).crs = s.crs := rfl
@[simp] theorem State.mapTaken_cst (s : State) (m : Nat) (p : Taken → Bool) (f : Taken → Taken) : (s.mapTaken m p f).cst = s.cst := rfl
@[simp] theorem State.mapTaken_pow (s : State) (m : Nat) (p : Taken → Bool) (f : Taken → Taken) : (s.mapTaken m p f).pow = s.pow := rfl
@[simp] theorem State.mapTaken_nf (s : State) (m : Nat) (p : Taken → Bool) (f : Taken → Taken) : (s.mapTaken m p f).nf = s.nf := rfl
@[simp] theorem State.mapTaken_dbg (s : State) (m : Nat) (p : Taken → Bool) (f : Taken → Taken) : (s.mapTaken m p f).dbg = s.dbg := rfl
@[simp] theorem State.mapTaken_fw (s : State) (m : Nat) (p : Taken → Bool) (f : Taken → Taken) : (s.mapTaken m p f).fw = s.fw := rfl
@[simp] theorem State.mapTaken_ctr (s : State) (m : Nat) (p : Taken → Bool) (f : Taken → Taken) : (s.mapTaken m p f).ctr = s.ctr := rfl
@[simp] theorem State.mapTaken_board (s : State) (m : Nat) (p : Taken → Bool) (f : Taken → Taken) : (s.mapTaken m p f).board = s.board := rfl
@[simp] theorem State.mapTaken_imsic (s : State) (m : Nat) (p : Taken → Bool) (f : Taken → Taken) : (s.mapTaken m p f).imsic = s.imsic := rfl
@[simp] theorem State.mapTaken_csrs (s : State) (m : Nat) (p : Taken → Bool) (f : Taken → Taken) : (s.mapTaken m p f).csrs = s.csrs := rfl
@[simp] theorem State.mapTaken_xregs (s : State) (m : Nat) (p : Taken → Bool) (f : Taken → Taken) : (s.mapTaken m p f).xregs = s.xregs := rfl
@[simp] theorem State.mapTaken_fregs (s : State) (m : Nat) (p : Taken → Bool) (f : Taken → Taken) : (s.mapTaken m p f).fregs = s.fregs := rfl
@[simp] theorem State.mapTaken_vregs (s : State) (m : Nat) (p : Taken → Bool) (f : Taken → Taken) : (s.mapTaken m p f).vregs = s.vregs := rfl
@[simp] theorem State.mapTaken_harts (s : State) (m : Nat) (p : Taken → Bool) (f : Taken → Taken) : (s.mapTaken m p f).harts = s.harts := rfl
@[simp] theorem State.mapTaken_out (s : State) (m : Nat) (p : Taken → Bool) (f : Taken → Taken) : (s.mapTaken m p f).out = s.out := rfl
@[simp] theorem State.mapTaken_freshCount (s : State) (m : Nat) (p : Taken → Bool) (f : Taken → Taken) : (s.mapTaken m p f).freshCount = s.freshCount := rfl
@[simp] theorem State.mapTaken_pending (s : State) (m : Nat) (p : Taken → Bool) (f : Taken → Taken) : (s.mapTaken m p f).pending = s.pending := rfl

/-! `State.setPfn` changes `pcie` alone. -/

@[simp] theorem State.setPfn_stb (s : State) (i : Nat) (f : PcieFn) : (s.setPfn i f).stb = s.stb := rfl
@[simp] theorem State.setPfn_up (s : State) (i : Nat) (f : PcieFn) : (s.setPfn i f).up = s.up := rfl
@[simp] theorem State.setPfn_locked (s : State) (i : Nat) (f : PcieFn) : (s.setPfn i f).locked = s.locked := rfl
@[simp] theorem State.setPfn_regs (s : State) (i : Nat) (f : PcieFn) : (s.setPfn i f).regs = s.regs := rfl
@[simp] theorem State.setPfn_hits (s : State) (i : Nat) (f : PcieFn) : (s.setPfn i f).hits = s.hits := rfl
@[simp] theorem State.setPfn_pins (s : State) (i : Nat) (f : PcieFn) : (s.setPfn i f).pins = s.pins := rfl
@[simp] theorem State.setPfn_keeper (s : State) (i : Nat) (f : PcieFn) : (s.setPfn i f).keeper = s.keeper := rfl
@[simp] theorem State.setPfn_units (s : State) (i : Nat) (f : PcieFn) : (s.setPfn i f).units = s.units := rfl
@[simp] theorem State.setPfn_faults (s : State) (i : Nat) (f : PcieFn) : (s.setPfn i f).faults = s.faults := rfl
@[simp] theorem State.setPfn_maint (s : State) (i : Nat) (f : PcieFn) : (s.setPfn i f).maint = s.maint := rfl
@[simp] theorem State.setPfn_alm (s : State) (i : Nat) (f : PcieFn) : (s.setPfn i f).alm = s.alm := rfl
@[simp] theorem State.setPfn_svc (s : State) (i : Nat) (f : PcieFn) : (s.setPfn i f).svc = s.svc := rfl
@[simp] theorem State.setPfn_jnl (s : State) (i : Nat) (f : PcieFn) : (s.setPfn i f).jnl = s.jnl := rfl
@[simp] theorem State.setPfn_mem (s : State) (i : Nat) (f : PcieFn) : (s.setPfn i f).mem = s.mem := rfl
@[simp] theorem State.setPfn_fab (s : State) (i : Nat) (f : PcieFn) : (s.setPfn i f).fab = s.fab := rfl
@[simp] theorem State.setPfn_clock (s : State) (i : Nat) (f : PcieFn) : (s.setPfn i f).clock = s.clock := rfl
@[simp] theorem State.setPfn_crs (s : State) (i : Nat) (f : PcieFn) : (s.setPfn i f).crs = s.crs := rfl
@[simp] theorem State.setPfn_cst (s : State) (i : Nat) (f : PcieFn) : (s.setPfn i f).cst = s.cst := rfl
@[simp] theorem State.setPfn_pow (s : State) (i : Nat) (f : PcieFn) : (s.setPfn i f).pow = s.pow := rfl
@[simp] theorem State.setPfn_nf (s : State) (i : Nat) (f : PcieFn) : (s.setPfn i f).nf = s.nf := rfl
@[simp] theorem State.setPfn_dbg (s : State) (i : Nat) (f : PcieFn) : (s.setPfn i f).dbg = s.dbg := rfl
@[simp] theorem State.setPfn_fw (s : State) (i : Nat) (f : PcieFn) : (s.setPfn i f).fw = s.fw := rfl
@[simp] theorem State.setPfn_ctr (s : State) (i : Nat) (f : PcieFn) : (s.setPfn i f).ctr = s.ctr := rfl
@[simp] theorem State.setPfn_board (s : State) (i : Nat) (f : PcieFn) : (s.setPfn i f).board = s.board := rfl
@[simp] theorem State.setPfn_imsic (s : State) (i : Nat) (f : PcieFn) : (s.setPfn i f).imsic = s.imsic := rfl
@[simp] theorem State.setPfn_csrs (s : State) (i : Nat) (f : PcieFn) : (s.setPfn i f).csrs = s.csrs := rfl
@[simp] theorem State.setPfn_xregs (s : State) (i : Nat) (f : PcieFn) : (s.setPfn i f).xregs = s.xregs := rfl
@[simp] theorem State.setPfn_fregs (s : State) (i : Nat) (f : PcieFn) : (s.setPfn i f).fregs = s.fregs := rfl
@[simp] theorem State.setPfn_vregs (s : State) (i : Nat) (f : PcieFn) : (s.setPfn i f).vregs = s.vregs := rfl
@[simp] theorem State.setPfn_harts (s : State) (i : Nat) (f : PcieFn) : (s.setPfn i f).harts = s.harts := rfl
@[simp] theorem State.setPfn_out (s : State) (i : Nat) (f : PcieFn) : (s.setPfn i f).out = s.out := rfl
@[simp] theorem State.setPfn_freshCount (s : State) (i : Nat) (f : PcieFn) : (s.setPfn i f).freshCount = s.freshCount := rfl
@[simp] theorem State.setPfn_pending (s : State) (i : Nat) (f : PcieFn) : (s.setPfn i f).pending = s.pending := rfl

/-! `State.setCfg` changes `pcie` alone. -/

@[simp] theorem State.setCfg_stb (s : State) (i off n v : Nat) : (s.setCfg i off n v).stb = s.stb := rfl
@[simp] theorem State.setCfg_up (s : State) (i off n v : Nat) : (s.setCfg i off n v).up = s.up := rfl
@[simp] theorem State.setCfg_locked (s : State) (i off n v : Nat) : (s.setCfg i off n v).locked = s.locked := rfl
@[simp] theorem State.setCfg_regs (s : State) (i off n v : Nat) : (s.setCfg i off n v).regs = s.regs := rfl
@[simp] theorem State.setCfg_hits (s : State) (i off n v : Nat) : (s.setCfg i off n v).hits = s.hits := rfl
@[simp] theorem State.setCfg_pins (s : State) (i off n v : Nat) : (s.setCfg i off n v).pins = s.pins := rfl
@[simp] theorem State.setCfg_keeper (s : State) (i off n v : Nat) : (s.setCfg i off n v).keeper = s.keeper := rfl
@[simp] theorem State.setCfg_units (s : State) (i off n v : Nat) : (s.setCfg i off n v).units = s.units := rfl
@[simp] theorem State.setCfg_faults (s : State) (i off n v : Nat) : (s.setCfg i off n v).faults = s.faults := rfl
@[simp] theorem State.setCfg_maint (s : State) (i off n v : Nat) : (s.setCfg i off n v).maint = s.maint := rfl
@[simp] theorem State.setCfg_alm (s : State) (i off n v : Nat) : (s.setCfg i off n v).alm = s.alm := rfl
@[simp] theorem State.setCfg_svc (s : State) (i off n v : Nat) : (s.setCfg i off n v).svc = s.svc := rfl
@[simp] theorem State.setCfg_jnl (s : State) (i off n v : Nat) : (s.setCfg i off n v).jnl = s.jnl := rfl
@[simp] theorem State.setCfg_mem (s : State) (i off n v : Nat) : (s.setCfg i off n v).mem = s.mem := rfl
@[simp] theorem State.setCfg_fab (s : State) (i off n v : Nat) : (s.setCfg i off n v).fab = s.fab := rfl
@[simp] theorem State.setCfg_clock (s : State) (i off n v : Nat) : (s.setCfg i off n v).clock = s.clock := rfl
@[simp] theorem State.setCfg_crs (s : State) (i off n v : Nat) : (s.setCfg i off n v).crs = s.crs := rfl
@[simp] theorem State.setCfg_cst (s : State) (i off n v : Nat) : (s.setCfg i off n v).cst = s.cst := rfl
@[simp] theorem State.setCfg_pow (s : State) (i off n v : Nat) : (s.setCfg i off n v).pow = s.pow := rfl
@[simp] theorem State.setCfg_nf (s : State) (i off n v : Nat) : (s.setCfg i off n v).nf = s.nf := rfl
@[simp] theorem State.setCfg_dbg (s : State) (i off n v : Nat) : (s.setCfg i off n v).dbg = s.dbg := rfl
@[simp] theorem State.setCfg_fw (s : State) (i off n v : Nat) : (s.setCfg i off n v).fw = s.fw := rfl
@[simp] theorem State.setCfg_ctr (s : State) (i off n v : Nat) : (s.setCfg i off n v).ctr = s.ctr := rfl
@[simp] theorem State.setCfg_board (s : State) (i off n v : Nat) : (s.setCfg i off n v).board = s.board := rfl
@[simp] theorem State.setCfg_imsic (s : State) (i off n v : Nat) : (s.setCfg i off n v).imsic = s.imsic := rfl
@[simp] theorem State.setCfg_csrs (s : State) (i off n v : Nat) : (s.setCfg i off n v).csrs = s.csrs := rfl
@[simp] theorem State.setCfg_xregs (s : State) (i off n v : Nat) : (s.setCfg i off n v).xregs = s.xregs := rfl
@[simp] theorem State.setCfg_fregs (s : State) (i off n v : Nat) : (s.setCfg i off n v).fregs = s.fregs := rfl
@[simp] theorem State.setCfg_vregs (s : State) (i off n v : Nat) : (s.setCfg i off n v).vregs = s.vregs := rfl
@[simp] theorem State.setCfg_harts (s : State) (i off n v : Nat) : (s.setCfg i off n v).harts = s.harts := rfl
@[simp] theorem State.setCfg_out (s : State) (i off n v : Nat) : (s.setCfg i off n v).out = s.out := rfl
@[simp] theorem State.setCfg_freshCount (s : State) (i off n v : Nat) : (s.setCfg i off n v).freshCount = s.freshCount := rfl
@[simp] theorem State.setCfg_pending (s : State) (i off n v : Nat) : (s.setCfg i off n v).pending = s.pending := rfl

/-! `State.setByte` changes `mem` alone. -/

@[simp] theorem State.setByte_stb (s : State) (a : Nat) (v : Byte) : (s.setByte a v).stb = s.stb := rfl
@[simp] theorem State.setByte_up (s : State) (a : Nat) (v : Byte) : (s.setByte a v).up = s.up := rfl
@[simp] theorem State.setByte_locked (s : State) (a : Nat) (v : Byte) : (s.setByte a v).locked = s.locked := rfl
@[simp] theorem State.setByte_regs (s : State) (a : Nat) (v : Byte) : (s.setByte a v).regs = s.regs := rfl
@[simp] theorem State.setByte_hits (s : State) (a : Nat) (v : Byte) : (s.setByte a v).hits = s.hits := rfl
@[simp] theorem State.setByte_pins (s : State) (a : Nat) (v : Byte) : (s.setByte a v).pins = s.pins := rfl
@[simp] theorem State.setByte_keeper (s : State) (a : Nat) (v : Byte) : (s.setByte a v).keeper = s.keeper := rfl
@[simp] theorem State.setByte_units (s : State) (a : Nat) (v : Byte) : (s.setByte a v).units = s.units := rfl
@[simp] theorem State.setByte_faults (s : State) (a : Nat) (v : Byte) : (s.setByte a v).faults = s.faults := rfl
@[simp] theorem State.setByte_maint (s : State) (a : Nat) (v : Byte) : (s.setByte a v).maint = s.maint := rfl
@[simp] theorem State.setByte_alm (s : State) (a : Nat) (v : Byte) : (s.setByte a v).alm = s.alm := rfl
@[simp] theorem State.setByte_svc (s : State) (a : Nat) (v : Byte) : (s.setByte a v).svc = s.svc := rfl
@[simp] theorem State.setByte_jnl (s : State) (a : Nat) (v : Byte) : (s.setByte a v).jnl = s.jnl := rfl
@[simp] theorem State.setByte_pcie (s : State) (a : Nat) (v : Byte) : (s.setByte a v).pcie = s.pcie := rfl
@[simp] theorem State.setByte_fab (s : State) (a : Nat) (v : Byte) : (s.setByte a v).fab = s.fab := rfl
@[simp] theorem State.setByte_clock (s : State) (a : Nat) (v : Byte) : (s.setByte a v).clock = s.clock := rfl
@[simp] theorem State.setByte_crs (s : State) (a : Nat) (v : Byte) : (s.setByte a v).crs = s.crs := rfl
@[simp] theorem State.setByte_cst (s : State) (a : Nat) (v : Byte) : (s.setByte a v).cst = s.cst := rfl
@[simp] theorem State.setByte_pow (s : State) (a : Nat) (v : Byte) : (s.setByte a v).pow = s.pow := rfl
@[simp] theorem State.setByte_nf (s : State) (a : Nat) (v : Byte) : (s.setByte a v).nf = s.nf := rfl
@[simp] theorem State.setByte_dbg (s : State) (a : Nat) (v : Byte) : (s.setByte a v).dbg = s.dbg := rfl
@[simp] theorem State.setByte_fw (s : State) (a : Nat) (v : Byte) : (s.setByte a v).fw = s.fw := rfl
@[simp] theorem State.setByte_ctr (s : State) (a : Nat) (v : Byte) : (s.setByte a v).ctr = s.ctr := rfl
@[simp] theorem State.setByte_board (s : State) (a : Nat) (v : Byte) : (s.setByte a v).board = s.board := rfl
@[simp] theorem State.setByte_imsic (s : State) (a : Nat) (v : Byte) : (s.setByte a v).imsic = s.imsic := rfl
@[simp] theorem State.setByte_csrs (s : State) (a : Nat) (v : Byte) : (s.setByte a v).csrs = s.csrs := rfl
@[simp] theorem State.setByte_xregs (s : State) (a : Nat) (v : Byte) : (s.setByte a v).xregs = s.xregs := rfl
@[simp] theorem State.setByte_fregs (s : State) (a : Nat) (v : Byte) : (s.setByte a v).fregs = s.fregs := rfl
@[simp] theorem State.setByte_vregs (s : State) (a : Nat) (v : Byte) : (s.setByte a v).vregs = s.vregs := rfl
@[simp] theorem State.setByte_harts (s : State) (a : Nat) (v : Byte) : (s.setByte a v).harts = s.harts := rfl
@[simp] theorem State.setByte_out (s : State) (a : Nat) (v : Byte) : (s.setByte a v).out = s.out := rfl
@[simp] theorem State.setByte_freshCount (s : State) (a : Nat) (v : Byte) : (s.setByte a v).freshCount = s.freshCount := rfl
@[simp] theorem State.setByte_pending (s : State) (a : Nat) (v : Byte) : (s.setByte a v).pending = s.pending := rfl

/-! `State.setPoison` changes `mem` alone. -/

@[simp] theorem State.setPoison_stb (s : State) (line : Nat) (on : Bool) : (s.setPoison line on).stb = s.stb := by
  unfold State.setPoison; split <;> rfl
@[simp] theorem State.setPoison_up (s : State) (line : Nat) (on : Bool) : (s.setPoison line on).up = s.up := by
  unfold State.setPoison; split <;> rfl
@[simp] theorem State.setPoison_locked (s : State) (line : Nat) (on : Bool) : (s.setPoison line on).locked = s.locked := by
  unfold State.setPoison; split <;> rfl
@[simp] theorem State.setPoison_regs (s : State) (line : Nat) (on : Bool) : (s.setPoison line on).regs = s.regs := by
  unfold State.setPoison; split <;> rfl
@[simp] theorem State.setPoison_hits (s : State) (line : Nat) (on : Bool) : (s.setPoison line on).hits = s.hits := by
  unfold State.setPoison; split <;> rfl
@[simp] theorem State.setPoison_pins (s : State) (line : Nat) (on : Bool) : (s.setPoison line on).pins = s.pins := by
  unfold State.setPoison; split <;> rfl
@[simp] theorem State.setPoison_keeper (s : State) (line : Nat) (on : Bool) : (s.setPoison line on).keeper = s.keeper := by
  unfold State.setPoison; split <;> rfl
@[simp] theorem State.setPoison_units (s : State) (line : Nat) (on : Bool) : (s.setPoison line on).units = s.units := by
  unfold State.setPoison; split <;> rfl
@[simp] theorem State.setPoison_faults (s : State) (line : Nat) (on : Bool) : (s.setPoison line on).faults = s.faults := by
  unfold State.setPoison; split <;> rfl
@[simp] theorem State.setPoison_maint (s : State) (line : Nat) (on : Bool) : (s.setPoison line on).maint = s.maint := by
  unfold State.setPoison; split <;> rfl
@[simp] theorem State.setPoison_alm (s : State) (line : Nat) (on : Bool) : (s.setPoison line on).alm = s.alm := by
  unfold State.setPoison; split <;> rfl
@[simp] theorem State.setPoison_svc (s : State) (line : Nat) (on : Bool) : (s.setPoison line on).svc = s.svc := by
  unfold State.setPoison; split <;> rfl
@[simp] theorem State.setPoison_jnl (s : State) (line : Nat) (on : Bool) : (s.setPoison line on).jnl = s.jnl := by
  unfold State.setPoison; split <;> rfl
@[simp] theorem State.setPoison_pcie (s : State) (line : Nat) (on : Bool) : (s.setPoison line on).pcie = s.pcie := by
  unfold State.setPoison; split <;> rfl
@[simp] theorem State.setPoison_fab (s : State) (line : Nat) (on : Bool) : (s.setPoison line on).fab = s.fab := by
  unfold State.setPoison; split <;> rfl
@[simp] theorem State.setPoison_clock (s : State) (line : Nat) (on : Bool) : (s.setPoison line on).clock = s.clock := by
  unfold State.setPoison; split <;> rfl
@[simp] theorem State.setPoison_crs (s : State) (line : Nat) (on : Bool) : (s.setPoison line on).crs = s.crs := by
  unfold State.setPoison; split <;> rfl
@[simp] theorem State.setPoison_cst (s : State) (line : Nat) (on : Bool) : (s.setPoison line on).cst = s.cst := by
  unfold State.setPoison; split <;> rfl
@[simp] theorem State.setPoison_pow (s : State) (line : Nat) (on : Bool) : (s.setPoison line on).pow = s.pow := by
  unfold State.setPoison; split <;> rfl
@[simp] theorem State.setPoison_nf (s : State) (line : Nat) (on : Bool) : (s.setPoison line on).nf = s.nf := by
  unfold State.setPoison; split <;> rfl
@[simp] theorem State.setPoison_dbg (s : State) (line : Nat) (on : Bool) : (s.setPoison line on).dbg = s.dbg := by
  unfold State.setPoison; split <;> rfl
@[simp] theorem State.setPoison_fw (s : State) (line : Nat) (on : Bool) : (s.setPoison line on).fw = s.fw := by
  unfold State.setPoison; split <;> rfl
@[simp] theorem State.setPoison_ctr (s : State) (line : Nat) (on : Bool) : (s.setPoison line on).ctr = s.ctr := by
  unfold State.setPoison; split <;> rfl
@[simp] theorem State.setPoison_board (s : State) (line : Nat) (on : Bool) : (s.setPoison line on).board = s.board := by
  unfold State.setPoison; split <;> rfl
@[simp] theorem State.setPoison_imsic (s : State) (line : Nat) (on : Bool) : (s.setPoison line on).imsic = s.imsic := by
  unfold State.setPoison; split <;> rfl
@[simp] theorem State.setPoison_csrs (s : State) (line : Nat) (on : Bool) : (s.setPoison line on).csrs = s.csrs := by
  unfold State.setPoison; split <;> rfl
@[simp] theorem State.setPoison_xregs (s : State) (line : Nat) (on : Bool) : (s.setPoison line on).xregs = s.xregs := by
  unfold State.setPoison; split <;> rfl
@[simp] theorem State.setPoison_fregs (s : State) (line : Nat) (on : Bool) : (s.setPoison line on).fregs = s.fregs := by
  unfold State.setPoison; split <;> rfl
@[simp] theorem State.setPoison_vregs (s : State) (line : Nat) (on : Bool) : (s.setPoison line on).vregs = s.vregs := by
  unfold State.setPoison; split <;> rfl
@[simp] theorem State.setPoison_harts (s : State) (line : Nat) (on : Bool) : (s.setPoison line on).harts = s.harts := by
  unfold State.setPoison; split <;> rfl
@[simp] theorem State.setPoison_out (s : State) (line : Nat) (on : Bool) : (s.setPoison line on).out = s.out := by
  unfold State.setPoison; split <;> rfl
@[simp] theorem State.setPoison_freshCount (s : State) (line : Nat) (on : Bool) : (s.setPoison line on).freshCount = s.freshCount := by
  unfold State.setPoison; split <;> rfl
@[simp] theorem State.setPoison_pending (s : State) (line : Nat) (on : Bool) : (s.setPoison line on).pending = s.pending := by
  unfold State.setPoison; split <;> rfl

/-! `State.setTiles` changes `mem` alone. -/

@[simp] theorem State.setTiles_stb (s : State) (first count : Nat) (secure : Bool) : (s.setTiles first count secure).stb = s.stb := rfl
@[simp] theorem State.setTiles_up (s : State) (first count : Nat) (secure : Bool) : (s.setTiles first count secure).up = s.up := rfl
@[simp] theorem State.setTiles_locked (s : State) (first count : Nat) (secure : Bool) : (s.setTiles first count secure).locked = s.locked := rfl
@[simp] theorem State.setTiles_regs (s : State) (first count : Nat) (secure : Bool) : (s.setTiles first count secure).regs = s.regs := rfl
@[simp] theorem State.setTiles_hits (s : State) (first count : Nat) (secure : Bool) : (s.setTiles first count secure).hits = s.hits := rfl
@[simp] theorem State.setTiles_pins (s : State) (first count : Nat) (secure : Bool) : (s.setTiles first count secure).pins = s.pins := rfl
@[simp] theorem State.setTiles_keeper (s : State) (first count : Nat) (secure : Bool) : (s.setTiles first count secure).keeper = s.keeper := rfl
@[simp] theorem State.setTiles_units (s : State) (first count : Nat) (secure : Bool) : (s.setTiles first count secure).units = s.units := rfl
@[simp] theorem State.setTiles_faults (s : State) (first count : Nat) (secure : Bool) : (s.setTiles first count secure).faults = s.faults := rfl
@[simp] theorem State.setTiles_maint (s : State) (first count : Nat) (secure : Bool) : (s.setTiles first count secure).maint = s.maint := rfl
@[simp] theorem State.setTiles_alm (s : State) (first count : Nat) (secure : Bool) : (s.setTiles first count secure).alm = s.alm := rfl
@[simp] theorem State.setTiles_svc (s : State) (first count : Nat) (secure : Bool) : (s.setTiles first count secure).svc = s.svc := rfl
@[simp] theorem State.setTiles_jnl (s : State) (first count : Nat) (secure : Bool) : (s.setTiles first count secure).jnl = s.jnl := rfl
@[simp] theorem State.setTiles_pcie (s : State) (first count : Nat) (secure : Bool) : (s.setTiles first count secure).pcie = s.pcie := rfl
@[simp] theorem State.setTiles_fab (s : State) (first count : Nat) (secure : Bool) : (s.setTiles first count secure).fab = s.fab := rfl
@[simp] theorem State.setTiles_clock (s : State) (first count : Nat) (secure : Bool) : (s.setTiles first count secure).clock = s.clock := rfl
@[simp] theorem State.setTiles_crs (s : State) (first count : Nat) (secure : Bool) : (s.setTiles first count secure).crs = s.crs := rfl
@[simp] theorem State.setTiles_cst (s : State) (first count : Nat) (secure : Bool) : (s.setTiles first count secure).cst = s.cst := rfl
@[simp] theorem State.setTiles_pow (s : State) (first count : Nat) (secure : Bool) : (s.setTiles first count secure).pow = s.pow := rfl
@[simp] theorem State.setTiles_nf (s : State) (first count : Nat) (secure : Bool) : (s.setTiles first count secure).nf = s.nf := rfl
@[simp] theorem State.setTiles_dbg (s : State) (first count : Nat) (secure : Bool) : (s.setTiles first count secure).dbg = s.dbg := rfl
@[simp] theorem State.setTiles_fw (s : State) (first count : Nat) (secure : Bool) : (s.setTiles first count secure).fw = s.fw := rfl
@[simp] theorem State.setTiles_ctr (s : State) (first count : Nat) (secure : Bool) : (s.setTiles first count secure).ctr = s.ctr := rfl
@[simp] theorem State.setTiles_board (s : State) (first count : Nat) (secure : Bool) : (s.setTiles first count secure).board = s.board := rfl
@[simp] theorem State.setTiles_imsic (s : State) (first count : Nat) (secure : Bool) : (s.setTiles first count secure).imsic = s.imsic := rfl
@[simp] theorem State.setTiles_csrs (s : State) (first count : Nat) (secure : Bool) : (s.setTiles first count secure).csrs = s.csrs := rfl
@[simp] theorem State.setTiles_xregs (s : State) (first count : Nat) (secure : Bool) : (s.setTiles first count secure).xregs = s.xregs := rfl
@[simp] theorem State.setTiles_fregs (s : State) (first count : Nat) (secure : Bool) : (s.setTiles first count secure).fregs = s.fregs := rfl
@[simp] theorem State.setTiles_vregs (s : State) (first count : Nat) (secure : Bool) : (s.setTiles first count secure).vregs = s.vregs := rfl
@[simp] theorem State.setTiles_harts (s : State) (first count : Nat) (secure : Bool) : (s.setTiles first count secure).harts = s.harts := rfl
@[simp] theorem State.setTiles_out (s : State) (first count : Nat) (secure : Bool) : (s.setTiles first count secure).out = s.out := rfl
@[simp] theorem State.setTiles_freshCount (s : State) (first count : Nat) (secure : Bool) : (s.setTiles first count secure).freshCount = s.freshCount := rfl
@[simp] theorem State.setTiles_pending (s : State) (first count : Nat) (secure : Bool) : (s.setTiles first count secure).pending = s.pending := rfl

/-! `State.setTxn` changes `fab` alone. -/

@[simp] theorem State.setTxn_stb (s : State) (x : Txn) : (s.setTxn x).stb = s.stb := rfl
@[simp] theorem State.setTxn_up (s : State) (x : Txn) : (s.setTxn x).up = s.up := rfl
@[simp] theorem State.setTxn_locked (s : State) (x : Txn) : (s.setTxn x).locked = s.locked := rfl
@[simp] theorem State.setTxn_regs (s : State) (x : Txn) : (s.setTxn x).regs = s.regs := rfl
@[simp] theorem State.setTxn_hits (s : State) (x : Txn) : (s.setTxn x).hits = s.hits := rfl
@[simp] theorem State.setTxn_pins (s : State) (x : Txn) : (s.setTxn x).pins = s.pins := rfl
@[simp] theorem State.setTxn_keeper (s : State) (x : Txn) : (s.setTxn x).keeper = s.keeper := rfl
@[simp] theorem State.setTxn_units (s : State) (x : Txn) : (s.setTxn x).units = s.units := rfl
@[simp] theorem State.setTxn_faults (s : State) (x : Txn) : (s.setTxn x).faults = s.faults := rfl
@[simp] theorem State.setTxn_maint (s : State) (x : Txn) : (s.setTxn x).maint = s.maint := rfl
@[simp] theorem State.setTxn_alm (s : State) (x : Txn) : (s.setTxn x).alm = s.alm := rfl
@[simp] theorem State.setTxn_svc (s : State) (x : Txn) : (s.setTxn x).svc = s.svc := rfl
@[simp] theorem State.setTxn_jnl (s : State) (x : Txn) : (s.setTxn x).jnl = s.jnl := rfl
@[simp] theorem State.setTxn_pcie (s : State) (x : Txn) : (s.setTxn x).pcie = s.pcie := rfl
@[simp] theorem State.setTxn_mem (s : State) (x : Txn) : (s.setTxn x).mem = s.mem := rfl
@[simp] theorem State.setTxn_clock (s : State) (x : Txn) : (s.setTxn x).clock = s.clock := rfl
@[simp] theorem State.setTxn_crs (s : State) (x : Txn) : (s.setTxn x).crs = s.crs := rfl
@[simp] theorem State.setTxn_cst (s : State) (x : Txn) : (s.setTxn x).cst = s.cst := rfl
@[simp] theorem State.setTxn_pow (s : State) (x : Txn) : (s.setTxn x).pow = s.pow := rfl
@[simp] theorem State.setTxn_nf (s : State) (x : Txn) : (s.setTxn x).nf = s.nf := rfl
@[simp] theorem State.setTxn_dbg (s : State) (x : Txn) : (s.setTxn x).dbg = s.dbg := rfl
@[simp] theorem State.setTxn_fw (s : State) (x : Txn) : (s.setTxn x).fw = s.fw := rfl
@[simp] theorem State.setTxn_ctr (s : State) (x : Txn) : (s.setTxn x).ctr = s.ctr := rfl
@[simp] theorem State.setTxn_board (s : State) (x : Txn) : (s.setTxn x).board = s.board := rfl
@[simp] theorem State.setTxn_imsic (s : State) (x : Txn) : (s.setTxn x).imsic = s.imsic := rfl
@[simp] theorem State.setTxn_csrs (s : State) (x : Txn) : (s.setTxn x).csrs = s.csrs := rfl
@[simp] theorem State.setTxn_xregs (s : State) (x : Txn) : (s.setTxn x).xregs = s.xregs := rfl
@[simp] theorem State.setTxn_fregs (s : State) (x : Txn) : (s.setTxn x).fregs = s.fregs := rfl
@[simp] theorem State.setTxn_vregs (s : State) (x : Txn) : (s.setTxn x).vregs = s.vregs := rfl
@[simp] theorem State.setTxn_harts (s : State) (x : Txn) : (s.setTxn x).harts = s.harts := rfl
@[simp] theorem State.setTxn_out (s : State) (x : Txn) : (s.setTxn x).out = s.out := rfl
@[simp] theorem State.setTxn_freshCount (s : State) (x : Txn) : (s.setTxn x).freshCount = s.freshCount := rfl
@[simp] theorem State.setTxn_pending (s : State) (x : Txn) : (s.setTxn x).pending = s.pending := rfl

/-! `State.setMiss` changes `fab` alone. -/

@[simp] theorem State.setMiss_stb (s : State) (h : Nat) (m : Miss) : (s.setMiss h m).stb = s.stb := rfl
@[simp] theorem State.setMiss_up (s : State) (h : Nat) (m : Miss) : (s.setMiss h m).up = s.up := rfl
@[simp] theorem State.setMiss_locked (s : State) (h : Nat) (m : Miss) : (s.setMiss h m).locked = s.locked := rfl
@[simp] theorem State.setMiss_regs (s : State) (h : Nat) (m : Miss) : (s.setMiss h m).regs = s.regs := rfl
@[simp] theorem State.setMiss_hits (s : State) (h : Nat) (m : Miss) : (s.setMiss h m).hits = s.hits := rfl
@[simp] theorem State.setMiss_pins (s : State) (h : Nat) (m : Miss) : (s.setMiss h m).pins = s.pins := rfl
@[simp] theorem State.setMiss_keeper (s : State) (h : Nat) (m : Miss) : (s.setMiss h m).keeper = s.keeper := rfl
@[simp] theorem State.setMiss_units (s : State) (h : Nat) (m : Miss) : (s.setMiss h m).units = s.units := rfl
@[simp] theorem State.setMiss_faults (s : State) (h : Nat) (m : Miss) : (s.setMiss h m).faults = s.faults := rfl
@[simp] theorem State.setMiss_maint (s : State) (h : Nat) (m : Miss) : (s.setMiss h m).maint = s.maint := rfl
@[simp] theorem State.setMiss_alm (s : State) (h : Nat) (m : Miss) : (s.setMiss h m).alm = s.alm := rfl
@[simp] theorem State.setMiss_svc (s : State) (h : Nat) (m : Miss) : (s.setMiss h m).svc = s.svc := rfl
@[simp] theorem State.setMiss_jnl (s : State) (h : Nat) (m : Miss) : (s.setMiss h m).jnl = s.jnl := rfl
@[simp] theorem State.setMiss_pcie (s : State) (h : Nat) (m : Miss) : (s.setMiss h m).pcie = s.pcie := rfl
@[simp] theorem State.setMiss_mem (s : State) (h : Nat) (m : Miss) : (s.setMiss h m).mem = s.mem := rfl
@[simp] theorem State.setMiss_clock (s : State) (h : Nat) (m : Miss) : (s.setMiss h m).clock = s.clock := rfl
@[simp] theorem State.setMiss_crs (s : State) (h : Nat) (m : Miss) : (s.setMiss h m).crs = s.crs := rfl
@[simp] theorem State.setMiss_cst (s : State) (h : Nat) (m : Miss) : (s.setMiss h m).cst = s.cst := rfl
@[simp] theorem State.setMiss_pow (s : State) (h : Nat) (m : Miss) : (s.setMiss h m).pow = s.pow := rfl
@[simp] theorem State.setMiss_nf (s : State) (h : Nat) (m : Miss) : (s.setMiss h m).nf = s.nf := rfl
@[simp] theorem State.setMiss_dbg (s : State) (h : Nat) (m : Miss) : (s.setMiss h m).dbg = s.dbg := rfl
@[simp] theorem State.setMiss_fw (s : State) (h : Nat) (m : Miss) : (s.setMiss h m).fw = s.fw := rfl
@[simp] theorem State.setMiss_ctr (s : State) (h : Nat) (m : Miss) : (s.setMiss h m).ctr = s.ctr := rfl
@[simp] theorem State.setMiss_board (s : State) (h : Nat) (m : Miss) : (s.setMiss h m).board = s.board := rfl
@[simp] theorem State.setMiss_imsic (s : State) (h : Nat) (m : Miss) : (s.setMiss h m).imsic = s.imsic := rfl
@[simp] theorem State.setMiss_csrs (s : State) (h : Nat) (m : Miss) : (s.setMiss h m).csrs = s.csrs := rfl
@[simp] theorem State.setMiss_xregs (s : State) (h : Nat) (m : Miss) : (s.setMiss h m).xregs = s.xregs := rfl
@[simp] theorem State.setMiss_fregs (s : State) (h : Nat) (m : Miss) : (s.setMiss h m).fregs = s.fregs := rfl
@[simp] theorem State.setMiss_vregs (s : State) (h : Nat) (m : Miss) : (s.setMiss h m).vregs = s.vregs := rfl
@[simp] theorem State.setMiss_harts (s : State) (h : Nat) (m : Miss) : (s.setMiss h m).harts = s.harts := rfl
@[simp] theorem State.setMiss_out (s : State) (h : Nat) (m : Miss) : (s.setMiss h m).out = s.out := rfl
@[simp] theorem State.setMiss_freshCount (s : State) (h : Nat) (m : Miss) : (s.setMiss h m).freshCount = s.freshCount := rfl
@[simp] theorem State.setMiss_pending (s : State) (h : Nat) (m : Miss) : (s.setMiss h m).pending = s.pending := rfl

/-! `State.putLine` changes `fab` alone. -/

@[simp] theorem State.putLine_stb (s : State) (bb line : Nat) (x : CLine) : (s.putLine bb line x).stb = s.stb := rfl
@[simp] theorem State.putLine_up (s : State) (bb line : Nat) (x : CLine) : (s.putLine bb line x).up = s.up := rfl
@[simp] theorem State.putLine_locked (s : State) (bb line : Nat) (x : CLine) : (s.putLine bb line x).locked = s.locked := rfl
@[simp] theorem State.putLine_regs (s : State) (bb line : Nat) (x : CLine) : (s.putLine bb line x).regs = s.regs := rfl
@[simp] theorem State.putLine_hits (s : State) (bb line : Nat) (x : CLine) : (s.putLine bb line x).hits = s.hits := rfl
@[simp] theorem State.putLine_pins (s : State) (bb line : Nat) (x : CLine) : (s.putLine bb line x).pins = s.pins := rfl
@[simp] theorem State.putLine_keeper (s : State) (bb line : Nat) (x : CLine) : (s.putLine bb line x).keeper = s.keeper := rfl
@[simp] theorem State.putLine_units (s : State) (bb line : Nat) (x : CLine) : (s.putLine bb line x).units = s.units := rfl
@[simp] theorem State.putLine_faults (s : State) (bb line : Nat) (x : CLine) : (s.putLine bb line x).faults = s.faults := rfl
@[simp] theorem State.putLine_maint (s : State) (bb line : Nat) (x : CLine) : (s.putLine bb line x).maint = s.maint := rfl
@[simp] theorem State.putLine_alm (s : State) (bb line : Nat) (x : CLine) : (s.putLine bb line x).alm = s.alm := rfl
@[simp] theorem State.putLine_svc (s : State) (bb line : Nat) (x : CLine) : (s.putLine bb line x).svc = s.svc := rfl
@[simp] theorem State.putLine_jnl (s : State) (bb line : Nat) (x : CLine) : (s.putLine bb line x).jnl = s.jnl := rfl
@[simp] theorem State.putLine_pcie (s : State) (bb line : Nat) (x : CLine) : (s.putLine bb line x).pcie = s.pcie := rfl
@[simp] theorem State.putLine_mem (s : State) (bb line : Nat) (x : CLine) : (s.putLine bb line x).mem = s.mem := rfl
@[simp] theorem State.putLine_clock (s : State) (bb line : Nat) (x : CLine) : (s.putLine bb line x).clock = s.clock := rfl
@[simp] theorem State.putLine_crs (s : State) (bb line : Nat) (x : CLine) : (s.putLine bb line x).crs = s.crs := rfl
@[simp] theorem State.putLine_cst (s : State) (bb line : Nat) (x : CLine) : (s.putLine bb line x).cst = s.cst := rfl
@[simp] theorem State.putLine_pow (s : State) (bb line : Nat) (x : CLine) : (s.putLine bb line x).pow = s.pow := rfl
@[simp] theorem State.putLine_nf (s : State) (bb line : Nat) (x : CLine) : (s.putLine bb line x).nf = s.nf := rfl
@[simp] theorem State.putLine_dbg (s : State) (bb line : Nat) (x : CLine) : (s.putLine bb line x).dbg = s.dbg := rfl
@[simp] theorem State.putLine_fw (s : State) (bb line : Nat) (x : CLine) : (s.putLine bb line x).fw = s.fw := rfl
@[simp] theorem State.putLine_ctr (s : State) (bb line : Nat) (x : CLine) : (s.putLine bb line x).ctr = s.ctr := rfl
@[simp] theorem State.putLine_board (s : State) (bb line : Nat) (x : CLine) : (s.putLine bb line x).board = s.board := rfl
@[simp] theorem State.putLine_imsic (s : State) (bb line : Nat) (x : CLine) : (s.putLine bb line x).imsic = s.imsic := rfl
@[simp] theorem State.putLine_csrs (s : State) (bb line : Nat) (x : CLine) : (s.putLine bb line x).csrs = s.csrs := rfl
@[simp] theorem State.putLine_xregs (s : State) (bb line : Nat) (x : CLine) : (s.putLine bb line x).xregs = s.xregs := rfl
@[simp] theorem State.putLine_fregs (s : State) (bb line : Nat) (x : CLine) : (s.putLine bb line x).fregs = s.fregs := rfl
@[simp] theorem State.putLine_vregs (s : State) (bb line : Nat) (x : CLine) : (s.putLine bb line x).vregs = s.vregs := rfl
@[simp] theorem State.putLine_harts (s : State) (bb line : Nat) (x : CLine) : (s.putLine bb line x).harts = s.harts := rfl
@[simp] theorem State.putLine_out (s : State) (bb line : Nat) (x : CLine) : (s.putLine bb line x).out = s.out := rfl
@[simp] theorem State.putLine_freshCount (s : State) (bb line : Nat) (x : CLine) : (s.putLine bb line x).freshCount = s.freshCount := rfl
@[simp] theorem State.putLine_pending (s : State) (bb line : Nat) (x : CLine) : (s.putLine bb line x).pending = s.pending := rfl

/-! `State.setTenure` changes `fab` alone. -/

@[simp] theorem State.setTenure_stb (s : State) (port : Nat) (x : Tenure) : (s.setTenure port x).stb = s.stb := rfl
@[simp] theorem State.setTenure_up (s : State) (port : Nat) (x : Tenure) : (s.setTenure port x).up = s.up := rfl
@[simp] theorem State.setTenure_locked (s : State) (port : Nat) (x : Tenure) : (s.setTenure port x).locked = s.locked := rfl
@[simp] theorem State.setTenure_regs (s : State) (port : Nat) (x : Tenure) : (s.setTenure port x).regs = s.regs := rfl
@[simp] theorem State.setTenure_hits (s : State) (port : Nat) (x : Tenure) : (s.setTenure port x).hits = s.hits := rfl
@[simp] theorem State.setTenure_pins (s : State) (port : Nat) (x : Tenure) : (s.setTenure port x).pins = s.pins := rfl
@[simp] theorem State.setTenure_keeper (s : State) (port : Nat) (x : Tenure) : (s.setTenure port x).keeper = s.keeper := rfl
@[simp] theorem State.setTenure_units (s : State) (port : Nat) (x : Tenure) : (s.setTenure port x).units = s.units := rfl
@[simp] theorem State.setTenure_faults (s : State) (port : Nat) (x : Tenure) : (s.setTenure port x).faults = s.faults := rfl
@[simp] theorem State.setTenure_maint (s : State) (port : Nat) (x : Tenure) : (s.setTenure port x).maint = s.maint := rfl
@[simp] theorem State.setTenure_alm (s : State) (port : Nat) (x : Tenure) : (s.setTenure port x).alm = s.alm := rfl
@[simp] theorem State.setTenure_svc (s : State) (port : Nat) (x : Tenure) : (s.setTenure port x).svc = s.svc := rfl
@[simp] theorem State.setTenure_jnl (s : State) (port : Nat) (x : Tenure) : (s.setTenure port x).jnl = s.jnl := rfl
@[simp] theorem State.setTenure_pcie (s : State) (port : Nat) (x : Tenure) : (s.setTenure port x).pcie = s.pcie := rfl
@[simp] theorem State.setTenure_mem (s : State) (port : Nat) (x : Tenure) : (s.setTenure port x).mem = s.mem := rfl
@[simp] theorem State.setTenure_clock (s : State) (port : Nat) (x : Tenure) : (s.setTenure port x).clock = s.clock := rfl
@[simp] theorem State.setTenure_crs (s : State) (port : Nat) (x : Tenure) : (s.setTenure port x).crs = s.crs := rfl
@[simp] theorem State.setTenure_cst (s : State) (port : Nat) (x : Tenure) : (s.setTenure port x).cst = s.cst := rfl
@[simp] theorem State.setTenure_pow (s : State) (port : Nat) (x : Tenure) : (s.setTenure port x).pow = s.pow := rfl
@[simp] theorem State.setTenure_nf (s : State) (port : Nat) (x : Tenure) : (s.setTenure port x).nf = s.nf := rfl
@[simp] theorem State.setTenure_dbg (s : State) (port : Nat) (x : Tenure) : (s.setTenure port x).dbg = s.dbg := rfl
@[simp] theorem State.setTenure_fw (s : State) (port : Nat) (x : Tenure) : (s.setTenure port x).fw = s.fw := rfl
@[simp] theorem State.setTenure_ctr (s : State) (port : Nat) (x : Tenure) : (s.setTenure port x).ctr = s.ctr := rfl
@[simp] theorem State.setTenure_board (s : State) (port : Nat) (x : Tenure) : (s.setTenure port x).board = s.board := rfl
@[simp] theorem State.setTenure_imsic (s : State) (port : Nat) (x : Tenure) : (s.setTenure port x).imsic = s.imsic := rfl
@[simp] theorem State.setTenure_csrs (s : State) (port : Nat) (x : Tenure) : (s.setTenure port x).csrs = s.csrs := rfl
@[simp] theorem State.setTenure_xregs (s : State) (port : Nat) (x : Tenure) : (s.setTenure port x).xregs = s.xregs := rfl
@[simp] theorem State.setTenure_fregs (s : State) (port : Nat) (x : Tenure) : (s.setTenure port x).fregs = s.fregs := rfl
@[simp] theorem State.setTenure_vregs (s : State) (port : Nat) (x : Tenure) : (s.setTenure port x).vregs = s.vregs := rfl
@[simp] theorem State.setTenure_harts (s : State) (port : Nat) (x : Tenure) : (s.setTenure port x).harts = s.harts := rfl
@[simp] theorem State.setTenure_out (s : State) (port : Nat) (x : Tenure) : (s.setTenure port x).out = s.out := rfl
@[simp] theorem State.setTenure_freshCount (s : State) (port : Nat) (x : Tenure) : (s.setTenure port x).freshCount = s.freshCount := rfl
@[simp] theorem State.setTenure_pending (s : State) (port : Nat) (x : Tenure) : (s.setTenure port x).pending = s.pending := rfl

/-! `State.setLinkRx` changes `crs` alone. -/

@[simp] theorem State.setLinkRx_stb (s : State) (l : Nat) (x : FlitDir) : (s.setLinkRx l x).stb = s.stb := rfl
@[simp] theorem State.setLinkRx_up (s : State) (l : Nat) (x : FlitDir) : (s.setLinkRx l x).up = s.up := rfl
@[simp] theorem State.setLinkRx_locked (s : State) (l : Nat) (x : FlitDir) : (s.setLinkRx l x).locked = s.locked := rfl
@[simp] theorem State.setLinkRx_regs (s : State) (l : Nat) (x : FlitDir) : (s.setLinkRx l x).regs = s.regs := rfl
@[simp] theorem State.setLinkRx_hits (s : State) (l : Nat) (x : FlitDir) : (s.setLinkRx l x).hits = s.hits := rfl
@[simp] theorem State.setLinkRx_pins (s : State) (l : Nat) (x : FlitDir) : (s.setLinkRx l x).pins = s.pins := rfl
@[simp] theorem State.setLinkRx_keeper (s : State) (l : Nat) (x : FlitDir) : (s.setLinkRx l x).keeper = s.keeper := rfl
@[simp] theorem State.setLinkRx_units (s : State) (l : Nat) (x : FlitDir) : (s.setLinkRx l x).units = s.units := rfl
@[simp] theorem State.setLinkRx_faults (s : State) (l : Nat) (x : FlitDir) : (s.setLinkRx l x).faults = s.faults := rfl
@[simp] theorem State.setLinkRx_maint (s : State) (l : Nat) (x : FlitDir) : (s.setLinkRx l x).maint = s.maint := rfl
@[simp] theorem State.setLinkRx_alm (s : State) (l : Nat) (x : FlitDir) : (s.setLinkRx l x).alm = s.alm := rfl
@[simp] theorem State.setLinkRx_svc (s : State) (l : Nat) (x : FlitDir) : (s.setLinkRx l x).svc = s.svc := rfl
@[simp] theorem State.setLinkRx_jnl (s : State) (l : Nat) (x : FlitDir) : (s.setLinkRx l x).jnl = s.jnl := rfl
@[simp] theorem State.setLinkRx_pcie (s : State) (l : Nat) (x : FlitDir) : (s.setLinkRx l x).pcie = s.pcie := rfl
@[simp] theorem State.setLinkRx_mem (s : State) (l : Nat) (x : FlitDir) : (s.setLinkRx l x).mem = s.mem := rfl
@[simp] theorem State.setLinkRx_fab (s : State) (l : Nat) (x : FlitDir) : (s.setLinkRx l x).fab = s.fab := rfl
@[simp] theorem State.setLinkRx_clock (s : State) (l : Nat) (x : FlitDir) : (s.setLinkRx l x).clock = s.clock := rfl
@[simp] theorem State.setLinkRx_cst (s : State) (l : Nat) (x : FlitDir) : (s.setLinkRx l x).cst = s.cst := rfl
@[simp] theorem State.setLinkRx_pow (s : State) (l : Nat) (x : FlitDir) : (s.setLinkRx l x).pow = s.pow := rfl
@[simp] theorem State.setLinkRx_nf (s : State) (l : Nat) (x : FlitDir) : (s.setLinkRx l x).nf = s.nf := rfl
@[simp] theorem State.setLinkRx_dbg (s : State) (l : Nat) (x : FlitDir) : (s.setLinkRx l x).dbg = s.dbg := rfl
@[simp] theorem State.setLinkRx_fw (s : State) (l : Nat) (x : FlitDir) : (s.setLinkRx l x).fw = s.fw := rfl
@[simp] theorem State.setLinkRx_ctr (s : State) (l : Nat) (x : FlitDir) : (s.setLinkRx l x).ctr = s.ctr := rfl
@[simp] theorem State.setLinkRx_board (s : State) (l : Nat) (x : FlitDir) : (s.setLinkRx l x).board = s.board := rfl
@[simp] theorem State.setLinkRx_imsic (s : State) (l : Nat) (x : FlitDir) : (s.setLinkRx l x).imsic = s.imsic := rfl
@[simp] theorem State.setLinkRx_csrs (s : State) (l : Nat) (x : FlitDir) : (s.setLinkRx l x).csrs = s.csrs := rfl
@[simp] theorem State.setLinkRx_xregs (s : State) (l : Nat) (x : FlitDir) : (s.setLinkRx l x).xregs = s.xregs := rfl
@[simp] theorem State.setLinkRx_fregs (s : State) (l : Nat) (x : FlitDir) : (s.setLinkRx l x).fregs = s.fregs := rfl
@[simp] theorem State.setLinkRx_vregs (s : State) (l : Nat) (x : FlitDir) : (s.setLinkRx l x).vregs = s.vregs := rfl
@[simp] theorem State.setLinkRx_harts (s : State) (l : Nat) (x : FlitDir) : (s.setLinkRx l x).harts = s.harts := rfl
@[simp] theorem State.setLinkRx_out (s : State) (l : Nat) (x : FlitDir) : (s.setLinkRx l x).out = s.out := rfl
@[simp] theorem State.setLinkRx_freshCount (s : State) (l : Nat) (x : FlitDir) : (s.setLinkRx l x).freshCount = s.freshCount := rfl
@[simp] theorem State.setLinkRx_pending (s : State) (l : Nat) (x : FlitDir) : (s.setLinkRx l x).pending = s.pending := rfl

/-! `State.setDrain` changes `jnl` alone. -/

@[simp] theorem State.setDrain_stb (s : State) (d : Nat) (x : DrainState) : (s.setDrain d x).stb = s.stb := rfl
@[simp] theorem State.setDrain_up (s : State) (d : Nat) (x : DrainState) : (s.setDrain d x).up = s.up := rfl
@[simp] theorem State.setDrain_locked (s : State) (d : Nat) (x : DrainState) : (s.setDrain d x).locked = s.locked := rfl
@[simp] theorem State.setDrain_regs (s : State) (d : Nat) (x : DrainState) : (s.setDrain d x).regs = s.regs := rfl
@[simp] theorem State.setDrain_hits (s : State) (d : Nat) (x : DrainState) : (s.setDrain d x).hits = s.hits := rfl
@[simp] theorem State.setDrain_pins (s : State) (d : Nat) (x : DrainState) : (s.setDrain d x).pins = s.pins := rfl
@[simp] theorem State.setDrain_keeper (s : State) (d : Nat) (x : DrainState) : (s.setDrain d x).keeper = s.keeper := rfl
@[simp] theorem State.setDrain_units (s : State) (d : Nat) (x : DrainState) : (s.setDrain d x).units = s.units := rfl
@[simp] theorem State.setDrain_faults (s : State) (d : Nat) (x : DrainState) : (s.setDrain d x).faults = s.faults := rfl
@[simp] theorem State.setDrain_maint (s : State) (d : Nat) (x : DrainState) : (s.setDrain d x).maint = s.maint := rfl
@[simp] theorem State.setDrain_alm (s : State) (d : Nat) (x : DrainState) : (s.setDrain d x).alm = s.alm := rfl
@[simp] theorem State.setDrain_svc (s : State) (d : Nat) (x : DrainState) : (s.setDrain d x).svc = s.svc := rfl
@[simp] theorem State.setDrain_pcie (s : State) (d : Nat) (x : DrainState) : (s.setDrain d x).pcie = s.pcie := rfl
@[simp] theorem State.setDrain_mem (s : State) (d : Nat) (x : DrainState) : (s.setDrain d x).mem = s.mem := rfl
@[simp] theorem State.setDrain_fab (s : State) (d : Nat) (x : DrainState) : (s.setDrain d x).fab = s.fab := rfl
@[simp] theorem State.setDrain_clock (s : State) (d : Nat) (x : DrainState) : (s.setDrain d x).clock = s.clock := rfl
@[simp] theorem State.setDrain_crs (s : State) (d : Nat) (x : DrainState) : (s.setDrain d x).crs = s.crs := rfl
@[simp] theorem State.setDrain_cst (s : State) (d : Nat) (x : DrainState) : (s.setDrain d x).cst = s.cst := rfl
@[simp] theorem State.setDrain_pow (s : State) (d : Nat) (x : DrainState) : (s.setDrain d x).pow = s.pow := rfl
@[simp] theorem State.setDrain_nf (s : State) (d : Nat) (x : DrainState) : (s.setDrain d x).nf = s.nf := rfl
@[simp] theorem State.setDrain_dbg (s : State) (d : Nat) (x : DrainState) : (s.setDrain d x).dbg = s.dbg := rfl
@[simp] theorem State.setDrain_fw (s : State) (d : Nat) (x : DrainState) : (s.setDrain d x).fw = s.fw := rfl
@[simp] theorem State.setDrain_ctr (s : State) (d : Nat) (x : DrainState) : (s.setDrain d x).ctr = s.ctr := rfl
@[simp] theorem State.setDrain_board (s : State) (d : Nat) (x : DrainState) : (s.setDrain d x).board = s.board := rfl
@[simp] theorem State.setDrain_imsic (s : State) (d : Nat) (x : DrainState) : (s.setDrain d x).imsic = s.imsic := rfl
@[simp] theorem State.setDrain_csrs (s : State) (d : Nat) (x : DrainState) : (s.setDrain d x).csrs = s.csrs := rfl
@[simp] theorem State.setDrain_xregs (s : State) (d : Nat) (x : DrainState) : (s.setDrain d x).xregs = s.xregs := rfl
@[simp] theorem State.setDrain_fregs (s : State) (d : Nat) (x : DrainState) : (s.setDrain d x).fregs = s.fregs := rfl
@[simp] theorem State.setDrain_vregs (s : State) (d : Nat) (x : DrainState) : (s.setDrain d x).vregs = s.vregs := rfl
@[simp] theorem State.setDrain_harts (s : State) (d : Nat) (x : DrainState) : (s.setDrain d x).harts = s.harts := rfl
@[simp] theorem State.setDrain_out (s : State) (d : Nat) (x : DrainState) : (s.setDrain d x).out = s.out := rfl
@[simp] theorem State.setDrain_freshCount (s : State) (d : Nat) (x : DrainState) : (s.setDrain d x).freshCount = s.freshCount := rfl
@[simp] theorem State.setDrain_pending (s : State) (d : Nat) (x : DrainState) : (s.setDrain d x).pending = s.pending := rfl

/-! `State.setChan` changes `svc` alone. -/

@[simp] theorem State.setChan_stb (s : State) (ch : Nat) (c : Channel) : (s.setChan ch c).stb = s.stb := rfl
@[simp] theorem State.setChan_up (s : State) (ch : Nat) (c : Channel) : (s.setChan ch c).up = s.up := rfl
@[simp] theorem State.setChan_locked (s : State) (ch : Nat) (c : Channel) : (s.setChan ch c).locked = s.locked := rfl
@[simp] theorem State.setChan_regs (s : State) (ch : Nat) (c : Channel) : (s.setChan ch c).regs = s.regs := rfl
@[simp] theorem State.setChan_hits (s : State) (ch : Nat) (c : Channel) : (s.setChan ch c).hits = s.hits := rfl
@[simp] theorem State.setChan_pins (s : State) (ch : Nat) (c : Channel) : (s.setChan ch c).pins = s.pins := rfl
@[simp] theorem State.setChan_keeper (s : State) (ch : Nat) (c : Channel) : (s.setChan ch c).keeper = s.keeper := rfl
@[simp] theorem State.setChan_units (s : State) (ch : Nat) (c : Channel) : (s.setChan ch c).units = s.units := rfl
@[simp] theorem State.setChan_faults (s : State) (ch : Nat) (c : Channel) : (s.setChan ch c).faults = s.faults := rfl
@[simp] theorem State.setChan_maint (s : State) (ch : Nat) (c : Channel) : (s.setChan ch c).maint = s.maint := rfl
@[simp] theorem State.setChan_alm (s : State) (ch : Nat) (c : Channel) : (s.setChan ch c).alm = s.alm := rfl
@[simp] theorem State.setChan_jnl (s : State) (ch : Nat) (c : Channel) : (s.setChan ch c).jnl = s.jnl := rfl
@[simp] theorem State.setChan_pcie (s : State) (ch : Nat) (c : Channel) : (s.setChan ch c).pcie = s.pcie := rfl
@[simp] theorem State.setChan_mem (s : State) (ch : Nat) (c : Channel) : (s.setChan ch c).mem = s.mem := rfl
@[simp] theorem State.setChan_fab (s : State) (ch : Nat) (c : Channel) : (s.setChan ch c).fab = s.fab := rfl
@[simp] theorem State.setChan_clock (s : State) (ch : Nat) (c : Channel) : (s.setChan ch c).clock = s.clock := rfl
@[simp] theorem State.setChan_crs (s : State) (ch : Nat) (c : Channel) : (s.setChan ch c).crs = s.crs := rfl
@[simp] theorem State.setChan_cst (s : State) (ch : Nat) (c : Channel) : (s.setChan ch c).cst = s.cst := rfl
@[simp] theorem State.setChan_pow (s : State) (ch : Nat) (c : Channel) : (s.setChan ch c).pow = s.pow := rfl
@[simp] theorem State.setChan_nf (s : State) (ch : Nat) (c : Channel) : (s.setChan ch c).nf = s.nf := rfl
@[simp] theorem State.setChan_dbg (s : State) (ch : Nat) (c : Channel) : (s.setChan ch c).dbg = s.dbg := rfl
@[simp] theorem State.setChan_fw (s : State) (ch : Nat) (c : Channel) : (s.setChan ch c).fw = s.fw := rfl
@[simp] theorem State.setChan_ctr (s : State) (ch : Nat) (c : Channel) : (s.setChan ch c).ctr = s.ctr := rfl
@[simp] theorem State.setChan_board (s : State) (ch : Nat) (c : Channel) : (s.setChan ch c).board = s.board := rfl
@[simp] theorem State.setChan_imsic (s : State) (ch : Nat) (c : Channel) : (s.setChan ch c).imsic = s.imsic := rfl
@[simp] theorem State.setChan_csrs (s : State) (ch : Nat) (c : Channel) : (s.setChan ch c).csrs = s.csrs := rfl
@[simp] theorem State.setChan_xregs (s : State) (ch : Nat) (c : Channel) : (s.setChan ch c).xregs = s.xregs := rfl
@[simp] theorem State.setChan_fregs (s : State) (ch : Nat) (c : Channel) : (s.setChan ch c).fregs = s.fregs := rfl
@[simp] theorem State.setChan_vregs (s : State) (ch : Nat) (c : Channel) : (s.setChan ch c).vregs = s.vregs := rfl
@[simp] theorem State.setChan_harts (s : State) (ch : Nat) (c : Channel) : (s.setChan ch c).harts = s.harts := rfl
@[simp] theorem State.setChan_out (s : State) (ch : Nat) (c : Channel) : (s.setChan ch c).out = s.out := rfl
@[simp] theorem State.setChan_freshCount (s : State) (ch : Nat) (c : Channel) : (s.setChan ch c).freshCount = s.freshCount := rfl
@[simp] theorem State.setChan_pending (s : State) (ch : Nat) (c : Channel) : (s.setChan ch c).pending = s.pending := rfl

/-! `State.setOp` changes `svc` alone. -/

@[simp] theorem State.setOp_stb (s : State) (o : Op) : (s.setOp o).stb = s.stb := rfl
@[simp] theorem State.setOp_up (s : State) (o : Op) : (s.setOp o).up = s.up := rfl
@[simp] theorem State.setOp_locked (s : State) (o : Op) : (s.setOp o).locked = s.locked := rfl
@[simp] theorem State.setOp_regs (s : State) (o : Op) : (s.setOp o).regs = s.regs := rfl
@[simp] theorem State.setOp_hits (s : State) (o : Op) : (s.setOp o).hits = s.hits := rfl
@[simp] theorem State.setOp_pins (s : State) (o : Op) : (s.setOp o).pins = s.pins := rfl
@[simp] theorem State.setOp_keeper (s : State) (o : Op) : (s.setOp o).keeper = s.keeper := rfl
@[simp] theorem State.setOp_units (s : State) (o : Op) : (s.setOp o).units = s.units := rfl
@[simp] theorem State.setOp_faults (s : State) (o : Op) : (s.setOp o).faults = s.faults := rfl
@[simp] theorem State.setOp_maint (s : State) (o : Op) : (s.setOp o).maint = s.maint := rfl
@[simp] theorem State.setOp_alm (s : State) (o : Op) : (s.setOp o).alm = s.alm := rfl
@[simp] theorem State.setOp_jnl (s : State) (o : Op) : (s.setOp o).jnl = s.jnl := rfl
@[simp] theorem State.setOp_pcie (s : State) (o : Op) : (s.setOp o).pcie = s.pcie := rfl
@[simp] theorem State.setOp_mem (s : State) (o : Op) : (s.setOp o).mem = s.mem := rfl
@[simp] theorem State.setOp_fab (s : State) (o : Op) : (s.setOp o).fab = s.fab := rfl
@[simp] theorem State.setOp_clock (s : State) (o : Op) : (s.setOp o).clock = s.clock := rfl
@[simp] theorem State.setOp_crs (s : State) (o : Op) : (s.setOp o).crs = s.crs := rfl
@[simp] theorem State.setOp_cst (s : State) (o : Op) : (s.setOp o).cst = s.cst := rfl
@[simp] theorem State.setOp_pow (s : State) (o : Op) : (s.setOp o).pow = s.pow := rfl
@[simp] theorem State.setOp_nf (s : State) (o : Op) : (s.setOp o).nf = s.nf := rfl
@[simp] theorem State.setOp_dbg (s : State) (o : Op) : (s.setOp o).dbg = s.dbg := rfl
@[simp] theorem State.setOp_fw (s : State) (o : Op) : (s.setOp o).fw = s.fw := rfl
@[simp] theorem State.setOp_ctr (s : State) (o : Op) : (s.setOp o).ctr = s.ctr := rfl
@[simp] theorem State.setOp_board (s : State) (o : Op) : (s.setOp o).board = s.board := rfl
@[simp] theorem State.setOp_imsic (s : State) (o : Op) : (s.setOp o).imsic = s.imsic := rfl
@[simp] theorem State.setOp_csrs (s : State) (o : Op) : (s.setOp o).csrs = s.csrs := rfl
@[simp] theorem State.setOp_xregs (s : State) (o : Op) : (s.setOp o).xregs = s.xregs := rfl
@[simp] theorem State.setOp_fregs (s : State) (o : Op) : (s.setOp o).fregs = s.fregs := rfl
@[simp] theorem State.setOp_vregs (s : State) (o : Op) : (s.setOp o).vregs = s.vregs := rfl
@[simp] theorem State.setOp_harts (s : State) (o : Op) : (s.setOp o).harts = s.harts := rfl
@[simp] theorem State.setOp_out (s : State) (o : Op) : (s.setOp o).out = s.out := rfl
@[simp] theorem State.setOp_freshCount (s : State) (o : Op) : (s.setOp o).freshCount = s.freshCount := rfl
@[simp] theorem State.setOp_pending (s : State) (o : Op) : (s.setOp o).pending = s.pending := rfl

/-! `State.setRun` changes `svc` alone. -/

@[simp] theorem State.setRun_stb (s : State) (c : Nat) (r : CoreRun) : (s.setRun c r).stb = s.stb := rfl
@[simp] theorem State.setRun_up (s : State) (c : Nat) (r : CoreRun) : (s.setRun c r).up = s.up := rfl
@[simp] theorem State.setRun_locked (s : State) (c : Nat) (r : CoreRun) : (s.setRun c r).locked = s.locked := rfl
@[simp] theorem State.setRun_regs (s : State) (c : Nat) (r : CoreRun) : (s.setRun c r).regs = s.regs := rfl
@[simp] theorem State.setRun_hits (s : State) (c : Nat) (r : CoreRun) : (s.setRun c r).hits = s.hits := rfl
@[simp] theorem State.setRun_pins (s : State) (c : Nat) (r : CoreRun) : (s.setRun c r).pins = s.pins := rfl
@[simp] theorem State.setRun_keeper (s : State) (c : Nat) (r : CoreRun) : (s.setRun c r).keeper = s.keeper := rfl
@[simp] theorem State.setRun_units (s : State) (c : Nat) (r : CoreRun) : (s.setRun c r).units = s.units := rfl
@[simp] theorem State.setRun_faults (s : State) (c : Nat) (r : CoreRun) : (s.setRun c r).faults = s.faults := rfl
@[simp] theorem State.setRun_maint (s : State) (c : Nat) (r : CoreRun) : (s.setRun c r).maint = s.maint := rfl
@[simp] theorem State.setRun_alm (s : State) (c : Nat) (r : CoreRun) : (s.setRun c r).alm = s.alm := rfl
@[simp] theorem State.setRun_jnl (s : State) (c : Nat) (r : CoreRun) : (s.setRun c r).jnl = s.jnl := rfl
@[simp] theorem State.setRun_pcie (s : State) (c : Nat) (r : CoreRun) : (s.setRun c r).pcie = s.pcie := rfl
@[simp] theorem State.setRun_mem (s : State) (c : Nat) (r : CoreRun) : (s.setRun c r).mem = s.mem := rfl
@[simp] theorem State.setRun_fab (s : State) (c : Nat) (r : CoreRun) : (s.setRun c r).fab = s.fab := rfl
@[simp] theorem State.setRun_clock (s : State) (c : Nat) (r : CoreRun) : (s.setRun c r).clock = s.clock := rfl
@[simp] theorem State.setRun_crs (s : State) (c : Nat) (r : CoreRun) : (s.setRun c r).crs = s.crs := rfl
@[simp] theorem State.setRun_cst (s : State) (c : Nat) (r : CoreRun) : (s.setRun c r).cst = s.cst := rfl
@[simp] theorem State.setRun_pow (s : State) (c : Nat) (r : CoreRun) : (s.setRun c r).pow = s.pow := rfl
@[simp] theorem State.setRun_nf (s : State) (c : Nat) (r : CoreRun) : (s.setRun c r).nf = s.nf := rfl
@[simp] theorem State.setRun_dbg (s : State) (c : Nat) (r : CoreRun) : (s.setRun c r).dbg = s.dbg := rfl
@[simp] theorem State.setRun_fw (s : State) (c : Nat) (r : CoreRun) : (s.setRun c r).fw = s.fw := rfl
@[simp] theorem State.setRun_ctr (s : State) (c : Nat) (r : CoreRun) : (s.setRun c r).ctr = s.ctr := rfl
@[simp] theorem State.setRun_board (s : State) (c : Nat) (r : CoreRun) : (s.setRun c r).board = s.board := rfl
@[simp] theorem State.setRun_imsic (s : State) (c : Nat) (r : CoreRun) : (s.setRun c r).imsic = s.imsic := rfl
@[simp] theorem State.setRun_csrs (s : State) (c : Nat) (r : CoreRun) : (s.setRun c r).csrs = s.csrs := rfl
@[simp] theorem State.setRun_xregs (s : State) (c : Nat) (r : CoreRun) : (s.setRun c r).xregs = s.xregs := rfl
@[simp] theorem State.setRun_fregs (s : State) (c : Nat) (r : CoreRun) : (s.setRun c r).fregs = s.fregs := rfl
@[simp] theorem State.setRun_vregs (s : State) (c : Nat) (r : CoreRun) : (s.setRun c r).vregs = s.vregs := rfl
@[simp] theorem State.setRun_harts (s : State) (c : Nat) (r : CoreRun) : (s.setRun c r).harts = s.harts := rfl
@[simp] theorem State.setRun_out (s : State) (c : Nat) (r : CoreRun) : (s.setRun c r).out = s.out := rfl
@[simp] theorem State.setRun_freshCount (s : State) (c : Nat) (r : CoreRun) : (s.setRun c r).freshCount = s.freshCount := rfl
@[simp] theorem State.setRun_pending (s : State) (c : Nat) (r : CoreRun) : (s.setRun c r).pending = s.pending := rfl

/-! `State.setReplica` changes `clock` alone. -/

@[simp] theorem State.setReplica_stb (s : State) (r : Nat) (x : Replica) : (s.setReplica r x).stb = s.stb := rfl
@[simp] theorem State.setReplica_up (s : State) (r : Nat) (x : Replica) : (s.setReplica r x).up = s.up := rfl
@[simp] theorem State.setReplica_locked (s : State) (r : Nat) (x : Replica) : (s.setReplica r x).locked = s.locked := rfl
@[simp] theorem State.setReplica_regs (s : State) (r : Nat) (x : Replica) : (s.setReplica r x).regs = s.regs := rfl
@[simp] theorem State.setReplica_hits (s : State) (r : Nat) (x : Replica) : (s.setReplica r x).hits = s.hits := rfl
@[simp] theorem State.setReplica_pins (s : State) (r : Nat) (x : Replica) : (s.setReplica r x).pins = s.pins := rfl
@[simp] theorem State.setReplica_keeper (s : State) (r : Nat) (x : Replica) : (s.setReplica r x).keeper = s.keeper := rfl
@[simp] theorem State.setReplica_units (s : State) (r : Nat) (x : Replica) : (s.setReplica r x).units = s.units := rfl
@[simp] theorem State.setReplica_faults (s : State) (r : Nat) (x : Replica) : (s.setReplica r x).faults = s.faults := rfl
@[simp] theorem State.setReplica_maint (s : State) (r : Nat) (x : Replica) : (s.setReplica r x).maint = s.maint := rfl
@[simp] theorem State.setReplica_alm (s : State) (r : Nat) (x : Replica) : (s.setReplica r x).alm = s.alm := rfl
@[simp] theorem State.setReplica_svc (s : State) (r : Nat) (x : Replica) : (s.setReplica r x).svc = s.svc := rfl
@[simp] theorem State.setReplica_jnl (s : State) (r : Nat) (x : Replica) : (s.setReplica r x).jnl = s.jnl := rfl
@[simp] theorem State.setReplica_pcie (s : State) (r : Nat) (x : Replica) : (s.setReplica r x).pcie = s.pcie := rfl
@[simp] theorem State.setReplica_mem (s : State) (r : Nat) (x : Replica) : (s.setReplica r x).mem = s.mem := rfl
@[simp] theorem State.setReplica_fab (s : State) (r : Nat) (x : Replica) : (s.setReplica r x).fab = s.fab := rfl
@[simp] theorem State.setReplica_crs (s : State) (r : Nat) (x : Replica) : (s.setReplica r x).crs = s.crs := rfl
@[simp] theorem State.setReplica_cst (s : State) (r : Nat) (x : Replica) : (s.setReplica r x).cst = s.cst := rfl
@[simp] theorem State.setReplica_pow (s : State) (r : Nat) (x : Replica) : (s.setReplica r x).pow = s.pow := rfl
@[simp] theorem State.setReplica_nf (s : State) (r : Nat) (x : Replica) : (s.setReplica r x).nf = s.nf := rfl
@[simp] theorem State.setReplica_dbg (s : State) (r : Nat) (x : Replica) : (s.setReplica r x).dbg = s.dbg := rfl
@[simp] theorem State.setReplica_fw (s : State) (r : Nat) (x : Replica) : (s.setReplica r x).fw = s.fw := rfl
@[simp] theorem State.setReplica_ctr (s : State) (r : Nat) (x : Replica) : (s.setReplica r x).ctr = s.ctr := rfl
@[simp] theorem State.setReplica_board (s : State) (r : Nat) (x : Replica) : (s.setReplica r x).board = s.board := rfl
@[simp] theorem State.setReplica_imsic (s : State) (r : Nat) (x : Replica) : (s.setReplica r x).imsic = s.imsic := rfl
@[simp] theorem State.setReplica_csrs (s : State) (r : Nat) (x : Replica) : (s.setReplica r x).csrs = s.csrs := rfl
@[simp] theorem State.setReplica_xregs (s : State) (r : Nat) (x : Replica) : (s.setReplica r x).xregs = s.xregs := rfl
@[simp] theorem State.setReplica_fregs (s : State) (r : Nat) (x : Replica) : (s.setReplica r x).fregs = s.fregs := rfl
@[simp] theorem State.setReplica_vregs (s : State) (r : Nat) (x : Replica) : (s.setReplica r x).vregs = s.vregs := rfl
@[simp] theorem State.setReplica_harts (s : State) (r : Nat) (x : Replica) : (s.setReplica r x).harts = s.harts := rfl
@[simp] theorem State.setReplica_out (s : State) (r : Nat) (x : Replica) : (s.setReplica r x).out = s.out := rfl
@[simp] theorem State.setReplica_freshCount (s : State) (r : Nat) (x : Replica) : (s.setReplica r x).freshCount = s.freshCount := rfl
@[simp] theorem State.setReplica_pending (s : State) (r : Nat) (x : Replica) : (s.setReplica r x).pending = s.pending := rfl

/-! `State.setRail` changes `pow` alone. -/

@[simp] theorem State.setRail_stb (s : State) (r : Nat) (x : Rail) : (s.setRail r x).stb = s.stb := rfl
@[simp] theorem State.setRail_up (s : State) (r : Nat) (x : Rail) : (s.setRail r x).up = s.up := rfl
@[simp] theorem State.setRail_locked (s : State) (r : Nat) (x : Rail) : (s.setRail r x).locked = s.locked := rfl
@[simp] theorem State.setRail_regs (s : State) (r : Nat) (x : Rail) : (s.setRail r x).regs = s.regs := rfl
@[simp] theorem State.setRail_hits (s : State) (r : Nat) (x : Rail) : (s.setRail r x).hits = s.hits := rfl
@[simp] theorem State.setRail_pins (s : State) (r : Nat) (x : Rail) : (s.setRail r x).pins = s.pins := rfl
@[simp] theorem State.setRail_keeper (s : State) (r : Nat) (x : Rail) : (s.setRail r x).keeper = s.keeper := rfl
@[simp] theorem State.setRail_units (s : State) (r : Nat) (x : Rail) : (s.setRail r x).units = s.units := rfl
@[simp] theorem State.setRail_faults (s : State) (r : Nat) (x : Rail) : (s.setRail r x).faults = s.faults := rfl
@[simp] theorem State.setRail_maint (s : State) (r : Nat) (x : Rail) : (s.setRail r x).maint = s.maint := rfl
@[simp] theorem State.setRail_alm (s : State) (r : Nat) (x : Rail) : (s.setRail r x).alm = s.alm := rfl
@[simp] theorem State.setRail_svc (s : State) (r : Nat) (x : Rail) : (s.setRail r x).svc = s.svc := rfl
@[simp] theorem State.setRail_jnl (s : State) (r : Nat) (x : Rail) : (s.setRail r x).jnl = s.jnl := rfl
@[simp] theorem State.setRail_pcie (s : State) (r : Nat) (x : Rail) : (s.setRail r x).pcie = s.pcie := rfl
@[simp] theorem State.setRail_mem (s : State) (r : Nat) (x : Rail) : (s.setRail r x).mem = s.mem := rfl
@[simp] theorem State.setRail_fab (s : State) (r : Nat) (x : Rail) : (s.setRail r x).fab = s.fab := rfl
@[simp] theorem State.setRail_clock (s : State) (r : Nat) (x : Rail) : (s.setRail r x).clock = s.clock := rfl
@[simp] theorem State.setRail_crs (s : State) (r : Nat) (x : Rail) : (s.setRail r x).crs = s.crs := rfl
@[simp] theorem State.setRail_cst (s : State) (r : Nat) (x : Rail) : (s.setRail r x).cst = s.cst := rfl
@[simp] theorem State.setRail_nf (s : State) (r : Nat) (x : Rail) : (s.setRail r x).nf = s.nf := rfl
@[simp] theorem State.setRail_dbg (s : State) (r : Nat) (x : Rail) : (s.setRail r x).dbg = s.dbg := rfl
@[simp] theorem State.setRail_fw (s : State) (r : Nat) (x : Rail) : (s.setRail r x).fw = s.fw := rfl
@[simp] theorem State.setRail_ctr (s : State) (r : Nat) (x : Rail) : (s.setRail r x).ctr = s.ctr := rfl
@[simp] theorem State.setRail_board (s : State) (r : Nat) (x : Rail) : (s.setRail r x).board = s.board := rfl
@[simp] theorem State.setRail_imsic (s : State) (r : Nat) (x : Rail) : (s.setRail r x).imsic = s.imsic := rfl
@[simp] theorem State.setRail_csrs (s : State) (r : Nat) (x : Rail) : (s.setRail r x).csrs = s.csrs := rfl
@[simp] theorem State.setRail_xregs (s : State) (r : Nat) (x : Rail) : (s.setRail r x).xregs = s.xregs := rfl
@[simp] theorem State.setRail_fregs (s : State) (r : Nat) (x : Rail) : (s.setRail r x).fregs = s.fregs := rfl
@[simp] theorem State.setRail_vregs (s : State) (r : Nat) (x : Rail) : (s.setRail r x).vregs = s.vregs := rfl
@[simp] theorem State.setRail_harts (s : State) (r : Nat) (x : Rail) : (s.setRail r x).harts = s.harts := rfl
@[simp] theorem State.setRail_out (s : State) (r : Nat) (x : Rail) : (s.setRail r x).out = s.out := rfl
@[simp] theorem State.setRail_freshCount (s : State) (r : Nat) (x : Rail) : (s.setRail r x).freshCount = s.freshCount := rfl
@[simp] theorem State.setRail_pending (s : State) (r : Nat) (x : Rail) : (s.setRail r x).pending = s.pending := rfl

/-! `State.putImage` changes `nf` alone. -/

@[simp] theorem State.putImage_stb (s : State) (im : Image) : (s.putImage im).stb = s.stb := rfl
@[simp] theorem State.putImage_up (s : State) (im : Image) : (s.putImage im).up = s.up := rfl
@[simp] theorem State.putImage_locked (s : State) (im : Image) : (s.putImage im).locked = s.locked := rfl
@[simp] theorem State.putImage_regs (s : State) (im : Image) : (s.putImage im).regs = s.regs := rfl
@[simp] theorem State.putImage_hits (s : State) (im : Image) : (s.putImage im).hits = s.hits := rfl
@[simp] theorem State.putImage_pins (s : State) (im : Image) : (s.putImage im).pins = s.pins := rfl
@[simp] theorem State.putImage_keeper (s : State) (im : Image) : (s.putImage im).keeper = s.keeper := rfl
@[simp] theorem State.putImage_units (s : State) (im : Image) : (s.putImage im).units = s.units := rfl
@[simp] theorem State.putImage_faults (s : State) (im : Image) : (s.putImage im).faults = s.faults := rfl
@[simp] theorem State.putImage_maint (s : State) (im : Image) : (s.putImage im).maint = s.maint := rfl
@[simp] theorem State.putImage_alm (s : State) (im : Image) : (s.putImage im).alm = s.alm := rfl
@[simp] theorem State.putImage_svc (s : State) (im : Image) : (s.putImage im).svc = s.svc := rfl
@[simp] theorem State.putImage_jnl (s : State) (im : Image) : (s.putImage im).jnl = s.jnl := rfl
@[simp] theorem State.putImage_pcie (s : State) (im : Image) : (s.putImage im).pcie = s.pcie := rfl
@[simp] theorem State.putImage_mem (s : State) (im : Image) : (s.putImage im).mem = s.mem := rfl
@[simp] theorem State.putImage_fab (s : State) (im : Image) : (s.putImage im).fab = s.fab := rfl
@[simp] theorem State.putImage_clock (s : State) (im : Image) : (s.putImage im).clock = s.clock := rfl
@[simp] theorem State.putImage_crs (s : State) (im : Image) : (s.putImage im).crs = s.crs := rfl
@[simp] theorem State.putImage_cst (s : State) (im : Image) : (s.putImage im).cst = s.cst := rfl
@[simp] theorem State.putImage_pow (s : State) (im : Image) : (s.putImage im).pow = s.pow := rfl
@[simp] theorem State.putImage_dbg (s : State) (im : Image) : (s.putImage im).dbg = s.dbg := rfl
@[simp] theorem State.putImage_fw (s : State) (im : Image) : (s.putImage im).fw = s.fw := rfl
@[simp] theorem State.putImage_ctr (s : State) (im : Image) : (s.putImage im).ctr = s.ctr := rfl
@[simp] theorem State.putImage_board (s : State) (im : Image) : (s.putImage im).board = s.board := rfl
@[simp] theorem State.putImage_imsic (s : State) (im : Image) : (s.putImage im).imsic = s.imsic := rfl
@[simp] theorem State.putImage_csrs (s : State) (im : Image) : (s.putImage im).csrs = s.csrs := rfl
@[simp] theorem State.putImage_xregs (s : State) (im : Image) : (s.putImage im).xregs = s.xregs := rfl
@[simp] theorem State.putImage_fregs (s : State) (im : Image) : (s.putImage im).fregs = s.fregs := rfl
@[simp] theorem State.putImage_vregs (s : State) (im : Image) : (s.putImage im).vregs = s.vregs := rfl
@[simp] theorem State.putImage_harts (s : State) (im : Image) : (s.putImage im).harts = s.harts := rfl
@[simp] theorem State.putImage_out (s : State) (im : Image) : (s.putImage im).out = s.out := rfl
@[simp] theorem State.putImage_freshCount (s : State) (im : Image) : (s.putImage im).freshCount = s.freshCount := rfl
@[simp] theorem State.putImage_pending (s : State) (im : Image) : (s.putImage im).pending = s.pending := rfl

/-! `State.setWalk` changes `fab` alone. -/

@[simp] theorem State.setWalk_stb (s : State) (w : Walk) (o : Option Walk) : (s.setWalk w o).stb = s.stb := rfl
@[simp] theorem State.setWalk_up (s : State) (w : Walk) (o : Option Walk) : (s.setWalk w o).up = s.up := rfl
@[simp] theorem State.setWalk_locked (s : State) (w : Walk) (o : Option Walk) : (s.setWalk w o).locked = s.locked := rfl
@[simp] theorem State.setWalk_regs (s : State) (w : Walk) (o : Option Walk) : (s.setWalk w o).regs = s.regs := rfl
@[simp] theorem State.setWalk_hits (s : State) (w : Walk) (o : Option Walk) : (s.setWalk w o).hits = s.hits := rfl
@[simp] theorem State.setWalk_pins (s : State) (w : Walk) (o : Option Walk) : (s.setWalk w o).pins = s.pins := rfl
@[simp] theorem State.setWalk_keeper (s : State) (w : Walk) (o : Option Walk) : (s.setWalk w o).keeper = s.keeper := rfl
@[simp] theorem State.setWalk_units (s : State) (w : Walk) (o : Option Walk) : (s.setWalk w o).units = s.units := rfl
@[simp] theorem State.setWalk_faults (s : State) (w : Walk) (o : Option Walk) : (s.setWalk w o).faults = s.faults := rfl
@[simp] theorem State.setWalk_maint (s : State) (w : Walk) (o : Option Walk) : (s.setWalk w o).maint = s.maint := rfl
@[simp] theorem State.setWalk_alm (s : State) (w : Walk) (o : Option Walk) : (s.setWalk w o).alm = s.alm := rfl
@[simp] theorem State.setWalk_svc (s : State) (w : Walk) (o : Option Walk) : (s.setWalk w o).svc = s.svc := rfl
@[simp] theorem State.setWalk_jnl (s : State) (w : Walk) (o : Option Walk) : (s.setWalk w o).jnl = s.jnl := rfl
@[simp] theorem State.setWalk_pcie (s : State) (w : Walk) (o : Option Walk) : (s.setWalk w o).pcie = s.pcie := rfl
@[simp] theorem State.setWalk_mem (s : State) (w : Walk) (o : Option Walk) : (s.setWalk w o).mem = s.mem := rfl
@[simp] theorem State.setWalk_clock (s : State) (w : Walk) (o : Option Walk) : (s.setWalk w o).clock = s.clock := rfl
@[simp] theorem State.setWalk_crs (s : State) (w : Walk) (o : Option Walk) : (s.setWalk w o).crs = s.crs := rfl
@[simp] theorem State.setWalk_cst (s : State) (w : Walk) (o : Option Walk) : (s.setWalk w o).cst = s.cst := rfl
@[simp] theorem State.setWalk_pow (s : State) (w : Walk) (o : Option Walk) : (s.setWalk w o).pow = s.pow := rfl
@[simp] theorem State.setWalk_nf (s : State) (w : Walk) (o : Option Walk) : (s.setWalk w o).nf = s.nf := rfl
@[simp] theorem State.setWalk_dbg (s : State) (w : Walk) (o : Option Walk) : (s.setWalk w o).dbg = s.dbg := rfl
@[simp] theorem State.setWalk_fw (s : State) (w : Walk) (o : Option Walk) : (s.setWalk w o).fw = s.fw := rfl
@[simp] theorem State.setWalk_ctr (s : State) (w : Walk) (o : Option Walk) : (s.setWalk w o).ctr = s.ctr := rfl
@[simp] theorem State.setWalk_board (s : State) (w : Walk) (o : Option Walk) : (s.setWalk w o).board = s.board := rfl
@[simp] theorem State.setWalk_imsic (s : State) (w : Walk) (o : Option Walk) : (s.setWalk w o).imsic = s.imsic := rfl
@[simp] theorem State.setWalk_csrs (s : State) (w : Walk) (o : Option Walk) : (s.setWalk w o).csrs = s.csrs := rfl
@[simp] theorem State.setWalk_xregs (s : State) (w : Walk) (o : Option Walk) : (s.setWalk w o).xregs = s.xregs := rfl
@[simp] theorem State.setWalk_fregs (s : State) (w : Walk) (o : Option Walk) : (s.setWalk w o).fregs = s.fregs := rfl
@[simp] theorem State.setWalk_vregs (s : State) (w : Walk) (o : Option Walk) : (s.setWalk w o).vregs = s.vregs := rfl
@[simp] theorem State.setWalk_harts (s : State) (w : Walk) (o : Option Walk) : (s.setWalk w o).harts = s.harts := rfl
@[simp] theorem State.setWalk_out (s : State) (w : Walk) (o : Option Walk) : (s.setWalk w o).out = s.out := rfl
@[simp] theorem State.setWalk_freshCount (s : State) (w : Walk) (o : Option Walk) : (s.setWalk w o).freshCount = s.freshCount := rfl
@[simp] theorem State.setWalk_pending (s : State) (w : Walk) (o : Option Walk) : (s.setWalk w o).pending = s.pending := rfl

/-! `State.setTurn` changes `fab` alone. -/

@[simp] theorem State.setTurn_stb (s : State) (k n : Nat) : (s.setTurn k n).stb = s.stb := rfl
@[simp] theorem State.setTurn_up (s : State) (k n : Nat) : (s.setTurn k n).up = s.up := rfl
@[simp] theorem State.setTurn_locked (s : State) (k n : Nat) : (s.setTurn k n).locked = s.locked := rfl
@[simp] theorem State.setTurn_regs (s : State) (k n : Nat) : (s.setTurn k n).regs = s.regs := rfl
@[simp] theorem State.setTurn_hits (s : State) (k n : Nat) : (s.setTurn k n).hits = s.hits := rfl
@[simp] theorem State.setTurn_pins (s : State) (k n : Nat) : (s.setTurn k n).pins = s.pins := rfl
@[simp] theorem State.setTurn_keeper (s : State) (k n : Nat) : (s.setTurn k n).keeper = s.keeper := rfl
@[simp] theorem State.setTurn_units (s : State) (k n : Nat) : (s.setTurn k n).units = s.units := rfl
@[simp] theorem State.setTurn_faults (s : State) (k n : Nat) : (s.setTurn k n).faults = s.faults := rfl
@[simp] theorem State.setTurn_maint (s : State) (k n : Nat) : (s.setTurn k n).maint = s.maint := rfl
@[simp] theorem State.setTurn_alm (s : State) (k n : Nat) : (s.setTurn k n).alm = s.alm := rfl
@[simp] theorem State.setTurn_svc (s : State) (k n : Nat) : (s.setTurn k n).svc = s.svc := rfl
@[simp] theorem State.setTurn_jnl (s : State) (k n : Nat) : (s.setTurn k n).jnl = s.jnl := rfl
@[simp] theorem State.setTurn_pcie (s : State) (k n : Nat) : (s.setTurn k n).pcie = s.pcie := rfl
@[simp] theorem State.setTurn_mem (s : State) (k n : Nat) : (s.setTurn k n).mem = s.mem := rfl
@[simp] theorem State.setTurn_clock (s : State) (k n : Nat) : (s.setTurn k n).clock = s.clock := rfl
@[simp] theorem State.setTurn_crs (s : State) (k n : Nat) : (s.setTurn k n).crs = s.crs := rfl
@[simp] theorem State.setTurn_cst (s : State) (k n : Nat) : (s.setTurn k n).cst = s.cst := rfl
@[simp] theorem State.setTurn_pow (s : State) (k n : Nat) : (s.setTurn k n).pow = s.pow := rfl
@[simp] theorem State.setTurn_nf (s : State) (k n : Nat) : (s.setTurn k n).nf = s.nf := rfl
@[simp] theorem State.setTurn_dbg (s : State) (k n : Nat) : (s.setTurn k n).dbg = s.dbg := rfl
@[simp] theorem State.setTurn_fw (s : State) (k n : Nat) : (s.setTurn k n).fw = s.fw := rfl
@[simp] theorem State.setTurn_ctr (s : State) (k n : Nat) : (s.setTurn k n).ctr = s.ctr := rfl
@[simp] theorem State.setTurn_board (s : State) (k n : Nat) : (s.setTurn k n).board = s.board := rfl
@[simp] theorem State.setTurn_imsic (s : State) (k n : Nat) : (s.setTurn k n).imsic = s.imsic := rfl
@[simp] theorem State.setTurn_csrs (s : State) (k n : Nat) : (s.setTurn k n).csrs = s.csrs := rfl
@[simp] theorem State.setTurn_xregs (s : State) (k n : Nat) : (s.setTurn k n).xregs = s.xregs := rfl
@[simp] theorem State.setTurn_fregs (s : State) (k n : Nat) : (s.setTurn k n).fregs = s.fregs := rfl
@[simp] theorem State.setTurn_vregs (s : State) (k n : Nat) : (s.setTurn k n).vregs = s.vregs := rfl
@[simp] theorem State.setTurn_harts (s : State) (k n : Nat) : (s.setTurn k n).harts = s.harts := rfl
@[simp] theorem State.setTurn_out (s : State) (k n : Nat) : (s.setTurn k n).out = s.out := rfl
@[simp] theorem State.setTurn_freshCount (s : State) (k n : Nat) : (s.setTurn k n).freshCount = s.freshCount := rfl
@[simp] theorem State.setTurn_pending (s : State) (k n : Nat) : (s.setTurn k n).pending = s.pending := rfl

/-! `State.addPtr` changes `fab` alone. -/

@[simp] theorem State.addPtr_stb (s : State) (p : Ptr) : (s.addPtr p).stb = s.stb := by
  unfold State.addPtr; split <;> rfl
@[simp] theorem State.addPtr_up (s : State) (p : Ptr) : (s.addPtr p).up = s.up := by
  unfold State.addPtr; split <;> rfl
@[simp] theorem State.addPtr_locked (s : State) (p : Ptr) : (s.addPtr p).locked = s.locked := by
  unfold State.addPtr; split <;> rfl
@[simp] theorem State.addPtr_regs (s : State) (p : Ptr) : (s.addPtr p).regs = s.regs := by
  unfold State.addPtr; split <;> rfl
@[simp] theorem State.addPtr_hits (s : State) (p : Ptr) : (s.addPtr p).hits = s.hits := by
  unfold State.addPtr; split <;> rfl
@[simp] theorem State.addPtr_pins (s : State) (p : Ptr) : (s.addPtr p).pins = s.pins := by
  unfold State.addPtr; split <;> rfl
@[simp] theorem State.addPtr_keeper (s : State) (p : Ptr) : (s.addPtr p).keeper = s.keeper := by
  unfold State.addPtr; split <;> rfl
@[simp] theorem State.addPtr_units (s : State) (p : Ptr) : (s.addPtr p).units = s.units := by
  unfold State.addPtr; split <;> rfl
@[simp] theorem State.addPtr_faults (s : State) (p : Ptr) : (s.addPtr p).faults = s.faults := by
  unfold State.addPtr; split <;> rfl
@[simp] theorem State.addPtr_maint (s : State) (p : Ptr) : (s.addPtr p).maint = s.maint := by
  unfold State.addPtr; split <;> rfl
@[simp] theorem State.addPtr_alm (s : State) (p : Ptr) : (s.addPtr p).alm = s.alm := by
  unfold State.addPtr; split <;> rfl
@[simp] theorem State.addPtr_svc (s : State) (p : Ptr) : (s.addPtr p).svc = s.svc := by
  unfold State.addPtr; split <;> rfl
@[simp] theorem State.addPtr_jnl (s : State) (p : Ptr) : (s.addPtr p).jnl = s.jnl := by
  unfold State.addPtr; split <;> rfl
@[simp] theorem State.addPtr_pcie (s : State) (p : Ptr) : (s.addPtr p).pcie = s.pcie := by
  unfold State.addPtr; split <;> rfl
@[simp] theorem State.addPtr_mem (s : State) (p : Ptr) : (s.addPtr p).mem = s.mem := by
  unfold State.addPtr; split <;> rfl
@[simp] theorem State.addPtr_clock (s : State) (p : Ptr) : (s.addPtr p).clock = s.clock := by
  unfold State.addPtr; split <;> rfl
@[simp] theorem State.addPtr_crs (s : State) (p : Ptr) : (s.addPtr p).crs = s.crs := by
  unfold State.addPtr; split <;> rfl
@[simp] theorem State.addPtr_cst (s : State) (p : Ptr) : (s.addPtr p).cst = s.cst := by
  unfold State.addPtr; split <;> rfl
@[simp] theorem State.addPtr_pow (s : State) (p : Ptr) : (s.addPtr p).pow = s.pow := by
  unfold State.addPtr; split <;> rfl
@[simp] theorem State.addPtr_nf (s : State) (p : Ptr) : (s.addPtr p).nf = s.nf := by
  unfold State.addPtr; split <;> rfl
@[simp] theorem State.addPtr_dbg (s : State) (p : Ptr) : (s.addPtr p).dbg = s.dbg := by
  unfold State.addPtr; split <;> rfl
@[simp] theorem State.addPtr_fw (s : State) (p : Ptr) : (s.addPtr p).fw = s.fw := by
  unfold State.addPtr; split <;> rfl
@[simp] theorem State.addPtr_ctr (s : State) (p : Ptr) : (s.addPtr p).ctr = s.ctr := by
  unfold State.addPtr; split <;> rfl
@[simp] theorem State.addPtr_board (s : State) (p : Ptr) : (s.addPtr p).board = s.board := by
  unfold State.addPtr; split <;> rfl
@[simp] theorem State.addPtr_imsic (s : State) (p : Ptr) : (s.addPtr p).imsic = s.imsic := by
  unfold State.addPtr; split <;> rfl
@[simp] theorem State.addPtr_csrs (s : State) (p : Ptr) : (s.addPtr p).csrs = s.csrs := by
  unfold State.addPtr; split <;> rfl
@[simp] theorem State.addPtr_xregs (s : State) (p : Ptr) : (s.addPtr p).xregs = s.xregs := by
  unfold State.addPtr; split <;> rfl
@[simp] theorem State.addPtr_fregs (s : State) (p : Ptr) : (s.addPtr p).fregs = s.fregs := by
  unfold State.addPtr; split <;> rfl
@[simp] theorem State.addPtr_vregs (s : State) (p : Ptr) : (s.addPtr p).vregs = s.vregs := by
  unfold State.addPtr; split <;> rfl
@[simp] theorem State.addPtr_harts (s : State) (p : Ptr) : (s.addPtr p).harts = s.harts := by
  unfold State.addPtr; split <;> rfl
@[simp] theorem State.addPtr_out (s : State) (p : Ptr) : (s.addPtr p).out = s.out := by
  unfold State.addPtr; split <;> rfl
@[simp] theorem State.addPtr_freshCount (s : State) (p : Ptr) : (s.addPtr p).freshCount = s.freshCount := by
  unfold State.addPtr; split <;> rfl
@[simp] theorem State.addPtr_pending (s : State) (p : Ptr) : (s.addPtr p).pending = s.pending := by
  unfold State.addPtr; split <;> rfl

/-! `State.addTlb` changes `fab` alone. -/

@[simp] theorem State.addTlb_stb (s : State) (e : TlbEntry) (k : TlbCache) : (s.addTlb e k).stb = s.stb := rfl
@[simp] theorem State.addTlb_up (s : State) (e : TlbEntry) (k : TlbCache) : (s.addTlb e k).up = s.up := rfl
@[simp] theorem State.addTlb_locked (s : State) (e : TlbEntry) (k : TlbCache) : (s.addTlb e k).locked = s.locked := rfl
@[simp] theorem State.addTlb_regs (s : State) (e : TlbEntry) (k : TlbCache) : (s.addTlb e k).regs = s.regs := rfl
@[simp] theorem State.addTlb_hits (s : State) (e : TlbEntry) (k : TlbCache) : (s.addTlb e k).hits = s.hits := rfl
@[simp] theorem State.addTlb_pins (s : State) (e : TlbEntry) (k : TlbCache) : (s.addTlb e k).pins = s.pins := rfl
@[simp] theorem State.addTlb_keeper (s : State) (e : TlbEntry) (k : TlbCache) : (s.addTlb e k).keeper = s.keeper := rfl
@[simp] theorem State.addTlb_units (s : State) (e : TlbEntry) (k : TlbCache) : (s.addTlb e k).units = s.units := rfl
@[simp] theorem State.addTlb_faults (s : State) (e : TlbEntry) (k : TlbCache) : (s.addTlb e k).faults = s.faults := rfl
@[simp] theorem State.addTlb_maint (s : State) (e : TlbEntry) (k : TlbCache) : (s.addTlb e k).maint = s.maint := rfl
@[simp] theorem State.addTlb_alm (s : State) (e : TlbEntry) (k : TlbCache) : (s.addTlb e k).alm = s.alm := rfl
@[simp] theorem State.addTlb_svc (s : State) (e : TlbEntry) (k : TlbCache) : (s.addTlb e k).svc = s.svc := rfl
@[simp] theorem State.addTlb_jnl (s : State) (e : TlbEntry) (k : TlbCache) : (s.addTlb e k).jnl = s.jnl := rfl
@[simp] theorem State.addTlb_pcie (s : State) (e : TlbEntry) (k : TlbCache) : (s.addTlb e k).pcie = s.pcie := rfl
@[simp] theorem State.addTlb_mem (s : State) (e : TlbEntry) (k : TlbCache) : (s.addTlb e k).mem = s.mem := rfl
@[simp] theorem State.addTlb_clock (s : State) (e : TlbEntry) (k : TlbCache) : (s.addTlb e k).clock = s.clock := rfl
@[simp] theorem State.addTlb_crs (s : State) (e : TlbEntry) (k : TlbCache) : (s.addTlb e k).crs = s.crs := rfl
@[simp] theorem State.addTlb_cst (s : State) (e : TlbEntry) (k : TlbCache) : (s.addTlb e k).cst = s.cst := rfl
@[simp] theorem State.addTlb_pow (s : State) (e : TlbEntry) (k : TlbCache) : (s.addTlb e k).pow = s.pow := rfl
@[simp] theorem State.addTlb_nf (s : State) (e : TlbEntry) (k : TlbCache) : (s.addTlb e k).nf = s.nf := rfl
@[simp] theorem State.addTlb_dbg (s : State) (e : TlbEntry) (k : TlbCache) : (s.addTlb e k).dbg = s.dbg := rfl
@[simp] theorem State.addTlb_fw (s : State) (e : TlbEntry) (k : TlbCache) : (s.addTlb e k).fw = s.fw := rfl
@[simp] theorem State.addTlb_ctr (s : State) (e : TlbEntry) (k : TlbCache) : (s.addTlb e k).ctr = s.ctr := rfl
@[simp] theorem State.addTlb_board (s : State) (e : TlbEntry) (k : TlbCache) : (s.addTlb e k).board = s.board := rfl
@[simp] theorem State.addTlb_imsic (s : State) (e : TlbEntry) (k : TlbCache) : (s.addTlb e k).imsic = s.imsic := rfl
@[simp] theorem State.addTlb_csrs (s : State) (e : TlbEntry) (k : TlbCache) : (s.addTlb e k).csrs = s.csrs := rfl
@[simp] theorem State.addTlb_xregs (s : State) (e : TlbEntry) (k : TlbCache) : (s.addTlb e k).xregs = s.xregs := rfl
@[simp] theorem State.addTlb_fregs (s : State) (e : TlbEntry) (k : TlbCache) : (s.addTlb e k).fregs = s.fregs := rfl
@[simp] theorem State.addTlb_vregs (s : State) (e : TlbEntry) (k : TlbCache) : (s.addTlb e k).vregs = s.vregs := rfl
@[simp] theorem State.addTlb_harts (s : State) (e : TlbEntry) (k : TlbCache) : (s.addTlb e k).harts = s.harts := rfl
@[simp] theorem State.addTlb_out (s : State) (e : TlbEntry) (k : TlbCache) : (s.addTlb e k).out = s.out := rfl
@[simp] theorem State.addTlb_freshCount (s : State) (e : TlbEntry) (k : TlbCache) : (s.addTlb e k).freshCount = s.freshCount := rfl
@[simp] theorem State.addTlb_pending (s : State) (e : TlbEntry) (k : TlbCache) : (s.addTlb e k).pending = s.pending := rfl

/-! `State.fenceTlb` changes `fab` alone. -/

@[simp] theorem State.fenceTlb_stb (s : State) (h : Nat) (k : FenceKind) (va asid : Option Nat) : (s.fenceTlb h k va asid).stb = s.stb := rfl
@[simp] theorem State.fenceTlb_up (s : State) (h : Nat) (k : FenceKind) (va asid : Option Nat) : (s.fenceTlb h k va asid).up = s.up := rfl
@[simp] theorem State.fenceTlb_locked (s : State) (h : Nat) (k : FenceKind) (va asid : Option Nat) : (s.fenceTlb h k va asid).locked = s.locked := rfl
@[simp] theorem State.fenceTlb_regs (s : State) (h : Nat) (k : FenceKind) (va asid : Option Nat) : (s.fenceTlb h k va asid).regs = s.regs := rfl
@[simp] theorem State.fenceTlb_hits (s : State) (h : Nat) (k : FenceKind) (va asid : Option Nat) : (s.fenceTlb h k va asid).hits = s.hits := rfl
@[simp] theorem State.fenceTlb_pins (s : State) (h : Nat) (k : FenceKind) (va asid : Option Nat) : (s.fenceTlb h k va asid).pins = s.pins := rfl
@[simp] theorem State.fenceTlb_keeper (s : State) (h : Nat) (k : FenceKind) (va asid : Option Nat) : (s.fenceTlb h k va asid).keeper = s.keeper := rfl
@[simp] theorem State.fenceTlb_units (s : State) (h : Nat) (k : FenceKind) (va asid : Option Nat) : (s.fenceTlb h k va asid).units = s.units := rfl
@[simp] theorem State.fenceTlb_faults (s : State) (h : Nat) (k : FenceKind) (va asid : Option Nat) : (s.fenceTlb h k va asid).faults = s.faults := rfl
@[simp] theorem State.fenceTlb_maint (s : State) (h : Nat) (k : FenceKind) (va asid : Option Nat) : (s.fenceTlb h k va asid).maint = s.maint := rfl
@[simp] theorem State.fenceTlb_alm (s : State) (h : Nat) (k : FenceKind) (va asid : Option Nat) : (s.fenceTlb h k va asid).alm = s.alm := rfl
@[simp] theorem State.fenceTlb_svc (s : State) (h : Nat) (k : FenceKind) (va asid : Option Nat) : (s.fenceTlb h k va asid).svc = s.svc := rfl
@[simp] theorem State.fenceTlb_jnl (s : State) (h : Nat) (k : FenceKind) (va asid : Option Nat) : (s.fenceTlb h k va asid).jnl = s.jnl := rfl
@[simp] theorem State.fenceTlb_pcie (s : State) (h : Nat) (k : FenceKind) (va asid : Option Nat) : (s.fenceTlb h k va asid).pcie = s.pcie := rfl
@[simp] theorem State.fenceTlb_mem (s : State) (h : Nat) (k : FenceKind) (va asid : Option Nat) : (s.fenceTlb h k va asid).mem = s.mem := rfl
@[simp] theorem State.fenceTlb_clock (s : State) (h : Nat) (k : FenceKind) (va asid : Option Nat) : (s.fenceTlb h k va asid).clock = s.clock := rfl
@[simp] theorem State.fenceTlb_crs (s : State) (h : Nat) (k : FenceKind) (va asid : Option Nat) : (s.fenceTlb h k va asid).crs = s.crs := rfl
@[simp] theorem State.fenceTlb_cst (s : State) (h : Nat) (k : FenceKind) (va asid : Option Nat) : (s.fenceTlb h k va asid).cst = s.cst := rfl
@[simp] theorem State.fenceTlb_pow (s : State) (h : Nat) (k : FenceKind) (va asid : Option Nat) : (s.fenceTlb h k va asid).pow = s.pow := rfl
@[simp] theorem State.fenceTlb_nf (s : State) (h : Nat) (k : FenceKind) (va asid : Option Nat) : (s.fenceTlb h k va asid).nf = s.nf := rfl
@[simp] theorem State.fenceTlb_dbg (s : State) (h : Nat) (k : FenceKind) (va asid : Option Nat) : (s.fenceTlb h k va asid).dbg = s.dbg := rfl
@[simp] theorem State.fenceTlb_fw (s : State) (h : Nat) (k : FenceKind) (va asid : Option Nat) : (s.fenceTlb h k va asid).fw = s.fw := rfl
@[simp] theorem State.fenceTlb_ctr (s : State) (h : Nat) (k : FenceKind) (va asid : Option Nat) : (s.fenceTlb h k va asid).ctr = s.ctr := rfl
@[simp] theorem State.fenceTlb_board (s : State) (h : Nat) (k : FenceKind) (va asid : Option Nat) : (s.fenceTlb h k va asid).board = s.board := rfl
@[simp] theorem State.fenceTlb_imsic (s : State) (h : Nat) (k : FenceKind) (va asid : Option Nat) : (s.fenceTlb h k va asid).imsic = s.imsic := rfl
@[simp] theorem State.fenceTlb_csrs (s : State) (h : Nat) (k : FenceKind) (va asid : Option Nat) : (s.fenceTlb h k va asid).csrs = s.csrs := rfl
@[simp] theorem State.fenceTlb_xregs (s : State) (h : Nat) (k : FenceKind) (va asid : Option Nat) : (s.fenceTlb h k va asid).xregs = s.xregs := rfl
@[simp] theorem State.fenceTlb_fregs (s : State) (h : Nat) (k : FenceKind) (va asid : Option Nat) : (s.fenceTlb h k va asid).fregs = s.fregs := rfl
@[simp] theorem State.fenceTlb_vregs (s : State) (h : Nat) (k : FenceKind) (va asid : Option Nat) : (s.fenceTlb h k va asid).vregs = s.vregs := rfl
@[simp] theorem State.fenceTlb_harts (s : State) (h : Nat) (k : FenceKind) (va asid : Option Nat) : (s.fenceTlb h k va asid).harts = s.harts := rfl
@[simp] theorem State.fenceTlb_out (s : State) (h : Nat) (k : FenceKind) (va asid : Option Nat) : (s.fenceTlb h k va asid).out = s.out := rfl
@[simp] theorem State.fenceTlb_freshCount (s : State) (h : Nat) (k : FenceKind) (va asid : Option Nat) : (s.fenceTlb h k va asid).freshCount = s.freshCount := rfl
@[simp] theorem State.fenceTlb_pending (s : State) (h : Nat) (k : FenceKind) (va asid : Option Nat) : (s.fenceTlb h k va asid).pending = s.pending := rfl

/-! `State.exchange` changes `units` alone. -/

@[simp] theorem State.exchange_stb (s : State) (a b : Nat) : (s.exchange a b).stb = s.stb := rfl
@[simp] theorem State.exchange_up (s : State) (a b : Nat) : (s.exchange a b).up = s.up := rfl
@[simp] theorem State.exchange_locked (s : State) (a b : Nat) : (s.exchange a b).locked = s.locked := rfl
@[simp] theorem State.exchange_regs (s : State) (a b : Nat) : (s.exchange a b).regs = s.regs := rfl
@[simp] theorem State.exchange_hits (s : State) (a b : Nat) : (s.exchange a b).hits = s.hits := rfl
@[simp] theorem State.exchange_pins (s : State) (a b : Nat) : (s.exchange a b).pins = s.pins := rfl
@[simp] theorem State.exchange_keeper (s : State) (a b : Nat) : (s.exchange a b).keeper = s.keeper := rfl
@[simp] theorem State.exchange_faults (s : State) (a b : Nat) : (s.exchange a b).faults = s.faults := rfl
@[simp] theorem State.exchange_maint (s : State) (a b : Nat) : (s.exchange a b).maint = s.maint := rfl
@[simp] theorem State.exchange_alm (s : State) (a b : Nat) : (s.exchange a b).alm = s.alm := rfl
@[simp] theorem State.exchange_svc (s : State) (a b : Nat) : (s.exchange a b).svc = s.svc := rfl
@[simp] theorem State.exchange_jnl (s : State) (a b : Nat) : (s.exchange a b).jnl = s.jnl := rfl
@[simp] theorem State.exchange_pcie (s : State) (a b : Nat) : (s.exchange a b).pcie = s.pcie := rfl
@[simp] theorem State.exchange_mem (s : State) (a b : Nat) : (s.exchange a b).mem = s.mem := rfl
@[simp] theorem State.exchange_fab (s : State) (a b : Nat) : (s.exchange a b).fab = s.fab := rfl
@[simp] theorem State.exchange_clock (s : State) (a b : Nat) : (s.exchange a b).clock = s.clock := rfl
@[simp] theorem State.exchange_crs (s : State) (a b : Nat) : (s.exchange a b).crs = s.crs := rfl
@[simp] theorem State.exchange_cst (s : State) (a b : Nat) : (s.exchange a b).cst = s.cst := rfl
@[simp] theorem State.exchange_pow (s : State) (a b : Nat) : (s.exchange a b).pow = s.pow := rfl
@[simp] theorem State.exchange_nf (s : State) (a b : Nat) : (s.exchange a b).nf = s.nf := rfl
@[simp] theorem State.exchange_dbg (s : State) (a b : Nat) : (s.exchange a b).dbg = s.dbg := rfl
@[simp] theorem State.exchange_fw (s : State) (a b : Nat) : (s.exchange a b).fw = s.fw := rfl
@[simp] theorem State.exchange_ctr (s : State) (a b : Nat) : (s.exchange a b).ctr = s.ctr := rfl
@[simp] theorem State.exchange_board (s : State) (a b : Nat) : (s.exchange a b).board = s.board := rfl
@[simp] theorem State.exchange_imsic (s : State) (a b : Nat) : (s.exchange a b).imsic = s.imsic := rfl
@[simp] theorem State.exchange_csrs (s : State) (a b : Nat) : (s.exchange a b).csrs = s.csrs := rfl
@[simp] theorem State.exchange_xregs (s : State) (a b : Nat) : (s.exchange a b).xregs = s.xregs := rfl
@[simp] theorem State.exchange_fregs (s : State) (a b : Nat) : (s.exchange a b).fregs = s.fregs := rfl
@[simp] theorem State.exchange_vregs (s : State) (a b : Nat) : (s.exchange a b).vregs = s.vregs := rfl
@[simp] theorem State.exchange_harts (s : State) (a b : Nat) : (s.exchange a b).harts = s.harts := rfl
@[simp] theorem State.exchange_out (s : State) (a b : Nat) : (s.exchange a b).out = s.out := rfl
@[simp] theorem State.exchange_freshCount (s : State) (a b : Nat) : (s.exchange a b).freshCount = s.freshCount := rfl
@[simp] theorem State.exchange_pending (s : State) (a b : Nat) : (s.exchange a b).pending = s.pending := rfl

/-! `State.bounded` changes the STB and the queue alone. -/

@[simp] theorem State.bounded_up (a s : State) : (a.bounded s).up = s.up := rfl
@[simp] theorem State.bounded_locked (a s : State) : (a.bounded s).locked = s.locked := rfl
@[simp] theorem State.bounded_regs (a s : State) : (a.bounded s).regs = s.regs := rfl
@[simp] theorem State.bounded_hits (a s : State) : (a.bounded s).hits = s.hits := rfl
@[simp] theorem State.bounded_pins (a s : State) : (a.bounded s).pins = s.pins := rfl
@[simp] theorem State.bounded_keeper (a s : State) : (a.bounded s).keeper = s.keeper := rfl
@[simp] theorem State.bounded_units (a s : State) : (a.bounded s).units = s.units := rfl
@[simp] theorem State.bounded_faults (a s : State) : (a.bounded s).faults = s.faults := rfl
@[simp] theorem State.bounded_maint (a s : State) : (a.bounded s).maint = s.maint := rfl
@[simp] theorem State.bounded_alm (a s : State) : (a.bounded s).alm = s.alm := rfl
@[simp] theorem State.bounded_svc (a s : State) : (a.bounded s).svc = s.svc := rfl
@[simp] theorem State.bounded_jnl (a s : State) : (a.bounded s).jnl = s.jnl := rfl
@[simp] theorem State.bounded_pcie (a s : State) : (a.bounded s).pcie = s.pcie := rfl
@[simp] theorem State.bounded_mem (a s : State) : (a.bounded s).mem = s.mem := rfl
@[simp] theorem State.bounded_fab (a s : State) : (a.bounded s).fab = s.fab := rfl
@[simp] theorem State.bounded_clock (a s : State) : (a.bounded s).clock = s.clock := rfl
@[simp] theorem State.bounded_crs (a s : State) : (a.bounded s).crs = s.crs := rfl
@[simp] theorem State.bounded_cst (a s : State) : (a.bounded s).cst = s.cst := rfl
@[simp] theorem State.bounded_pow (a s : State) : (a.bounded s).pow = s.pow := rfl
@[simp] theorem State.bounded_nf (a s : State) : (a.bounded s).nf = s.nf := rfl
@[simp] theorem State.bounded_dbg (a s : State) : (a.bounded s).dbg = s.dbg := rfl
@[simp] theorem State.bounded_fw (a s : State) : (a.bounded s).fw = s.fw := rfl
@[simp] theorem State.bounded_ctr (a s : State) : (a.bounded s).ctr = s.ctr := rfl
@[simp] theorem State.bounded_board (a s : State) : (a.bounded s).board = s.board := rfl
@[simp] theorem State.bounded_imsic (a s : State) : (a.bounded s).imsic = s.imsic := rfl
@[simp] theorem State.bounded_csrs (a s : State) : (a.bounded s).csrs = s.csrs := rfl
@[simp] theorem State.bounded_xregs (a s : State) : (a.bounded s).xregs = s.xregs := rfl
@[simp] theorem State.bounded_fregs (a s : State) : (a.bounded s).fregs = s.fregs := rfl
@[simp] theorem State.bounded_vregs (a s : State) : (a.bounded s).vregs = s.vregs := rfl
@[simp] theorem State.bounded_harts (a s : State) : (a.bounded s).harts = s.harts := rfl
@[simp] theorem State.bounded_out (a s : State) : (a.bounded s).out = s.out := rfl
@[simp] theorem State.bounded_freshCount (a s : State) : (a.bounded s).freshCount = s.freshCount := rfl
@[simp] theorem State.bounded_stb (a s : State) : (a.bounded s).stb = max a.stb s.stb := rfl
@[simp] theorem State.bounded_pending (a s : State) : (a.bounded s).pending = a.pending := rfl
@[simp] theorem State.advance_stb (s : State) (t : Stamp) : (s.advance t).stb = max s.stb t := rfl

/-! What reads see after time has advanced. -/

@[simp] theorem State.advance_fld (s : State) (t : Stamp) (F : Fld) (i : Nat) : (s.advance t).fld F i = s.fld F i := rfl
@[simp] theorem State.advance_is (s : State) (t : Stamp) (F : Fld) (i : Nat) : (s.advance t).is F i = s.is F i := rfl
@[simp] theorem State.advance_word (s : State) (t : Stamp) (r : Reg) (i w : Nat) : (s.advance t).word r i w = s.word r i w := rfl
@[simp] theorem State.advance_csr (s : State) (t : Stamp) (h n : Nat) : (s.advance t).csr h n = s.csr h n := rfl
@[simp] theorem State.advance_xreg (s : State) (t : Stamp) (h r : Nat) : (s.advance t).xreg h r = s.xreg h r := rfl
@[simp] theorem State.advance_hart (s : State) (t : Stamp) (h : Nat) : (s.advance t).hart h = s.hart h := rfl
@[simp] theorem State.advance_box (s : State) (t : Stamp) (m : Nat) : (s.advance t).box m = s.box m := rfl
@[simp] theorem State.advance_pfn (s : State) (t : Stamp) (i : Nat) : (s.advance t).pfn i = s.pfn i := rfl
@[simp] theorem State.advance_byteAt (s : State) (t : Stamp) (a : Nat) : (s.advance t).byteAt a = s.byteAt a := rfl
@[simp] theorem State.advance_cmpUsed (s : State) (t : Stamp) (m : Nat) : (s.advance t).cmpUsed m = s.cmpUsed m := rfl
@[simp] theorem State.advance_evtUsed (s : State) (t : Stamp) (m : Nat) : (s.advance t).evtUsed m = s.evtUsed m := rfl
@[simp] theorem State.advance_run (s : State) (t : Stamp) (c : Nat) : (s.advance t).run c = s.run c := rfl
@[simp] theorem State.advance_op (s : State) (t : Stamp) (id : Nat) : (s.advance t).op id = s.op id := rfl
@[simp] theorem State.advance_chan (s : State) (t : Stamp) (ch : Nat) : (s.advance t).chan ch = s.chan ch := rfl
@[simp] theorem State.advance_drain (s : State) (t : Stamp) (d : Nat) : (s.advance t).drain d = s.drain d := rfl
@[simp] theorem State.advance_eng (s : State) (t : Stamp) (e : Nat) : (s.advance t).eng e = s.eng e := rfl
@[simp] theorem State.advance_replica (s : State) (t : Stamp) (r : Nat) : (s.advance t).replica r = s.replica r := rfl
@[simp] theorem State.advance_activity (s : State) (t : Stamp) (id : Nat) : (s.advance t).activity id = s.activity id := rfl
@[simp] theorem State.advance_tenure (s : State) (t : Stamp) (port : Nat) : (s.advance t).tenure port = s.tenure port := rfl
@[simp] theorem State.advance_held (s : State) (t : Stamp) (b line : Nat) : (s.advance t).held b line = s.held b line := rfl
@[simp] theorem State.advance_mainTxn (s : State) (t : Stamp) (line : Nat) : (s.advance t).mainTxn line = s.mainTxn line := rfl
@[simp] theorem State.advance_pathOk (s : State) (t : Stamp) (m : Nat) (via : Via) : (s.advance t).pathOk m via = s.pathOk m via := rfl
@[simp] theorem State.advance_coreUp (s : State) (t : Stamp) (h : Nat) : (s.advance t).coreUp h = s.coreUp h := rfl
@[simp] theorem State.advance_hartRuns (s : State) (t : Stamp) (h : Nat) : (s.advance t).hartRuns h = s.hartRuns h := rfl
@[simp] theorem State.advance_ready (s : State) (t : Stamp) (h : Nat) : (s.advance t).ready h = s.ready h := rfl
@[simp] theorem State.advance_isMember (s : State) (t : Stamp) (p : Nat) : (s.advance t).isMember p = s.isMember p := rfl
@[simp] theorem State.advance_linkUp (s : State) (t : Stamp) (l : Nat) : (s.advance t).linkUp l = s.linkUp l := rfl
@[simp] theorem State.advance_courseUp (s : State) (t : Stamp) (i : Nat) : (s.advance t).courseUp i = s.courseUp i := rfl
@[simp] theorem State.advance_brickUp (s : State) (t : Stamp) (b : Nat) : (s.advance t).brickUp b = s.brickUp b := rfl
@[simp] theorem State.advance_latched (s : State) (t : Stamp) (c : Coll) (b : Nat) : (s.advance t).latched c b = s.latched c b := rfl
@[simp] theorem State.advance_memberAt (s : State) (t : Stamp) (a : Nat) : (s.advance t).memberAt a = s.memberAt a := rfl
@[simp] theorem State.advance_mcOf (s : State) (t : Stamp) (line : Nat) : (s.advance t).mcOf line = s.mcOf line := rfl
@[simp] theorem State.advance_hasPkt (s : State) (t : Stamp) (p : Pkt) : (s.advance t).hasPkt p = s.hasPkt p := rfl
@[simp] theorem State.advance_lineAt (s : State) (t : Stamp) (line : Nat) : (s.advance t).lineAt line = s.lineAt line := rfl

/-! What the spec's registers see after an update elsewhere. -/

@[simp] theorem State.emit_fld (s : State) (k : OutKind) (a : List Nat) (d : List Byte) (F : Fld) (i : Nat) : (s.emit k a d).fld F i = s.fld F i := by
  simp only [State.fld, State.emit_regs]
@[simp] theorem State.setHart_fld (s : State) (h : Nat) (x : Hart) (F : Fld) (i : Nat) : (s.setHart h x).fld F i = s.fld F i := by
  simp only [State.fld, State.setHart_regs]
@[simp] theorem State.setPc_fld (s : State) (h : Nat) (v : Word) (F : Fld) (i : Nat) : (s.setPc h v).fld F i = s.fld F i := by
  simp only [State.fld, State.setPc_regs]
@[simp] theorem State.setCsr_fld (s : State) (h n : Nat) (v : Word) (F : Fld) (i : Nat) : (s.setCsr h n v).fld F i = s.fld F i := by
  simp only [State.fld, State.setCsr_regs]
@[simp] theorem State.setMip_fld (s : State) (h bit : Nat) (on : Bool) (F : Fld) (i : Nat) : (s.setMip h bit on).fld F i = s.fld F i := by
  simp only [State.fld, State.setMip_regs]
@[simp] theorem State.setX_fld (s : State) (h r : Nat) (v : Word) (F : Fld) (i : Nat) : (s.setX h r v).fld F i = s.fld F i := by
  simp only [State.fld, State.setX_regs]
@[simp] theorem State.setBox_fld (s : State) (m : Nat) (b : Mailbox) (F : Fld) (i : Nat) : (s.setBox m b).fld F i = s.fld F i := by
  simp only [State.fld, State.setBox_regs]
@[simp] theorem State.mapTaken_fld (s : State) (m : Nat) (p : Taken → Bool) (f : Taken → Taken) (F : Fld) (i : Nat) : (s.mapTaken m p f).fld F i = s.fld F i := by
  simp only [State.fld, State.mapTaken_regs]
@[simp] theorem State.setPfn_fld (s : State) (j : Nat) (f : PcieFn) (F : Fld) (i : Nat) : (s.setPfn j f).fld F i = s.fld F i := by
  simp only [State.fld, State.setPfn_regs]
@[simp] theorem State.setCfg_fld (s : State) (j off n v : Nat) (F : Fld) (i : Nat) : (s.setCfg j off n v).fld F i = s.fld F i := by
  simp only [State.fld, State.setCfg_regs]
@[simp] theorem State.setByte_fld (s : State) (a : Nat) (v : Byte) (F : Fld) (i : Nat) : (s.setByte a v).fld F i = s.fld F i := by
  simp only [State.fld, State.setByte_regs]
@[simp] theorem State.setPoison_fld (s : State) (line : Nat) (on : Bool) (F : Fld) (i : Nat) : (s.setPoison line on).fld F i = s.fld F i := by
  simp only [State.fld, State.setPoison_regs]
@[simp] theorem State.setTiles_fld (s : State) (first count : Nat) (secure : Bool) (F : Fld) (i : Nat) : (s.setTiles first count secure).fld F i = s.fld F i := by
  simp only [State.fld, State.setTiles_regs]
@[simp] theorem State.setTxn_fld (s : State) (x : Txn) (F : Fld) (i : Nat) : (s.setTxn x).fld F i = s.fld F i := by
  simp only [State.fld, State.setTxn_regs]
@[simp] theorem State.setMiss_fld (s : State) (h : Nat) (m : Miss) (F : Fld) (i : Nat) : (s.setMiss h m).fld F i = s.fld F i := by
  simp only [State.fld, State.setMiss_regs]
@[simp] theorem State.putLine_fld (s : State) (bb line : Nat) (x : CLine) (F : Fld) (i : Nat) : (s.putLine bb line x).fld F i = s.fld F i := by
  simp only [State.fld, State.putLine_regs]
@[simp] theorem State.setTenure_fld (s : State) (port : Nat) (x : Tenure) (F : Fld) (i : Nat) : (s.setTenure port x).fld F i = s.fld F i := by
  simp only [State.fld, State.setTenure_regs]
@[simp] theorem State.setLinkRx_fld (s : State) (l : Nat) (x : FlitDir) (F : Fld) (i : Nat) : (s.setLinkRx l x).fld F i = s.fld F i := by
  simp only [State.fld, State.setLinkRx_regs]
@[simp] theorem State.setDrain_fld (s : State) (d : Nat) (x : DrainState) (F : Fld) (i : Nat) : (s.setDrain d x).fld F i = s.fld F i := by
  simp only [State.fld, State.setDrain_regs]
@[simp] theorem State.setChan_fld (s : State) (ch : Nat) (c : Channel) (F : Fld) (i : Nat) : (s.setChan ch c).fld F i = s.fld F i := by
  simp only [State.fld, State.setChan_regs]
@[simp] theorem State.setOp_fld (s : State) (o : Op) (F : Fld) (i : Nat) : (s.setOp o).fld F i = s.fld F i := by
  simp only [State.fld, State.setOp_regs]
@[simp] theorem State.setRun_fld (s : State) (c : Nat) (r : CoreRun) (F : Fld) (i : Nat) : (s.setRun c r).fld F i = s.fld F i := by
  simp only [State.fld, State.setRun_regs]
@[simp] theorem State.setReplica_fld (s : State) (r : Nat) (x : Replica) (F : Fld) (i : Nat) : (s.setReplica r x).fld F i = s.fld F i := by
  simp only [State.fld, State.setReplica_regs]
@[simp] theorem State.setRail_fld (s : State) (r : Nat) (x : Rail) (F : Fld) (i : Nat) : (s.setRail r x).fld F i = s.fld F i := by
  simp only [State.fld, State.setRail_regs]
@[simp] theorem State.putImage_fld (s : State) (im : Image) (F : Fld) (i : Nat) : (s.putImage im).fld F i = s.fld F i := by
  simp only [State.fld, State.putImage_regs]
@[simp] theorem State.setWalk_fld (s : State) (w : Walk) (o : Option Walk) (F : Fld) (i : Nat) : (s.setWalk w o).fld F i = s.fld F i := by
  simp only [State.fld, State.setWalk_regs]
@[simp] theorem State.setTurn_fld (s : State) (k n : Nat) (F : Fld) (i : Nat) : (s.setTurn k n).fld F i = s.fld F i := by
  simp only [State.fld, State.setTurn_regs]
@[simp] theorem State.addPtr_fld (s : State) (p : Ptr) (F : Fld) (i : Nat) : (s.addPtr p).fld F i = s.fld F i := by
  simp only [State.fld, State.addPtr_regs]
@[simp] theorem State.addTlb_fld (s : State) (e : TlbEntry) (k : TlbCache) (F : Fld) (i : Nat) : (s.addTlb e k).fld F i = s.fld F i := by
  simp only [State.fld, State.addTlb_regs]
@[simp] theorem State.fenceTlb_fld (s : State) (h : Nat) (k : FenceKind) (va asid : Option Nat) (F : Fld) (i : Nat) : (s.fenceTlb h k va asid).fld F i = s.fld F i := by
  simp only [State.fld, State.fenceTlb_regs]
@[simp] theorem State.exchange_fld (s : State) (a b : Nat) (F : Fld) (i : Nat) : (s.exchange a b).fld F i = s.fld F i := by
  simp only [State.fld, State.exchange_regs]

end Sys2Proof.Machine
end

