-- ==== Sys2Proof/Laws/Memory.lean ====
section
/-! SUPPORT. Every operation over memory keeps its canonical form (log 13): a byte or bytes written, a line written, a coherent
write, a frame zeroed, and the end of a channel's mirroring. -/

namespace Sys2Proof.Machine

theorem Memory.wf_iff (m : List Host.Cell) :
    Memory.wf m = true ↔ m.Pairwise (fun p q => p.1 < q.1) ∧ ∀ c ∈ m, c.2 ≠ 0 := by
  unfold Memory.wf
  rw [Bool.and_eq_true, sortedBy_iff, List.all_eq_true]
  constructor
  · rintro ⟨h, g⟩
    exact ⟨h, fun c hc => by simpa using g c hc⟩
  · rintro ⟨h, g⟩
    exact ⟨h, fun c hc => by simpa using g c hc⟩

theorem Memory.wf_nil : Memory.wf [] = true := rfl

theorem Memory.wf_filter (m : List Host.Cell) (p : Host.Cell → Bool) (h : Memory.wf m = true) : Memory.wf (m.filter p) = true := by
  rw [Memory.wf_iff] at *
  exact ⟨h.1.filter _, fun c hc => h.2 c (List.mem_filter.1 hc).1⟩

theorem Memory.wf_nputd (m : List Host.Cell) (a : Nat) (v : Byte) (h : Memory.wf m = true) : Memory.wf (nputd m a v 0) = true := by
  rw [Memory.wf_iff] at *
  unfold nputd
  split
  · exact ⟨h.1.sublist (dropKey_sublist _ _), fun c hc => h.2 c ((dropKey_sublist _ _).subset hc)⟩
  · rename_i ne
    refine ⟨pairwise_nput m a v h.1, fun c hc => ?_⟩
    rcases mem_putBy _ _ _ _ _ hc with e | e
    · rw [e]; exact ne
    · exact h.2 c e

theorem State.setByte_wf (s : State) (a : Nat) (v : Byte) (h : Memory.wf s.mem.cells = true) :
    Memory.wf (s.setByte a v).mem.cells = true := Memory.wf_nputd _ _ _ h

theorem State.setBytes_wf (d : List Byte) : ∀ (s : State) (a : Nat), Memory.wf s.mem.cells = true →
    Memory.wf (s.setBytes a d).mem.cells = true := by
  induction d with
  | nil => intro s a h; exact h
  | cons b r ih => intro s a h; exact ih _ _ (s.setByte_wf a b h)

theorem State.shadowBytes_mem (d : List Byte) : ∀ (s : State) (a : Nat), (s.shadowBytes a d).mem = s.mem := by
  induction d with
  | nil => intro s a; rfl
  | cons b r ih =>
    intro s a
    unfold State.shadowBytes
    rw [ih]
    split <;> rfl

theorem State.setPoison_cells (s : State) (l : Nat) (on : Bool) : (s.setPoison l on).mem.cells = s.mem.cells := by
  unfold State.setPoison
  dsimp only
  split <;> rfl

theorem State.mended_cells (s : State) (l : Nat) : (s.mended l).mem.cells = s.mem.cells := rfl

theorem State.writeLine_wf (s : State) (line off : Nat) (d : List Byte) (poison : Bool) (h : Memory.wf s.mem.cells = true) :
    Memory.wf (s.writeLine line off d poison).mem.cells = true := by
  unfold State.writeLine
  split
  · exact h
  · split
    · simp only [State.setPoison_cells, State.mended_cells, State.shadowBytes_mem]
      exact State.setBytes_wf d s _ h
    · exact h

theorem State.patchFlight_cells (s : State) (l : Nat) (d : List Byte × Bool) : (s.patchFlight l d).mem.cells = s.mem.cells := rfl

theorem State.dropLine_mem (s : State) (b l : Nat) : (s.dropLine b l).mem = s.mem := rfl

theorem dropLines_mem (line : Nat) (hs : List (Nat × CLine)) : ∀ s : State,
    (hs.foldl (fun (s : State) q => s.dropLine q.1 line) s).mem = s.mem := by
  induction hs with
  | nil => intro s; rfl
  | cons q r ih => intro s; rw [List.foldl_cons, ih]; rfl

theorem State.writeNow_wf (s : State) (line off : Nat) (d : List Byte) (h : Memory.wf s.mem.cells = true) :
    Memory.wf (s.writeNow line off d).mem.cells = true := by
  unfold State.writeNow
  apply State.writeLine_wf
  rw [State.patchFlight_cells, dropLines_mem]
  exact h

theorem State.storeNow_wf (s : State) (a : Nat) (d : List Byte) (h : Memory.wf s.mem.cells = true) :
    Memory.wf (s.storeNow a d).mem.cells = true := by
  unfold State.storeNow
  generalize List.range ((a % 64 + d.length + 63) / 64) = is
  induction is generalizing s with
  | nil => exact h
  | cons i r ih => rw [List.foldl_cons]; exact ih _ (State.writeNow_wf _ _ _ _ h)

theorem State.refreshNode_mem (s : State) (n : Nat) : (s.refreshNode n).mem = s.mem := by
  unfold State.refreshNode
  dsimp only
  rw [apply_ite State.mem]
  simp only [State.set_mem, ite_self]

theorem State.endMirror_wf (s : State) (a b : Nat) (h : Memory.wf s.mem.cells = true) :
    Memory.wf (s.endMirror a b).mem.cells = true := by
  unfold State.endMirror
  dsimp only
  rw [State.refreshNode_mem]
  split
  · exact Memory.wf_filter _ _ h
  · exact h

theorem State.meterUnits_mem (s : State) (h node dir n : Nat) : (s.meterUnits h node dir n).mem = s.mem := by
  unfold State.meterUnits
  dsimp only
  split
  · rfl
  · rfl

theorem State.zeroFrame_wf (s : State) (h p f : Nat) (w : Memory.wf s.mem.cells = true) :
    Memory.wf (s.zeroFrame h p f).mem.cells = true := by
  unfold State.zeroFrame
  dsimp only
  split
  · rw [State.meterUnits_mem]; exact Memory.wf_filter _ _ w
  · exact Memory.wf_filter _ _ w

end Sys2Proof.Machine
end

