-- ==== Sys2Proof/Laws/Outcome.lean ====
section
/-! SUPPORT. What a command at a stamp answers: every meaning but those of a reset, a loss of power and a start is `live` or `liveS` of
an effect. Unify these with a meaning once it is unfolded, at reducible transparency (with_reducible), so that no state is evaluated. -/

namespace Sys2Proof.Machine

open Sys2Proof.Safety

theorem live_eq (t : Stamp) (s : State) (f : State → State) (h : s.up = true) : live t s f = left s t (f (s.advance t)) := by
  rw [live, if_pos h, left]

theorem liveS_eq (t : Stamp) (s : State) (f : State → State) (h : s.up = true) : liveS t s f = settled s t (f (s.advance t)) := by
  rw [liveS, if_pos h, settled]

theorem live_off (t : Stamp) (s : State) (f : State → State) (h : s.up = false) : live t s f = .next s := by
  rw [live, h, if_neg Bool.false_ne_true]

theorem liveS_off (t : Stamp) (s : State) (f : State → State) (h : s.up = false) : liveS t s f = .next s := by
  rw [liveS, h, if_neg Bool.false_ne_true]

/-- An outcome goes on: it is a next state with the same queue, whose STB has not decreased. -/
def GoesOn (s : State) (o : Res) : Prop := ∃ r, o = .next r ∧ r.pending = s.pending ∧ s.stb ≤ r.stb

theorem next_goesOn (s : State) : GoesOn s (.next s) := ⟨s, rfl, rfl, Nat.le_refl _⟩

theorem bounded_goesOn (s r : State) (t : Stamp) : GoesOn s (.next ((s.advance t).bounded r)) :=
  ⟨_, rfl, rfl, Nat.le_trans (Nat.le_max_left s.stb t) (Nat.le_max_left _ _)⟩

theorem ite_goesOn (s r : State) (t : Stamp) (c : Prop) [Decidable c] :
    GoesOn s (.next (if c then (s.advance t).bounded r else s)) := by
  split
  · exact bounded_goesOn _ _ _
  · exact next_goesOn _

theorem live_goesOn (t : Stamp) (s : State) (f : State → State) : GoesOn s (live t s f) := by
  unfold live; exact ite_goesOn _ _ _ _

theorem liveS_goesOn (t : Stamp) (s : State) (f : State → State) : GoesOn s (liveS t s f) := by
  have e : liveS t s f = live t s (fun x => (f x).settle) := by rw [liveS, live]
  rw [e]; exact live_goesOn _ _ _

theorem rowCommand_goesOn (t : Stamp) (m op : Nat) (f : Caller → List Byte → State → Reply) (s : State) :
    GoesOn s (rowCommand t m op f s) := by
  unfold rowCommand; exact liveS_goesOn _ _ _

theorem counterRow_goesOn (t : Stamp) (m sub : Nat) (f : Caller → List Byte → State → Reply) (s : State) :
    GoesOn s (counterRow t m sub f s) := by
  unfold counterRow; exact liveS_goesOn _ _ _

end Sys2Proof.Machine
end

