-- ==== Sys2Proof/WellFormed.lean ====
section
/-! DEFINITION. Well-formed commands: every operand lies within the range the package gives it. An ill-formed command
names a unit that does not exist; the machine gives it no effect (log 3). -/

namespace Sys2Proof

open Sys2Proof.Machine

/-- Whether a path names a hart or a port of the package (R42, R43). -/
def Via.wf (v : Via) : Bool :=
  match v with
  | .core h _ => decide (h < 288)
  | .endpoint p => decide (p < 8)
  | .sideband => true

/-- Whether a packet's fields fit their widths and its data unit is one of 0, 8, 32 or 64 bytes at most (R245). -/
def Pkt.wf (p : Pkt) : Bool :=
  decide (p.cls < 8) && decide (p.op < 64) && decide (p.txn < 2 ^ 15) && decide (p.line < 2 ^ 52) && decide (p.tag < 256) &&
    decide (p.urgency < 4) && decide (p.data.length ≤ 64)

/-- Whether a doorbell names an engine's channel or a function's (R138). -/
def Door.wf (d : Door) : Bool :=
  match d with
  | .engine e ch => decide (e < 16) && decide (ch < 4096)
  | .bar0 p fn _ => decide (p < 8) && decide (fn < 320)

/-- Whether a collector stands at a unit of the package (R357). -/
def Coll.wf (c : Coll) : Bool :=
  match c with
  | .chip => true
  | .region r => decide (r < 16)
  | .block l b => decide (l < 17) && decide (b < 8)
  | .cell l b k => decide (l < 17) && decide (b < 8) && decide (k < 64)

/-- Whether a number is below a bound. -/
def below (v n : Nat) : Bool := decide (v < n)

/-- Whether a number fits a number of bits. -/
def fits (v n : Nat) : Bool := decide (v < 2 ^ n)

/-- Whether a fetched instruction names a hart and fits 32 bits. -/
def Fetched.wf (x : Fetched) : Bool := decide (x.hart < 288) && decide (x.ins < 2 ^ 32)

/-- Whether every operand of a command lies within its range. -/
def Instr.wf (i : Instr) : Bool :=
  match i with
  | .startUp t _ => fits t 64
  | .pkgReset  => true
  | .keeperDivergence t => fits t 64
  | .keeperRestartEnd t => fits t 64
  | .mbxDoorbellCmdTail t m via tail => fits t 64 && (below m 64 && (Via.wf via && below tail 32))
  | .mbxDoorbellReset t m via => fits t 64 && (below m 64 && Via.wf via)
  | .mailboxResetEnd t m => fits t 64 && below m 64
  | .mbxCmpHead t m via head => fits t 64 && (below m 64 && (Via.wf via && below head 32))
  | .mbxEvtHead t m via head => fits t 64 && (below m 64 && (Via.wf via && below head 64))
  | .commandTake t => fits t 64
  | .commandBoundExpiry t m seq => fits t 64 && (below m 64 && below seq 18446744073709551616)
  | .smbusPointerWrite t m off _ => fits t 64 && (below m 64 && below off 16384)
  | .smbusDataWrite t _ _ => fits t 64
  | .smbusDataRead t => fits t 64
  | .alertResponseAddress t => fits t 64
  | .endpointMemoryRequest t p fn _ _ => fits t 64 && (below p 8 && below fn 320)
  | .endpointConfigRequest t p fn _ => fits t 64 && (below p 8 && below fn 320)
  | .getInfo t m => fits t 64 && below m 64
  | .getCaps t m => fits t 64 && below m 64
  | .getTopology t m => fits t 64 && below m 64
  | .book t m => fits t 64 && below m 64
  | .unbook t m => fits t 64 && below m 64
  | .queryBookings t m => fits t 64 && below m 64
  | .queryCapacity t m => fits t 64 && below m 64
  | .setPrecedence t m => fits t 64 && below m 64
  | .defineClass t m => fits t 64 && below m 64
  | .defineGroup t m => fits t 64 && below m 64
  | .bindChannel t m => fits t 64 && below m 64
  | .lockChannels t m => fits t 64 && below m 64
  | .releaseGroup t m => fits t 64 && below m 64
  | .pair t m => fits t 64 && below m 64
  | .unpair t m => fits t 64 && below m 64
  | .setWorldTiles t m => fits t 64 && below m 64
  | .setBlockWorld t m => fits t 64 && below m 64
  | .poolGrant t m => fits t 64 && below m 64
  | .setNodePolicy t m => fits t 64 && below m 64
  | .mirrorChannels t m => fits t 64 && below m 64
  | .maintStart t m => fits t 64 && below m 64
  | .maintStatus t m => fits t 64 && below m 64
  | .maintAbort t m => fits t 64 && below m 64
  | .retire t m => fits t 64 && below m 64
  | .restoreUnit t m => fits t 64 && below m 64
  | .faultLogRead t m => fits t 64 && below m 64
  | .setSeverity t m => fits t 64 && below m 64
  | .faultClear t m => fits t 64 && below m 64
  | .stbConfig t m => fits t 64 && below m 64
  | .stbStatus t m => fits t 64 && below m 64
  | .resyncTimeout t => fits t 64
  | .saveListSet t m => fits t 64 && below m 64
  | .saveStatus t m => fits t 64 && below m 64
  | .restoreBegin t m => fits t 64 && below m 64
  | .saveRelease t m => fits t 64 && below m 64
  | .constJoin t m _ => fits t 64 && below m 64
  | .constLeave t m _ => fits t 64 && below m 64
  | .constRoute t m => fits t 64 && below m 64
  | .journalMirror t m _ => fits t 64 && below m 64
  | .vfAssign t m => fits t 64 && below m 64
  | .vfQuiesce t m => fits t 64 && below m 64
  | .vfResume t m => fits t 64 && below m 64
  | .powerLimit t m => fits t 64 && below m 64
  | .thermalStatus t m => fits t 64 && below m 64
  | .setVotePolicy t m => fits t 64 && below m 64
  | .debugAuthChallenge t m => fits t 64 && below m 64
  | .debugAuthResponse t m => fits t 64 && below m 64
  | .debugRevoke t m => fits t 64 && below m 64
  | .fwStage t m => fits t 64 && below m 64
  | .fwActivate t m => fits t 64 && below m 64
  | .counterAccessGrant t m => fits t 64 && below m 64
  | .counterAccessRevoke t m => fits t 64 && below m 64
  | .counterAccessRead t m => fits t 64 && below m 64
  | .counterAccessSet t m => fits t 64 && below m 64
  | .meridian t _ _ => fits t 64
  | .replicaMarkerCheck t r _ _ _ => fits t 64 && below r 16
  | .replicaCorrection t r => fits t 64 && below r 16
  | .replicaHoldEnd t r => fits t 64 && below r 16
  | .stbPps t tick frac => fits t 64 && (below tick 18446744073709551616 && below frac 25)
  | .referenceLoss t _ => fits t 64
  | .holdoverExpiry t => fits t 64
  | .timerCompare t h _ => fits t 64 && below h 288
  | .recompute t => fits t 64
  | .metering t p => fits t 64 && Pkt.wf p
  | .queueLevelChange t c level => fits t 64 && (below c 80 && below level 4)
  | .ieChDbSqTail t d _ => fits t 64 && Door.wf d
  | .ieChDbCqHead t d _ => fits t 64 && Door.wf d
  | .descriptorFetch t e => fits t 64 && below e 16
  | .intake t e ch _ => fits t 64 && (below e 16 && below ch 4096)
  | .admission t => fits t 64
  | .answer t e => fits t 64 && below e 16
  | .tnext t h ins => fits t 64 && (below h 288 && fits ins 32)
  | .tnextWaitExpiry t h => fits t 64 && below h 288
  | .tdone t h ins => fits t 64 && (below h 288 && fits ins 32)
  | .jcommit t h ins => fits t 64 && (below h 288 && fits ins 32)
  | .budgetOverrun t c => fits t 64 && below c 288
  | .deadlineGuard t id => fits t 64 && below id 4294967296
  | .coreWithdraw t c => fits t 64 && below c 288
  | .mirrorAck t j seq => fits t 64 && (below j 64 && below seq 18446744073709551616)
  | .mirrorAckTimeout t j seq => fits t 64 && (below j 64 && below seq 18446744073709551616)
  | .drainWaitExpiry t d j => fits t 64 && (below d 64 && below j 64)
  | .drainWriteCompletion t d _ _ => fits t 64 && below d 64
  | .drainCommandTimeout t d _ => fits t 64 && below d 64
  | .jnlDrainEnable t via addr size value => fits t 64 && (Via.wf via && (fits addr 52 && ([1, 2, 4, 8].contains size && fits value 64)))
  | .wswitch t h ins => fits t 64 && (below h 288 && fits ins 32)
  | .sfenceVma t h _ _ _ ins => fits t 64 && (below h 288 && fits ins 32)
  | .tableWalk t h _ _ => fits t 64 && below h 288
  | .engineCacheAccess t e _ => fits t 64 && below e 16
  | .victimWritebackAck t e => fits t 64 && below e 16
  | .engineMissComplete t e => fits t 64 && below e 16
  | .pairDivergence t a => fits t 64 && below a 288
  | .pairSelfTestDone t a _ _ => fits t 64 && below a 288
  | .fetchShare t p => fits t 64 && Pkt.wf p
  | .fetchOwn t p => fits t 64 && Pkt.wf p
  | .ownZero t p => fits t 64 && Pkt.wf p
  | .evictDirty t p => fits t 64 && Pkt.wf p
  | .readUc t p => fits t 64 && Pkt.wf p
  | .writeUc t p => fits t 64 && Pkt.wf p
  | .atomic t p => fits t 64 && Pkt.wf p
  | .mcRead t p => fits t 64 && Pkt.wf p
  | .mcWrite t p => fits t 64 && Pkt.wf p
  | .devRd t p => fits t 64 && Pkt.wf p
  | .devWr t p => fits t 64 && Pkt.wf p
  | .snoopShare t p k => fits t 64 && (Pkt.wf p && below k 64)
  | .snoopOwn t p k => fits t 64 && (Pkt.wf p && below k 64)
  | .snoopKill t p k => fits t 64 && (Pkt.wf p && below k 64)
  | .snoopFlush t p k => fits t 64 && (Pkt.wf p && below k 64)
  | .grant t p => fits t 64 && Pkt.wf p
  | .grantSeen t p => fits t 64 && Pkt.wf p
  | .snoopPart t p => fits t 64 && Pkt.wf p
  | .snoopSum t p => fits t 64 && Pkt.wf p
  | .mcDone t p => fits t 64 && Pkt.wf p
  | .devAck t p => fits t 64 && Pkt.wf p
  | .err t p => fits t 64 && Pkt.wf p
  | .lineData t p => fits t 64 && Pkt.wf p
  | .flushData t p => fits t 64 && Pkt.wf p
  | .devData t p => fits t 64 && Pkt.wf p
  | .atomicOld t p => fits t 64 && Pkt.wf p
  | .fillHoldExpiry t bb _ => fits t 64 && below bb 136
  | .transactionTimeout t h _ => fits t 64 && below h 288
  | .packetInject t ring stop dir => fits t 64 && (below ring 17 && (below stop 16 && below dir 2))
  | .packetArrival t p _ => fits t 64 && Pkt.wf p
  | .starveClaim t ring stop dir => fits t 64 && (below ring 17 && (below stop 16 && below dir 2))
  | .tenureDecision t port _ _ _ => fits t 64 && below port 340
  | .holdCutoff t port _ _ => fits t 64 && below port 340
  | .courseFlitReceive t idx d _ => fits t 64 && (below idx 48 && below d 2)
  | .deferredStall t idx => fits t 64 && below idx 48
  | .brickRetirement t b => fits t 64 && below b 12
  | .registerReadMessage t b lane addr _ => fits t 64 && (below b 12 && (below lane 8 && fits addr 52))
  | .registerWriteMessage t b lane _ _ => fits t 64 && (below b 12 && below lane 8)
  | .readAnswer t b lane _ _ => fits t 64 && (below b 12 && below lane 8)
  | .capabilityRequest t b lane _ => fits t 64 && (below b 12 && below lane 8)
  | .capabilityAnswer t b lane mtype _ _ => fits t 64 && (below b 12 && (below lane 8 && below mtype 256))
  | .telemetry t b lane power junction _ => fits t 64 && (below b 12 && (below lane 8 && (below power 65536 && below junction 65536)))
  | .budget t b lane _ _ => fits t 64 && (below b 12 && below lane 8)
  | .errorPin t b lane level _ => fits t 64 && (below b 12 && (below lane 8 && below level 5))
  | .fence t b lane courses _ _ => fits t 64 && (below b 12 && (below lane 8 && below courses 16))
  | .remapAgreement t b lane course dir logical phys _ => fits t 64 && (below b 12 && (below lane 8 && (below course 48 && (below dir 2 && (below logical 128 && below phys 128)))))
  | .sidebandRetry t b lane => fits t 64 && (below b 12 && below lane 8)
  | .budgetMissing t b => fits t 64 && below b 12
  | .telemetryMissing t b => fits t 64 && below b 12
  | .lightbedSourceFailure t src => fits t 64 && below src 2
  | .couplerTimePathLoss t l => fits t 64 && below l 8
  | .linkFlitReceive t l _ from_ => fits t 64 && (below l 8 && below from_ 1024)
  | .timeMark t l _ _ _ _ number => fits t 64 && (below l 8 && below number 4294967296)
  | .linkDown t l cause => fits t 64 && (below l 8 && below cause 4)
  | .memberLost t p => fits t 64 && below p 1024
  | .membershipUpdate t p _ => fits t 64 && below p 1024
  | .grandmasterElection t gm => fits t 64 && below gm 1024
  | .remoteRequest t p => fits t 64 && Pkt.wf p
  | .remoteTimeout t slice txn => fits t 64 && (below slice 80 && below txn 32768)
  | .remoteQuarantineExpiry t slice txn => fits t 64 && (below slice 80 && below txn 32768)
  | .cstMsgSend t via addr size value => fits t 64 && (Via.wf via && (fits addr 52 && ([1, 2, 4, 8].contains size && fits value 64)))
  | .doorbellMessage t src _ _ _ _ _ => fits t 64 && below src 1024
  | .mirrorRecord t src journal seq _ _ => fits t 64 && (below src 1024 && (below journal 64 && below seq 18446744073709551616))
  | .mirrorMark t src journal seq _ _ _ => fits t 64 && (below src 1024 && (below journal 64 && below seq 18446744073709551616))
  | .blkClkCtrl t via addr size value => fits t 64 && (Via.wf via && (fits addr 52 && ([1, 2, 4, 8].contains size && fits value 64)))
  | .svote t via addr size value => fits t 64 && (Via.wf via && (fits addr 52 && ([1, 2, 4, 8].contains size && fits value 64)))
  | .sgate t via addr size value => fits t 64 && (Via.wf via && (fits addr 52 && ([1, 2, 4, 8].contains size && fits value 64)))
  | .debugHaltRequest t h => fits t 64 && below h 288
  | .functionLevelReset t p fn _ => fits t 64 && (below p 8 && below fn 320)
  | .resetCompletion t p fn => fits t 64 && (below p 8 && below fn 320)
  | .busMasterEnableClear t p fn => fits t 64 && (below p 8 && below fn 320)
  | .busMasterEnableSet t p fn => fits t 64 && (below p 8 && below fn 320)
  | .inboundRequest t p j _ => fits t 64 && (below p 8 && below j 16)
  | .completionTimeout t p tag => fits t 64 && (below p 8 && below tag 1024)
  | .lateCompletion t p tag _ => fits t 64 && (below p 8 && below tag 1024)
  | .tagQuarantineExpiry t p tag => fits t 64 && (below p 8 && below tag 1024)
  | .downstreamPortContainment t p j _ => fits t 64 && (below p 8 && below j 16)
  | .dpcTriggerStatusClear t p j => fits t 64 && (below p 8 && below j 16)
  | .faultEvent t e => fits t 64 && Coll.wf e.coll
  | .bucketLeak t c b _ => fits t 64 && (Coll.wf c && below b 12)
  | .faultRecordWrite t => fits t 64
  | .latchedSourcePoll t => fits t 64
  | .maintQueueWalk t => fits t 64
  | .activityEnd t id _ => fits t 64 && below id 4294967296
  | .demandScrubRewrite t c => fits t 64 && below c 80
  | .copyHoldEnd t idx => fits t 64 && below idx 48
  | .wfi t x => fits t 64 && Fetched.wf x
  | .coreWake t h => fits t 64 && below h 288
  | .clkSrc t via addr size value => fits t 64 && (Via.wf via && (fits addr 52 && ([1, 2, 4, 8].contains size && fits value 64)))
  | .clockSwitch t c => fits t 64 && below c 288
  | .domainOff t idx => fits t 64 && below idx 153
  | .domainOn t idx => fits t 64 && below idx 153
  | .idleEntry t => fits t 64
  | .eclipseEntry t => fits t 64
  | .eclipseWake t _ _ => fits t 64
  | .avsbusAcknowledgement t r => fits t 64 && below r 35
  | .avsbusTimeout t r => fits t 64 && below r 35
  | .avsbusRetry t r => fits t 64 && below r 35
  | .pmbusPoll t _ _ => fits t 64
  | .junctionCapping t die => fits t 64 && below die 13
  | .lidCapping t => fits t 64
  | .regulatorCapping t r => fits t 64 && below r 2
  | .cappingLift t cause u => fits t 64 && (below cause 5 && below u 4294967296)
  | .thermalTrip t die => fits t 64 && below die 13
  | .nightfallTrigger t cause => fits t 64 && below cause 4
  | .saveComplete t => fits t 64
  | .shadowLoadDone t => fits t 64
  | .ctrCfg t via addr size value => fits t 64 && (Via.wf via && (fits addr 52 && ([1, 2, 4, 8].contains size && fits value 64)))
  | .ctrValue t via addr size => fits t 64 && (Via.wf via && (fits addr 52 && [1, 2, 4, 8].contains size))
  | .registerWrite t via addr size value => fits t 64 && (Via.wf via && (fits addr 52 && ([1, 2, 4, 8].contains size && fits value 64)))
  | .coreLoadStoreFetch t h _ => fits t 64 && below h 288
  | .csrAccess t h ins => fits t 64 && (below h 288 && fits ins 32)
  | .patrolScrubRead t n outcome _ => fits t 64 && (below n 32 && below outcome 4)
  | .patrolPassLate t n => fits t 64 && below n 32
  | .endpointFundamentalReset t p _ _ _ _ => fits t 64 && below p 8
  | .powerLoss _ => true
  | .counterWrap t bank idx => fits t 64 && (below bank 8857 && below idx 256)
  | .finalCompletion t m seq => fits t 64 && (below m 64 && below seq 18446744073709551616)

/-- The stamp a command carries; a reset and a power loss stop the STB and carry none. -/
def Instr.stamp (i : Instr) : Stamp :=
  match i with
  | .startUp t _ => t
  | .pkgReset  => 0
  | .keeperDivergence t => t
  | .keeperRestartEnd t => t
  | .mbxDoorbellCmdTail t _ _ _ => t
  | .mbxDoorbellReset t _ _ => t
  | .mailboxResetEnd t _ => t
  | .mbxCmpHead t _ _ _ => t
  | .mbxEvtHead t _ _ _ => t
  | .commandTake t => t
  | .commandBoundExpiry t _ _ => t
  | .smbusPointerWrite t _ _ _ => t
  | .smbusDataWrite t _ _ => t
  | .smbusDataRead t => t
  | .alertResponseAddress t => t
  | .endpointMemoryRequest t _ _ _ _ => t
  | .endpointConfigRequest t _ _ _ => t
  | .getInfo t _ => t
  | .getCaps t _ => t
  | .getTopology t _ => t
  | .book t _ => t
  | .unbook t _ => t
  | .queryBookings t _ => t
  | .queryCapacity t _ => t
  | .setPrecedence t _ => t
  | .defineClass t _ => t
  | .defineGroup t _ => t
  | .bindChannel t _ => t
  | .lockChannels t _ => t
  | .releaseGroup t _ => t
  | .pair t _ => t
  | .unpair t _ => t
  | .setWorldTiles t _ => t
  | .setBlockWorld t _ => t
  | .poolGrant t _ => t
  | .setNodePolicy t _ => t
  | .mirrorChannels t _ => t
  | .maintStart t _ => t
  | .maintStatus t _ => t
  | .maintAbort t _ => t
  | .retire t _ => t
  | .restoreUnit t _ => t
  | .faultLogRead t _ => t
  | .setSeverity t _ => t
  | .faultClear t _ => t
  | .stbConfig t _ => t
  | .stbStatus t _ => t
  | .resyncTimeout t => t
  | .saveListSet t _ => t
  | .saveStatus t _ => t
  | .restoreBegin t _ => t
  | .saveRelease t _ => t
  | .constJoin t _ _ => t
  | .constLeave t _ _ => t
  | .constRoute t _ => t
  | .journalMirror t _ _ => t
  | .vfAssign t _ => t
  | .vfQuiesce t _ => t
  | .vfResume t _ => t
  | .powerLimit t _ => t
  | .thermalStatus t _ => t
  | .setVotePolicy t _ => t
  | .debugAuthChallenge t _ => t
  | .debugAuthResponse t _ => t
  | .debugRevoke t _ => t
  | .fwStage t _ => t
  | .fwActivate t _ => t
  | .counterAccessGrant t _ => t
  | .counterAccessRevoke t _ => t
  | .counterAccessRead t _ => t
  | .counterAccessSet t _ => t
  | .meridian t _ _ => t
  | .replicaMarkerCheck t _ _ _ _ => t
  | .replicaCorrection t _ => t
  | .replicaHoldEnd t _ => t
  | .stbPps t _ _ => t
  | .referenceLoss t _ => t
  | .holdoverExpiry t => t
  | .timerCompare t _ _ => t
  | .recompute t => t
  | .metering t _ => t
  | .queueLevelChange t _ _ => t
  | .ieChDbSqTail t _ _ => t
  | .ieChDbCqHead t _ _ => t
  | .descriptorFetch t _ => t
  | .intake t _ _ _ => t
  | .admission t => t
  | .answer t _ => t
  | .tnext t _ _ => t
  | .tnextWaitExpiry t _ => t
  | .tdone t _ _ => t
  | .jcommit t _ _ => t
  | .budgetOverrun t _ => t
  | .deadlineGuard t _ => t
  | .coreWithdraw t _ => t
  | .mirrorAck t _ _ => t
  | .mirrorAckTimeout t _ _ => t
  | .drainWaitExpiry t _ _ => t
  | .drainWriteCompletion t _ _ _ => t
  | .drainCommandTimeout t _ _ => t
  | .jnlDrainEnable t _ _ _ _ => t
  | .wswitch t _ _ => t
  | .sfenceVma t _ _ _ _ _ => t
  | .tableWalk t _ _ _ => t
  | .engineCacheAccess t _ _ => t
  | .victimWritebackAck t _ => t
  | .engineMissComplete t _ => t
  | .pairDivergence t _ => t
  | .pairSelfTestDone t _ _ _ => t
  | .fetchShare t _ => t
  | .fetchOwn t _ => t
  | .ownZero t _ => t
  | .evictDirty t _ => t
  | .readUc t _ => t
  | .writeUc t _ => t
  | .atomic t _ => t
  | .mcRead t _ => t
  | .mcWrite t _ => t
  | .devRd t _ => t
  | .devWr t _ => t
  | .snoopShare t _ _ => t
  | .snoopOwn t _ _ => t
  | .snoopKill t _ _ => t
  | .snoopFlush t _ _ => t
  | .grant t _ => t
  | .grantSeen t _ => t
  | .snoopPart t _ => t
  | .snoopSum t _ => t
  | .mcDone t _ => t
  | .devAck t _ => t
  | .err t _ => t
  | .lineData t _ => t
  | .flushData t _ => t
  | .devData t _ => t
  | .atomicOld t _ => t
  | .fillHoldExpiry t _ _ => t
  | .transactionTimeout t _ _ => t
  | .packetInject t _ _ _ => t
  | .packetArrival t _ _ => t
  | .starveClaim t _ _ _ => t
  | .tenureDecision t _ _ _ _ => t
  | .holdCutoff t _ _ _ => t
  | .courseFlitReceive t _ _ _ => t
  | .deferredStall t _ => t
  | .brickRetirement t _ => t
  | .registerReadMessage t _ _ _ _ => t
  | .registerWriteMessage t _ _ _ _ => t
  | .readAnswer t _ _ _ _ => t
  | .capabilityRequest t _ _ _ => t
  | .capabilityAnswer t _ _ _ _ _ => t
  | .telemetry t _ _ _ _ _ => t
  | .budget t _ _ _ _ => t
  | .errorPin t _ _ _ _ => t
  | .fence t _ _ _ _ _ => t
  | .remapAgreement t _ _ _ _ _ _ _ => t
  | .sidebandRetry t _ _ => t
  | .budgetMissing t _ => t
  | .telemetryMissing t _ => t
  | .lightbedSourceFailure t _ => t
  | .couplerTimePathLoss t _ => t
  | .linkFlitReceive t _ _ _ => t
  | .timeMark t _ _ _ _ _ _ => t
  | .linkDown t _ _ => t
  | .memberLost t _ => t
  | .membershipUpdate t _ _ => t
  | .grandmasterElection t _ => t
  | .remoteRequest t _ => t
  | .remoteTimeout t _ _ => t
  | .remoteQuarantineExpiry t _ _ => t
  | .cstMsgSend t _ _ _ _ => t
  | .doorbellMessage t _ _ _ _ _ _ => t
  | .mirrorRecord t _ _ _ _ _ => t
  | .mirrorMark t _ _ _ _ _ _ => t
  | .blkClkCtrl t _ _ _ _ => t
  | .svote t _ _ _ _ => t
  | .sgate t _ _ _ _ => t
  | .debugHaltRequest t _ => t
  | .functionLevelReset t _ _ _ => t
  | .resetCompletion t _ _ => t
  | .busMasterEnableClear t _ _ => t
  | .busMasterEnableSet t _ _ => t
  | .inboundRequest t _ _ _ => t
  | .completionTimeout t _ _ => t
  | .lateCompletion t _ _ _ => t
  | .tagQuarantineExpiry t _ _ => t
  | .downstreamPortContainment t _ _ _ => t
  | .dpcTriggerStatusClear t _ _ => t
  | .faultEvent t _ => t
  | .bucketLeak t _ _ _ => t
  | .faultRecordWrite t => t
  | .latchedSourcePoll t => t
  | .maintQueueWalk t => t
  | .activityEnd t _ _ => t
  | .demandScrubRewrite t _ => t
  | .copyHoldEnd t _ => t
  | .wfi t _ => t
  | .coreWake t _ => t
  | .clkSrc t _ _ _ _ => t
  | .clockSwitch t _ => t
  | .domainOff t _ => t
  | .domainOn t _ => t
  | .idleEntry t => t
  | .eclipseEntry t => t
  | .eclipseWake t _ _ => t
  | .avsbusAcknowledgement t _ => t
  | .avsbusTimeout t _ => t
  | .avsbusRetry t _ => t
  | .pmbusPoll t _ _ => t
  | .junctionCapping t _ => t
  | .lidCapping t => t
  | .regulatorCapping t _ => t
  | .cappingLift t _ _ => t
  | .thermalTrip t _ => t
  | .nightfallTrigger t _ => t
  | .saveComplete t => t
  | .shadowLoadDone t => t
  | .ctrCfg t _ _ _ _ => t
  | .ctrValue t _ _ _ => t
  | .registerWrite t _ _ _ _ => t
  | .coreLoadStoreFetch t _ _ => t
  | .csrAccess t _ _ => t
  | .patrolScrubRead t _ _ _ => t
  | .patrolPassLate t _ => t
  | .endpointFundamentalReset t _ _ _ _ _ => t
  | .powerLoss _ => 0
  | .counterWrap t _ _ => t
  | .finalCompletion t _ _ => t

end Sys2Proof
end

