-- ==== Sys2Proof/Laws/PerInstr.lean ====
section
/-! SUPPORT. Facts about every command as syntax, one lemma per constructor. -/

namespace Sys2Proof.Laws.WellFormed

open Sys2Proof.Machine

/-- The stamp of a well-formed command fits the 64 bits of the STB (R85). -/
def Statement (i : Instr) : Prop := i.wf = true → i.stamp < 2 ^ 64

/-- The first check of a chain holds where the chain does. -/
theorem stamp_bound {t : Stamp} {b : Bool} (h : (fits t 64 && b) = true) : t < 2 ^ 64 := by
  simp [fits] at h
  exact h.1

/-- The stamp of a command that carries none. -/
theorem zero_bound : 0 < 2 ^ 64 := by decide

theorem startUp (t : Stamp) (x : Start) : Statement (.startUp t x) := fun h => of_decide_eq_true h
theorem pkgReset  : Statement (.pkgReset ) := fun _ => zero_bound
theorem keeperDivergence (t : Stamp) : Statement (.keeperDivergence t) := fun h => of_decide_eq_true h
theorem keeperRestartEnd (t : Stamp) : Statement (.keeperRestartEnd t) := fun h => of_decide_eq_true h
theorem mbxDoorbellCmdTail (t : Stamp) (m : Nat) (via : Via) (tail : Nat) : Statement (.mbxDoorbellCmdTail t m via tail) := fun h => stamp_bound h
theorem mbxDoorbellReset (t : Stamp) (m : Nat) (via : Via) : Statement (.mbxDoorbellReset t m via) := fun h => stamp_bound h
theorem mailboxResetEnd (t : Stamp) (m : Nat) : Statement (.mailboxResetEnd t m) := fun h => stamp_bound h
theorem mbxCmpHead (t : Stamp) (m : Nat) (via : Via) (head : Nat) : Statement (.mbxCmpHead t m via head) := fun h => stamp_bound h
theorem mbxEvtHead (t : Stamp) (m : Nat) (via : Via) (head : Nat) : Statement (.mbxEvtHead t m via head) := fun h => stamp_bound h
theorem commandTake (t : Stamp) : Statement (.commandTake t) := fun h => of_decide_eq_true h
theorem commandBoundExpiry (t : Stamp) (m : Nat) (seq : Nat) : Statement (.commandBoundExpiry t m seq) := fun h => stamp_bound h
theorem smbusPointerWrite (t : Stamp) (m : Nat) (off : Nat) (pecOk : Bool) : Statement (.smbusPointerWrite t m off pecOk) := fun h => stamp_bound h
theorem smbusDataWrite (t : Stamp) (data : List Byte) (pecOk : Bool) : Statement (.smbusDataWrite t data pecOk) := fun h => of_decide_eq_true h
theorem smbusDataRead (t : Stamp) : Statement (.smbusDataRead t) := fun h => of_decide_eq_true h
theorem alertResponseAddress (t : Stamp) : Statement (.alertResponseAddress t) := fun h => of_decide_eq_true h
theorem endpointMemoryRequest (t : Stamp) (p : Nat) (fn : Nat) (b : Bar) (q : BarReq) : Statement (.endpointMemoryRequest t p fn b q) := fun h => stamp_bound h
theorem endpointConfigRequest (t : Stamp) (p : Nat) (fn : Nat) (q : CfgReq) : Statement (.endpointConfigRequest t p fn q) := fun h => stamp_bound h
theorem getInfo (t : Stamp) (m : Nat) : Statement (.getInfo t m) := fun h => stamp_bound h
theorem getCaps (t : Stamp) (m : Nat) : Statement (.getCaps t m) := fun h => stamp_bound h
theorem getTopology (t : Stamp) (m : Nat) : Statement (.getTopology t m) := fun h => stamp_bound h
theorem book (t : Stamp) (m : Nat) : Statement (.book t m) := fun h => stamp_bound h
theorem unbook (t : Stamp) (m : Nat) : Statement (.unbook t m) := fun h => stamp_bound h
theorem queryBookings (t : Stamp) (m : Nat) : Statement (.queryBookings t m) := fun h => stamp_bound h
theorem queryCapacity (t : Stamp) (m : Nat) : Statement (.queryCapacity t m) := fun h => stamp_bound h
theorem setPrecedence (t : Stamp) (m : Nat) : Statement (.setPrecedence t m) := fun h => stamp_bound h
theorem defineClass (t : Stamp) (m : Nat) : Statement (.defineClass t m) := fun h => stamp_bound h
theorem defineGroup (t : Stamp) (m : Nat) : Statement (.defineGroup t m) := fun h => stamp_bound h
theorem bindChannel (t : Stamp) (m : Nat) : Statement (.bindChannel t m) := fun h => stamp_bound h
theorem lockChannels (t : Stamp) (m : Nat) : Statement (.lockChannels t m) := fun h => stamp_bound h
theorem releaseGroup (t : Stamp) (m : Nat) : Statement (.releaseGroup t m) := fun h => stamp_bound h
theorem pair (t : Stamp) (m : Nat) : Statement (.pair t m) := fun h => stamp_bound h
theorem unpair (t : Stamp) (m : Nat) : Statement (.unpair t m) := fun h => stamp_bound h
theorem setWorldTiles (t : Stamp) (m : Nat) : Statement (.setWorldTiles t m) := fun h => stamp_bound h
theorem setBlockWorld (t : Stamp) (m : Nat) : Statement (.setBlockWorld t m) := fun h => stamp_bound h
theorem poolGrant (t : Stamp) (m : Nat) : Statement (.poolGrant t m) := fun h => stamp_bound h
theorem setNodePolicy (t : Stamp) (m : Nat) : Statement (.setNodePolicy t m) := fun h => stamp_bound h
theorem mirrorChannels (t : Stamp) (m : Nat) : Statement (.mirrorChannels t m) := fun h => stamp_bound h
theorem maintStart (t : Stamp) (m : Nat) : Statement (.maintStart t m) := fun h => stamp_bound h
theorem maintStatus (t : Stamp) (m : Nat) : Statement (.maintStatus t m) := fun h => stamp_bound h
theorem maintAbort (t : Stamp) (m : Nat) : Statement (.maintAbort t m) := fun h => stamp_bound h
theorem retire (t : Stamp) (m : Nat) : Statement (.retire t m) := fun h => stamp_bound h
theorem restoreUnit (t : Stamp) (m : Nat) : Statement (.restoreUnit t m) := fun h => stamp_bound h
theorem faultLogRead (t : Stamp) (m : Nat) : Statement (.faultLogRead t m) := fun h => stamp_bound h
theorem setSeverity (t : Stamp) (m : Nat) : Statement (.setSeverity t m) := fun h => stamp_bound h
theorem faultClear (t : Stamp) (m : Nat) : Statement (.faultClear t m) := fun h => stamp_bound h
theorem stbConfig (t : Stamp) (m : Nat) : Statement (.stbConfig t m) := fun h => stamp_bound h
theorem stbStatus (t : Stamp) (m : Nat) : Statement (.stbStatus t m) := fun h => stamp_bound h
theorem resyncTimeout (t : Stamp) : Statement (.resyncTimeout t) := fun h => of_decide_eq_true h
theorem saveListSet (t : Stamp) (m : Nat) : Statement (.saveListSet t m) := fun h => stamp_bound h
theorem saveStatus (t : Stamp) (m : Nat) : Statement (.saveStatus t m) := fun h => stamp_bound h
theorem restoreBegin (t : Stamp) (m : Nat) : Statement (.restoreBegin t m) := fun h => stamp_bound h
theorem saveRelease (t : Stamp) (m : Nat) : Statement (.saveRelease t m) := fun h => stamp_bound h
theorem constJoin (t : Stamp) (m : Nat) (x : Found) : Statement (.constJoin t m x) := fun h => stamp_bound h
theorem constLeave (t : Stamp) (m : Nat) (refs : Bool) : Statement (.constLeave t m refs) := fun h => stamp_bound h
theorem constRoute (t : Stamp) (m : Nat) : Statement (.constRoute t m) := fun h => stamp_bound h
theorem journalMirror (t : Stamp) (m : Nat) (answer : Option Bool) : Statement (.journalMirror t m answer) := fun h => stamp_bound h
theorem vfAssign (t : Stamp) (m : Nat) : Statement (.vfAssign t m) := fun h => stamp_bound h
theorem vfQuiesce (t : Stamp) (m : Nat) : Statement (.vfQuiesce t m) := fun h => stamp_bound h
theorem vfResume (t : Stamp) (m : Nat) : Statement (.vfResume t m) := fun h => stamp_bound h
theorem powerLimit (t : Stamp) (m : Nat) : Statement (.powerLimit t m) := fun h => stamp_bound h
theorem thermalStatus (t : Stamp) (m : Nat) : Statement (.thermalStatus t m) := fun h => stamp_bound h
theorem setVotePolicy (t : Stamp) (m : Nat) : Statement (.setVotePolicy t m) := fun h => stamp_bound h
theorem debugAuthChallenge (t : Stamp) (m : Nat) : Statement (.debugAuthChallenge t m) := fun h => stamp_bound h
theorem debugAuthResponse (t : Stamp) (m : Nat) : Statement (.debugAuthResponse t m) := fun h => stamp_bound h
theorem debugRevoke (t : Stamp) (m : Nat) : Statement (.debugRevoke t m) := fun h => stamp_bound h
theorem fwStage (t : Stamp) (m : Nat) : Statement (.fwStage t m) := fun h => stamp_bound h
theorem fwActivate (t : Stamp) (m : Nat) : Statement (.fwActivate t m) := fun h => stamp_bound h
theorem counterAccessGrant (t : Stamp) (m : Nat) : Statement (.counterAccessGrant t m) := fun h => stamp_bound h
theorem counterAccessRevoke (t : Stamp) (m : Nat) : Statement (.counterAccessRevoke t m) := fun h => stamp_bound h
theorem counterAccessRead (t : Stamp) (m : Nat) : Statement (.counterAccessRead t m) := fun h => stamp_bound h
theorem counterAccessSet (t : Stamp) (m : Nat) : Statement (.counterAccessSet t m) := fun h => stamp_bound h
theorem meridian (t : Stamp) (x : Measures) (errs : List Nat) : Statement (.meridian t x errs) := fun h => of_decide_eq_true h
theorem replicaMarkerCheck (t : Stamp) (r : Nat) (missing : Bool) (residual : Int) (off : Int) : Statement (.replicaMarkerCheck t r missing residual off) := fun h => stamp_bound h
theorem replicaCorrection (t : Stamp) (r : Nat) : Statement (.replicaCorrection t r) := fun h => stamp_bound h
theorem replicaHoldEnd (t : Stamp) (r : Nat) : Statement (.replicaHoldEnd t r) := fun h => stamp_bound h
theorem stbPps (t : Stamp) (tick : Nat) (frac : Nat) : Statement (.stbPps t tick frac) := fun h => stamp_bound h
theorem referenceLoss (t : Stamp) (pulses : Bool) : Statement (.referenceLoss t pulses) := fun h => of_decide_eq_true h
theorem holdoverExpiry (t : Stamp) : Statement (.holdoverExpiry t) := fun h => of_decide_eq_true h
theorem timerCompare (t : Stamp) (h : Nat) (guest : Bool) : Statement (.timerCompare t h guest) := fun h => stamp_bound h
theorem recompute (t : Stamp) : Statement (.recompute t) := fun h => of_decide_eq_true h
theorem metering (t : Stamp) (p : Pkt) : Statement (.metering t p) := fun h => stamp_bound h
theorem queueLevelChange (t : Stamp) (c : Nat) (level : Nat) : Statement (.queueLevelChange t c level) := fun h => stamp_bound h
theorem ieChDbSqTail (t : Stamp) (d : Door) (v : Nat) : Statement (.ieChDbSqTail t d v) := fun h => stamp_bound h
theorem ieChDbCqHead (t : Stamp) (d : Door) (v : Nat) : Statement (.ieChDbCqHead t d v) := fun h => stamp_bound h
theorem descriptorFetch (t : Stamp) (e : Nat) : Statement (.descriptorFetch t e) := fun h => stamp_bound h
theorem intake (t : Stamp) (e : Nat) (ch : Nat) (bytes : List Byte) : Statement (.intake t e ch bytes) := fun h => stamp_bound h
theorem admission (t : Stamp) : Statement (.admission t) := fun h => of_decide_eq_true h
theorem answer (t : Stamp) (e : Nat) : Statement (.answer t e) := fun h => stamp_bound h
theorem tnext (t : Stamp) (h : Nat) (ins : Nat) : Statement (.tnext t h ins) := fun h => stamp_bound h
theorem tnextWaitExpiry (t : Stamp) (h : Nat) : Statement (.tnextWaitExpiry t h) := fun h => stamp_bound h
theorem tdone (t : Stamp) (h : Nat) (ins : Nat) : Statement (.tdone t h ins) := fun h => stamp_bound h
theorem jcommit (t : Stamp) (h : Nat) (ins : Nat) : Statement (.jcommit t h ins) := fun h => stamp_bound h
theorem budgetOverrun (t : Stamp) (c : Nat) : Statement (.budgetOverrun t c) := fun h => stamp_bound h
theorem deadlineGuard (t : Stamp) (id : Nat) : Statement (.deadlineGuard t id) := fun h => stamp_bound h
theorem coreWithdraw (t : Stamp) (c : Nat) : Statement (.coreWithdraw t c) := fun h => stamp_bound h
theorem mirrorAck (t : Stamp) (j : Nat) (seq : Nat) : Statement (.mirrorAck t j seq) := fun h => stamp_bound h
theorem mirrorAckTimeout (t : Stamp) (j : Nat) (seq : Nat) : Statement (.mirrorAckTimeout t j seq) := fun h => stamp_bound h
theorem drainWaitExpiry (t : Stamp) (d : Nat) (j : Nat) : Statement (.drainWaitExpiry t d j) := fun h => stamp_bound h
theorem drainWriteCompletion (t : Stamp) (d : Nat) (lba : Nat) (ok : Bool) : Statement (.drainWriteCompletion t d lba ok) := fun h => stamp_bound h
theorem drainCommandTimeout (t : Stamp) (d : Nat) (lba : Nat) : Statement (.drainCommandTimeout t d lba) := fun h => stamp_bound h
theorem jnlDrainEnable (t : Stamp) (via : Via) (addr : Nat) (size : Nat) (value : Nat) : Statement (.jnlDrainEnable t via addr size value) := fun h => stamp_bound h
theorem wswitch (t : Stamp) (h : Nat) (ins : Nat) : Statement (.wswitch t h ins) := fun h => stamp_bound h
theorem sfenceVma (t : Stamp) (h : Nat) (k : FenceKind) (va : Option Nat) (asid : Option Nat) (ins : Nat) : Statement (.sfenceVma t h k va asid ins) := fun h => stamp_bound h
theorem tableWalk (t : Stamp) (h : Nat) (va : Nat) (w : Want) : Statement (.tableWalk t h va w) := fun h => stamp_bound h
theorem engineCacheAccess (t : Stamp) (e : Nat) (x : EngAcc) : Statement (.engineCacheAccess t e x) := fun h => stamp_bound h
theorem victimWritebackAck (t : Stamp) (e : Nat) : Statement (.victimWritebackAck t e) := fun h => stamp_bound h
theorem engineMissComplete (t : Stamp) (e : Nat) : Statement (.engineMissComplete t e) := fun h => stamp_bound h
theorem pairDivergence (t : Stamp) (a : Nat) : Statement (.pairDivergence t a) := fun h => stamp_bound h
theorem pairSelfTestDone (t : Stamp) (a : Nat) (okA : Bool) (okB : Bool) : Statement (.pairSelfTestDone t a okA okB) := fun h => stamp_bound h
theorem fetchShare (t : Stamp) (p : Pkt) : Statement (.fetchShare t p) := fun h => stamp_bound h
theorem fetchOwn (t : Stamp) (p : Pkt) : Statement (.fetchOwn t p) := fun h => stamp_bound h
theorem ownZero (t : Stamp) (p : Pkt) : Statement (.ownZero t p) := fun h => stamp_bound h
theorem evictDirty (t : Stamp) (p : Pkt) : Statement (.evictDirty t p) := fun h => stamp_bound h
theorem readUc (t : Stamp) (p : Pkt) : Statement (.readUc t p) := fun h => stamp_bound h
theorem writeUc (t : Stamp) (p : Pkt) : Statement (.writeUc t p) := fun h => stamp_bound h
theorem atomic (t : Stamp) (p : Pkt) : Statement (.atomic t p) := fun h => stamp_bound h
theorem mcRead (t : Stamp) (p : Pkt) : Statement (.mcRead t p) := fun h => stamp_bound h
theorem mcWrite (t : Stamp) (p : Pkt) : Statement (.mcWrite t p) := fun h => stamp_bound h
theorem devRd (t : Stamp) (p : Pkt) : Statement (.devRd t p) := fun h => stamp_bound h
theorem devWr (t : Stamp) (p : Pkt) : Statement (.devWr t p) := fun h => stamp_bound h
theorem snoopShare (t : Stamp) (p : Pkt) (k : Nat) : Statement (.snoopShare t p k) := fun h => stamp_bound h
theorem snoopOwn (t : Stamp) (p : Pkt) (k : Nat) : Statement (.snoopOwn t p k) := fun h => stamp_bound h
theorem snoopKill (t : Stamp) (p : Pkt) (k : Nat) : Statement (.snoopKill t p k) := fun h => stamp_bound h
theorem snoopFlush (t : Stamp) (p : Pkt) (k : Nat) : Statement (.snoopFlush t p k) := fun h => stamp_bound h
theorem grant (t : Stamp) (p : Pkt) : Statement (.grant t p) := fun h => stamp_bound h
theorem grantSeen (t : Stamp) (p : Pkt) : Statement (.grantSeen t p) := fun h => stamp_bound h
theorem snoopPart (t : Stamp) (p : Pkt) : Statement (.snoopPart t p) := fun h => stamp_bound h
theorem snoopSum (t : Stamp) (p : Pkt) : Statement (.snoopSum t p) := fun h => stamp_bound h
theorem mcDone (t : Stamp) (p : Pkt) : Statement (.mcDone t p) := fun h => stamp_bound h
theorem devAck (t : Stamp) (p : Pkt) : Statement (.devAck t p) := fun h => stamp_bound h
theorem err (t : Stamp) (p : Pkt) : Statement (.err t p) := fun h => stamp_bound h
theorem lineData (t : Stamp) (p : Pkt) : Statement (.lineData t p) := fun h => stamp_bound h
theorem flushData (t : Stamp) (p : Pkt) : Statement (.flushData t p) := fun h => stamp_bound h
theorem devData (t : Stamp) (p : Pkt) : Statement (.devData t p) := fun h => stamp_bound h
theorem atomicOld (t : Stamp) (p : Pkt) : Statement (.atomicOld t p) := fun h => stamp_bound h
theorem fillHoldExpiry (t : Stamp) (bb : Nat) (line : Nat) : Statement (.fillHoldExpiry t bb line) := fun h => stamp_bound h
theorem transactionTimeout (t : Stamp) (h : Nat) (line : Nat) : Statement (.transactionTimeout t h line) := fun h => stamp_bound h
theorem packetInject (t : Stamp) (ring : Nat) (stop : Nat) (dir : Nat) : Statement (.packetInject t ring stop dir) := fun h => stamp_bound h
theorem packetArrival (t : Stamp) (p : Pkt) (upset : Upset) : Statement (.packetArrival t p upset) := fun h => stamp_bound h
theorem starveClaim (t : Stamp) (ring : Nat) (stop : Nat) (dir : Nat) : Statement (.starveClaim t ring stop dir) := fun h => stamp_bound h
theorem tenureDecision (t : Stamp) (port : Nat) (inst : Nat) (hints : List ArbReq) (idle : List Nat) : Statement (.tenureDecision t port inst hints idle) := fun h => stamp_bound h
theorem holdCutoff (t : Stamp) (port : Nat) (inst : Nat) (hints : List ArbReq) : Statement (.holdCutoff t port inst hints) := fun h => stamp_bound h
theorem courseFlitReceive (t : Stamp) (idx : Nat) (d : Nat) (f : List Byte) : Statement (.courseFlitReceive t idx d f) := fun h => stamp_bound h
theorem deferredStall (t : Stamp) (idx : Nat) : Statement (.deferredStall t idx) := fun h => stamp_bound h
theorem brickRetirement (t : Stamp) (b : Nat) : Statement (.brickRetirement t b) := fun h => stamp_bound h
theorem registerReadMessage (t : Stamp) (b : Nat) (lane : Nat) (addr : Nat) (ok : Bool) : Statement (.registerReadMessage t b lane addr ok) := fun h => stamp_bound h
theorem registerWriteMessage (t : Stamp) (b : Nat) (lane : Nat) (x : Nat) (ok : Bool) : Statement (.registerWriteMessage t b lane x ok) := fun h => stamp_bound h
theorem readAnswer (t : Stamp) (b : Nat) (lane : Nat) (x : Nat) (ok : Bool) : Statement (.readAnswer t b lane x ok) := fun h => stamp_bound h
theorem capabilityRequest (t : Stamp) (b : Nat) (lane : Nat) (ok : Bool) : Statement (.capabilityRequest t b lane ok) := fun h => stamp_bound h
theorem capabilityAnswer (t : Stamp) (b : Nat) (lane : Nat) (mtype : Nat) (x : Nat) (ok : Bool) : Statement (.capabilityAnswer t b lane mtype x ok) := fun h => stamp_bound h
theorem telemetry (t : Stamp) (b : Nat) (lane : Nat) (power : Nat) (junction : Nat) (ok : Bool) : Statement (.telemetry t b lane power junction ok) := fun h => stamp_bound h
theorem budget (t : Stamp) (b : Nat) (lane : Nat) (ceilings : List Nat) (ok : Bool) : Statement (.budget t b lane ceilings ok) := fun h => stamp_bound h
theorem errorPin (t : Stamp) (b : Nat) (lane : Nat) (level : Nat) (ok : Bool) : Statement (.errorPin t b lane level ok) := fun h => stamp_bound h
theorem fence (t : Stamp) (b : Nat) (lane : Nat) (courses : Nat) (sideband : Bool) (ok : Bool) : Statement (.fence t b lane courses sideband ok) := fun h => stamp_bound h
theorem remapAgreement (t : Stamp) (b : Nat) (lane : Nat) (course : Nat) (dir : Nat) (logical : Nat) (phys : Nat) (ok : Bool) : Statement (.remapAgreement t b lane course dir logical phys ok) := fun h => stamp_bound h
theorem sidebandRetry (t : Stamp) (b : Nat) (lane : Nat) : Statement (.sidebandRetry t b lane) := fun h => stamp_bound h
theorem budgetMissing (t : Stamp) (b : Nat) : Statement (.budgetMissing t b) := fun h => stamp_bound h
theorem telemetryMissing (t : Stamp) (b : Nat) : Statement (.telemetryMissing t b) := fun h => stamp_bound h
theorem lightbedSourceFailure (t : Stamp) (src : Nat) : Statement (.lightbedSourceFailure t src) := fun h => stamp_bound h
theorem couplerTimePathLoss (t : Stamp) (l : Nat) : Statement (.couplerTimePathLoss t l) := fun h => stamp_bound h
theorem linkFlitReceive (t : Stamp) (l : Nat) (f : List Byte) (from_ : Nat) : Statement (.linkFlitReceive t l f from_) := fun h => stamp_bound h
theorem timeMark (t : Stamp) (l : Nat) (sA : Nat) (rB : Nat) (sB : Nat) (rA : Nat) (number : Nat) : Statement (.timeMark t l sA rB sB rA number) := fun h => stamp_bound h
theorem linkDown (t : Stamp) (l : Nat) (cause : Nat) : Statement (.linkDown t l cause) := fun h => stamp_bound h
theorem memberLost (t : Stamp) (p : Nat) : Statement (.memberLost t p) := fun h => stamp_bound h
theorem membershipUpdate (t : Stamp) (p : Nat) (came : Bool) : Statement (.membershipUpdate t p came) := fun h => stamp_bound h
theorem grandmasterElection (t : Stamp) (gm : Nat) : Statement (.grandmasterElection t gm) := fun h => stamp_bound h
theorem remoteRequest (t : Stamp) (p : Pkt) : Statement (.remoteRequest t p) := fun h => stamp_bound h
theorem remoteTimeout (t : Stamp) (slice : Nat) (txn : Nat) : Statement (.remoteTimeout t slice txn) := fun h => stamp_bound h
theorem remoteQuarantineExpiry (t : Stamp) (slice : Nat) (txn : Nat) : Statement (.remoteQuarantineExpiry t slice txn) := fun h => stamp_bound h
theorem cstMsgSend (t : Stamp) (via : Via) (addr : Nat) (size : Nat) (value : Nat) : Statement (.cstMsgSend t via addr size value) := fun h => stamp_bound h
theorem doorbellMessage (t : Stamp) (src : Nat) (hart : Nat) (file : Nat) (guest : Nat) (eiid : Nat) (secure : Bool) : Statement (.doorbellMessage t src hart file guest eiid secure) := fun h => stamp_bound h
theorem mirrorRecord (t : Stamp) (src : Nat) (journal : Nat) (seq : Nat) (bytes : List Byte) (drained : Nat) : Statement (.mirrorRecord t src journal seq bytes drained) := fun h => stamp_bound h
theorem mirrorMark (t : Stamp) (src : Nat) (journal : Nat) (seq : Nat) (fl : Nat) (drained : Nat) (ended : Bool) : Statement (.mirrorMark t src journal seq fl drained ended) := fun h => stamp_bound h
theorem blkClkCtrl (t : Stamp) (via : Via) (addr : Nat) (size : Nat) (value : Nat) : Statement (.blkClkCtrl t via addr size value) := fun h => stamp_bound h
theorem svote (t : Stamp) (via : Via) (addr : Nat) (size : Nat) (value : Nat) : Statement (.svote t via addr size value) := fun h => stamp_bound h
theorem sgate (t : Stamp) (via : Via) (addr : Nat) (size : Nat) (value : Nat) : Statement (.sgate t via addr size value) := fun h => stamp_bound h
theorem debugHaltRequest (t : Stamp) (h : Nat) : Statement (.debugHaltRequest t h) := fun h => stamp_bound h
theorem functionLevelReset (t : Stamp) (p : Nat) (fn : Nat) (vfClear : Bool) : Statement (.functionLevelReset t p fn vfClear) := fun h => stamp_bound h
theorem resetCompletion (t : Stamp) (p : Nat) (fn : Nat) : Statement (.resetCompletion t p fn) := fun h => stamp_bound h
theorem busMasterEnableClear (t : Stamp) (p : Nat) (fn : Nat) : Statement (.busMasterEnableClear t p fn) := fun h => stamp_bound h
theorem busMasterEnableSet (t : Stamp) (p : Nat) (fn : Nat) : Statement (.busMasterEnableSet t p fn) := fun h => stamp_bound h
theorem inboundRequest (t : Stamp) (p : Nat) (j : Nat) (q : InReq) : Statement (.inboundRequest t p j q) := fun h => stamp_bound h
theorem completionTimeout (t : Stamp) (p : Nat) (tag : Nat) : Statement (.completionTimeout t p tag) := fun h => stamp_bound h
theorem lateCompletion (t : Stamp) (p : Nat) (tag : Nat) (last : Bool) : Statement (.lateCompletion t p tag last) := fun h => stamp_bound h
theorem tagQuarantineExpiry (t : Stamp) (p : Nat) (tag : Nat) : Statement (.tagQuarantineExpiry t p tag) := fun h => stamp_bound h
theorem downstreamPortContainment (t : Stamp) (p : Nat) (j : Nat) (err : Option Nat) : Statement (.downstreamPortContainment t p j err) := fun h => stamp_bound h
theorem dpcTriggerStatusClear (t : Stamp) (p : Nat) (j : Nat) : Statement (.dpcTriggerStatusClear t p j) := fun h => stamp_bound h
theorem faultEvent (t : Stamp) (e : FaultEvt) : Statement (.faultEvent t e) := fun h => stamp_bound h
theorem bucketLeak (t : Stamp) (c : Coll) (b : Nat) (e : Option Nat) : Statement (.bucketLeak t c b e) := fun h => stamp_bound h
theorem faultRecordWrite (t : Stamp) : Statement (.faultRecordWrite t) := fun h => of_decide_eq_true h
theorem latchedSourcePoll (t : Stamp) : Statement (.latchedSourcePoll t) := fun h => of_decide_eq_true h
theorem maintQueueWalk (t : Stamp) : Statement (.maintQueueWalk t) := fun h => of_decide_eq_true h
theorem activityEnd (t : Stamp) (id : Nat) (ok : Bool) : Statement (.activityEnd t id ok) := fun h => stamp_bound h
theorem demandScrubRewrite (t : Stamp) (c : Nat) : Statement (.demandScrubRewrite t c) := fun h => stamp_bound h
theorem copyHoldEnd (t : Stamp) (idx : Nat) : Statement (.copyHoldEnd t idx) := fun h => stamp_bound h
theorem wfi (t : Stamp) (x : Fetched) : Statement (.wfi t x) := fun h => stamp_bound h
theorem coreWake (t : Stamp) (h : Nat) : Statement (.coreWake t h) := fun h => stamp_bound h
theorem clkSrc (t : Stamp) (via : Via) (addr : Nat) (size : Nat) (value : Nat) : Statement (.clkSrc t via addr size value) := fun h => stamp_bound h
theorem clockSwitch (t : Stamp) (c : Nat) : Statement (.clockSwitch t c) := fun h => stamp_bound h
theorem domainOff (t : Stamp) (idx : Nat) : Statement (.domainOff t idx) := fun h => stamp_bound h
theorem domainOn (t : Stamp) (idx : Nat) : Statement (.domainOn t idx) := fun h => stamp_bound h
theorem idleEntry (t : Stamp) : Statement (.idleEntry t) := fun h => of_decide_eq_true h
theorem eclipseEntry (t : Stamp) : Statement (.eclipseEntry t) := fun h => of_decide_eq_true h
theorem eclipseWake (t : Stamp) (i3c : Bool) (trained : List Trained) : Statement (.eclipseWake t i3c trained) := fun h => of_decide_eq_true h
theorem avsbusAcknowledgement (t : Stamp) (r : Nat) : Statement (.avsbusAcknowledgement t r) := fun h => stamp_bound h
theorem avsbusTimeout (t : Stamp) (r : Nat) : Statement (.avsbusTimeout t r) := fun h => stamp_bound h
theorem avsbusRetry (t : Stamp) (r : Nat) : Statement (.avsbusRetry t r) := fun h => stamp_bound h
theorem pmbusPoll (t : Stamp) (regs : List RegStatus) (vin : Nat) : Statement (.pmbusPoll t regs vin) := fun h => of_decide_eq_true h
theorem junctionCapping (t : Stamp) (die : Nat) : Statement (.junctionCapping t die) := fun h => stamp_bound h
theorem lidCapping (t : Stamp) : Statement (.lidCapping t) := fun h => of_decide_eq_true h
theorem regulatorCapping (t : Stamp) (r : Nat) : Statement (.regulatorCapping t r) := fun h => stamp_bound h
theorem cappingLift (t : Stamp) (cause : Nat) (u : Nat) : Statement (.cappingLift t cause u) := fun h => stamp_bound h
theorem thermalTrip (t : Stamp) (die : Nat) : Statement (.thermalTrip t die) := fun h => stamp_bound h
theorem nightfallTrigger (t : Stamp) (cause : Nat) : Statement (.nightfallTrigger t cause) := fun h => stamp_bound h
theorem saveComplete (t : Stamp) : Statement (.saveComplete t) := fun h => of_decide_eq_true h
theorem shadowLoadDone (t : Stamp) : Statement (.shadowLoadDone t) := fun h => of_decide_eq_true h
theorem ctrCfg (t : Stamp) (via : Via) (addr : Nat) (size : Nat) (value : Nat) : Statement (.ctrCfg t via addr size value) := fun h => stamp_bound h
theorem ctrValue (t : Stamp) (via : Via) (addr : Nat) (size : Nat) : Statement (.ctrValue t via addr size) := fun h => stamp_bound h
theorem registerWrite (t : Stamp) (via : Via) (addr : Nat) (size : Nat) (value : Nat) : Statement (.registerWrite t via addr size value) := fun h => stamp_bound h
theorem coreLoadStoreFetch (t : Stamp) (h : Nat) (a : Access) : Statement (.coreLoadStoreFetch t h a) := fun h => stamp_bound h
theorem csrAccess (t : Stamp) (h : Nat) (ins : Nat) : Statement (.csrAccess t h ins) := fun h => stamp_bound h
theorem patrolScrubRead (t : Stamp) (n : Nat) (outcome : Nat) (e : Option Nat) : Statement (.patrolScrubRead t n outcome e) := fun h => stamp_bound h
theorem patrolPassLate (t : Stamp) (n : Nat) : Statement (.patrolPassLate t n) := fun h => stamp_bound h
theorem endpointFundamentalReset (t : Stamp) (p : Nat) (high : Bool) (width : Nat) (speed : Nat) (flit : Bool) : Statement (.endpointFundamentalReset t p high width speed flit) := fun h => stamp_bound h
theorem powerLoss (written : Nat) : Statement (.powerLoss written) := fun _ => zero_bound
theorem counterWrap (t : Stamp) (bank : Nat) (idx : Nat) : Statement (.counterWrap t bank idx) := fun h => stamp_bound h
theorem finalCompletion (t : Stamp) (m : Nat) (seq : Nat) : Statement (.finalCompletion t m seq) := fun h => stamp_bound h

end Sys2Proof.Laws.WellFormed
end

