-- ==== Sys2Proof/Tests/Slice0.lean ====
section
/-! SUPPORT. Tests on small states: ill-formed commands, a witness for the hypotheses of each statement, and worked examples of the
manual. -/

namespace Sys2Proof.Tests

open Sys2Proof.Machine Sys2Proof.Safety


set_option Elab.async false

/-! ### Commands of the mailboxes: a state and a payload for each row that its effect accepts -/

/-- A command with an opcode and a payload that has been taken and not yet run. -/
def taken (op : Nat) (p : List Byte) : Taken := ⟨0, op, 0, 0, p, 0, 1000000000, false, false, none, none, false, false, [], none⟩

/-- `n` zero bytes. -/
def zs (n : Nat) : List Byte := List.replicate n 0

/-- A package that has started and does nothing. -/
def idle : State := { State.reset with up := true }

/-- The state in which mailbox `m` waits to have a command run. -/
def waits (s : State) (m op : Nat) (p : List Byte) : State := s.setBox m { Mailbox.empty with taken := [taken op p] }

/-- Whether a command that waits in mailbox `m` is accepted at stamp 1,000. -/
def accepts (s : State) (m op : Nat) (p : List Byte) (f : Caller → List Byte → State → Reply) : Bool :=
  accepted (replyOf f (waits s m op p) 1000 m (taken op p))

/-- A state in which `k` waits (Waits). -/
theorem test_waits : Waits (waits idle 4 0x0100 (zs 64)) 4 0x0100 anyPayload (taken 0x0100 (zs 64)) :=
  ⟨rfl, rfl, by decide +kernel, by decide +kernel⟩

/-- A booking of one unit of the op table by mailbox 4. -/
def aBooking : Booking := ⟨1, 2, 1, 0, 0, 0, 0, 4, 0, 0, 1, 1, 0, 0, false, 0, 0, false, false⟩
def booked : State := { idle with alm := { idle.alm with books := [aBooking] } }
def withRoom : State :=
  ((idle.set ALM_CAP.BOOKABLE 180 100).set ALM_CAP.DERATED 180 100).set ALM_NEXT_ID.NEXT_ID 0 1
def brick0 : State := idle.set DIE_ID.UP 1 1
def pairs : State := brick0.set CHIP_CAP_EFFECTIVE.CAPS 0 64
def paired : State := ((pairs.set CORE_PAIR.STATE 0 2).set CORE_PAIR.STATE 1 3).set CORE_PAIR.PARTNER 0 1
def aClass : SvcClass := ⟨0, 0, 0, 0, 0, 64, 4⟩
def served : State :=
  { idle with svc := { idle.svc with classes := [(0, aClass)], groups := [(0, ⟨[0], 4⟩), (1, ⟨[24], 4⟩)] } }
def aChannel (g : Nat) : Channel := ⟨0, g, 1, 0, 0, 0, 0, 6, 6, 0, 0, 0, 4, false, false⟩
def bound : State := { served with svc := { served.svc with channels := [(0, aChannel 0), (1, aChannel 1)] } }
def anImage : Image := ⟨0, 2, 1, 0, 0, 0, 1, 127, 127, 0, 0, [], false, [], [], [], [], [], [], [], [], []⟩
def saved : State := { idle with nf := { idle.nf with images := [anImage] } }
def member : State := (idle.set CST_STATUS.MEMBER 0 1).setWord .CST_MEMBERS 0 0 2
def cutMember : State :=
  let s := (member.setWord .CST_MEMBERS 0 0 6).set LINK_STATUS.PEER 0 1
  { s with cst := { s.cst with down := [(0, 0)] } }
def linked : State := member.set LINK_STATUS.STATE 0 2
def withVf : State := ((idle.set PCIE_PORT_STATUS.ROLE 0 2).setCfg (fnIdx 0 0) 0x1A0 2 1).setCfg (fnIdx 0 0) 0x198 2 1
def working : State := { idle with maint := ⟨[{ newAct 1 0 0 (.mailbox 4) with id := 1 }], 2⟩ }
def mirrored : State :=
  { ((idle.set MC_STATUS.STATE 0 2).set MC_STATUS.STATE 1 2) with mem := { idle.mem with mirrors := [(0, 1)] } }
def newImage : State := { idle with fw := { idle.fw with verified := true } }

theorem test_getInfo : accepts idle 4 0x0000 [] cmdGetInfo = true := by decide +kernel
theorem test_getCaps : accepts idle 4 0x0001 [] cmdGetCaps = true := by decide +kernel
theorem test_getTopology : accepts idle 4 0x0002 (zs 8) cmdGetTopology = true := by decide +kernel
theorem test_book :
    accepts withRoom 4 0x0100 (zs 4 ++ [2, 1, 0, 0, 0, 0, 0, 0] ++ zs 8 ++ [1, 0, 0, 0] ++ zs 40) cmdBook = true := by decide +kernel
theorem test_unbook : accepts booked 4 0x0101 ([1, 0, 0, 0] ++ zs 4) cmdUnbook = true := by decide +kernel
theorem test_queryBookings : accepts booked 4 0x0102 (zs 8) cmdQueryBookings = true := by decide +kernel
theorem test_queryCapacity : accepts idle 4 0x0103 (zs 8) cmdQueryCapacity = true := by decide +kernel
theorem test_setPrecedence : accepts booked 4 0x0104 ([1, 0, 0, 0] ++ zs 4) cmdSetPrecedence = true := by decide +kernel
theorem test_defineClass : accepts idle 4 0x0200 (zs 12 ++ [64, 0, 0, 0]) cmdDefineClass = true := by decide +kernel
theorem test_defineGroup : accepts idle 4 0x0201 (zs 40) cmdDefineGroup = true := by decide +kernel
theorem test_bindChannel : accepts served 4 0x0202 (zs 4 ++ [1] ++ zs 19 ++ [6, 6] ++ zs 6) cmdBindChannel = true := by decide +kernel
theorem test_lockChannels : accepts bound 4 0x0203 ([0, 0, 1, 0] ++ zs 4) cmdLockChannels = true := by decide +kernel
theorem test_releaseGroup : accepts served 4 0x0204 (zs 8) cmdReleaseGroup = true := by decide +kernel
theorem test_pair : accepts pairs 4 0x0300 ([0, 0, 1, 0] ++ zs 4) cmdPair = true := by decide +kernel
theorem test_unpair : accepts paired 4 0x0301 (zs 8) cmdUnpair = true := by decide +kernel
theorem test_setWorldTiles : accepts idle 0 0x0400 ([0, 0, 0, 0, 1] ++ zs 11) cmdSetWorldTiles = true := by decide +kernel
theorem test_setBlockWorld : accepts brick0 0 0x0401 [0, 0, 0xFF, 0, 1, 0, 0, 0] cmdSetBlockWorld = true := by decide +kernel
theorem test_poolGrant : accepts idle 4 0x0402 (zs 24) cmdPoolGrant = true := by decide +kernel
theorem test_setNodePolicy : accepts idle 0 0x0403 (zs 8) cmdSetNodePolicy = true := by decide +kernel
theorem test_mirrorChannels : accepts mirrored 0 0x0404 [0, 1, 1, 0, 0, 0, 0, 0] cmdMirrorChannels = true := by decide +kernel
theorem test_maintStart : accepts idle 0 0x0500 ([11] ++ zs 3 ++ [0xFF, 0xFF, 0xFF, 0] ++ zs 8) cmdMaintStart = true := by
  decide +kernel
theorem test_maintStatus : accepts working 4 0x0501 ([1] ++ zs 7) cmdMaintStatus = true := by decide +kernel
theorem test_maintAbort : accepts working 4 0x0502 ([1] ++ zs 7) cmdMaintAbort = true := by decide +kernel
theorem test_retire : accepts idle 0 0x0503 (zs 8) cmdRetire = true := by decide +kernel
theorem test_restoreUnit : accepts brick0 0 0x0504 (zs 8) cmdRestoreUnit = true := by decide +kernel
theorem test_faultLogRead : accepts idle 4 0x0600 (zs 8 ++ [1] ++ zs 7) cmdFaultLogRead = true := by decide +kernel
theorem test_setSeverity : accepts idle 0 0x0601 (zs 16) cmdSetSeverity = true := by decide +kernel
theorem test_faultClear : accepts idle 4 0x0602 (zs 8) cmdFaultClear = true := by decide +kernel
theorem test_stbConfig : accepts idle 0 0x0700 (zs 16) cmdStbConfig = true := by decide +kernel
theorem test_stbStatus : accepts idle 4 0x0701 [] cmdStbStatus = true := by decide +kernel
theorem test_saveListSet : accepts idle 0 0x0800 (zs 48) cmdSaveListSet = true := by decide +kernel
theorem test_saveStatus : accepts idle 4 0x0801 [] cmdSaveStatus = true := by decide +kernel
theorem test_restoreBegin : accepts saved 0 0x0802 (zs 8) cmdRestoreBegin = true := by decide +kernel
theorem test_saveRelease : accepts saved 0 0x0803 [] cmdSaveRelease = true := by decide +kernel
theorem test_constJoin :
    accepts idle 0 0x0900 ([0, 0, 0, 0, 1, 0, 1, 1, 1] ++ zs 7) (cmdConstJoin ⟨[], [], 0, 0, none⟩) = true := by decide +kernel
theorem test_constLeave : accepts member 0 0x0901 (zs 8) (cmdConstLeave false) = true := by decide +kernel
theorem test_constRoute : accepts linked 0 0x0902 ([1, 0, 0, 255] ++ zs 4) cmdConstRoute = true := by decide +kernel
theorem test_journalMirror : accepts member 0 0x0903 ([0, 0, 1, 0, 100] ++ zs 11) (cmdJournalMirror (some true)) = true := by
  decide +kernel
theorem test_vfAssign : accepts withVf 4 0x0A00 ([0, 0, 1, 0, 1] ++ zs 19) cmdVfAssign = true := by decide +kernel
theorem test_vfQuiesce :
    accepts (withVf.set TNT_VF.STATE (vfIdx 0 1) 1) 4 0x0A01 ([0, 0, 1] ++ zs 5) cmdVfQuiesce = true := by decide +kernel
theorem test_vfResume :
    accepts (withVf.set TNT_VF.STATE (vfIdx 0 1) 3) 4 0x0A02 ([0, 0, 1] ++ zs 5) cmdVfResume = true := by decide +kernel
theorem test_powerLimit : accepts idle 0 0x0B00 [0xE8, 3, 0xE2, 4, 10, 0, 0, 0] cmdPowerLimit = true := by decide +kernel
theorem test_thermalStatus : accepts idle 4 0x0B01 [] cmdThermalStatus = true := by decide +kernel
theorem test_setVotePolicy : accepts idle 0 0x0B02 [0, 0, 0xFF, 0, 0, 0, 0, 0] cmdSetVotePolicy = true := by decide +kernel
theorem test_debugAuthChallenge : accepts idle 0 0x0C00 (zs 8) cmdAuthChallenge = true := by decide +kernel
theorem test_debugRevoke : accepts idle 0 0x0C01 (zs 8) cmdDebugRevoke = true := by decide +kernel
theorem test_fwStage : accepts idle 0 0x0D00 (zs 4 ++ [1, 0, 0, 0, 0, 1] ++ zs 14 ++ [7]) cmdFwStage = true := by decide +kernel
theorem test_fwActivate : accepts newImage 0 0x0D01 (zs 8) cmdFwActivate = true := by decide +kernel
theorem test_counterGrant : accepts idle 4 0x0E00 (zs 16) cmdCounterGrant = true := by decide +kernel
theorem test_counterRevoke : accepts (idle.set CTR_USER_MAP.VALID 0 1) 4 0x0E00 (1 :: zs 15) cmdCounterRevoke = true := by
  decide +kernel
theorem test_counterRead : accepts idle 4 0x0E00 (2 :: zs 15) cmdCounterRead = true := by decide +kernel
theorem test_counterSet : accepts idle 4 0x0E00 (3 :: zs 15) cmdCounterSet = true := by decide +kernel

/-! ### States that meet the hypotheses of the statements -/

def restarting : State := { idle with keeper := { idle.keeper with restarting := some 0 } }
def diverged : State := { idle with keeper := { idle.keeper with lastDiv := some 0 } }
def openBox : State := (idle.set MBX_STATUS.READY 4 1).set MBX_CFG.PATH 4 0
def twoWait : State := openBox.setBox 4 { Mailbox.empty with waiting := [⟨zs 256, 0, 0⟩, ⟨zs 256, 0, 0⟩] }
def resetting : State := openBox.setBox 4 { Mailbox.empty with resetting := true }
def lateTaken : Taken := { taken 0x0500 (zs 8) with bound := 10 }
def late : State := idle.setBox 4 { Mailbox.empty with taken := [lateTaken] }
def alerting : State := { idle with pins := { idle.pins with smbalertN := false } }
def anEvent : FaultEvt := { coll := .chip, bit := 8 }
def bucket : State := idle.set FLT_SRC.LEVEL (srcIdx .chip 8) 1
-- more
def anElem : ElemBucket := ⟨.region 0, 11, 3, 2, 0, 0, false⟩
def elemBucket : State := { idle with faults := { idle.faults with elems := [anElem] } }
def latchedBusy : State := ((idle.raise { coll := .chip, bit := 25 }).set FLT_SRC.EVENTS (srcIdx .chip 25) 3)
def noPend (s : State) : State := { s with faults := { s.faults with pend := [] } }
def aRec : PendRec := ⟨{ coll := .chip, bit := 25 }, 0, 2, 0, 0, 0, 0, 1, 0, false⟩
def pending1 : State := { idle with faults := { idle.faults with pend := [aRec] } }
def running1 : Activity := { newAct 11 0x00FFFFFF 0 .keeper with id := 1, state := 1 }
def active1 : State := { idle with maint := ⟨[running1], 2⟩ }
def retiring0 : State := { brick0 with units := { brick0.units with retiring := [(0, 0)] } }
def patrol : Activity := { newAct 0 0x0000020C 0 .keeper with id := 1, state := 1 }
def patrolled : State :=
  { ((idle.set MEM_NODE.CAPACITY 0 1).set MEM_NODE.PATROL_H 0 1) with
    maint := ⟨[patrol], 2⟩, mem := { idle.mem with members := [(0, [16])] } }
def scrubbing : State := { idle with mem := { idle.mem with scrub := [(0, [7])] } }
def holding : State := { idle with crs := { idle.crs with holds := [0] } }
def stalled : State := { idle with crs := { idle.crs with stalls := [⟨0, .width true, none, false⟩] } }
def aPkt : Pkt := { cls := 3, op := 1, txn := 0, dest := 0, src := 0, line := 0, tag := 1, standing := true }
def inFlight (p : Pkt) (x : Place) : State := { idle with fab := { idle.fab with net := [⟨p, x, 0, 0, [], none⟩] } }
def triggered : State := { idle with alm := { idle.alm with trigs := [⟨0, [], false, 0⟩] } }
def pulsed : State := { (idle.set STB_STATE.SOURCE 0 1) with clock := { idle.clock with lastEdge := some 0 } }
def disciplined : State := idle.set STB_STATE.STATE 0 1
def resyncing : State := { active1 with clock := { idle.clock with resync := some ⟨1, 0, 0, 0, 0, false, 0, false, 0⟩ } }
def replicaOff : State := idle.setReplica 0 ⟨0, none, 0, false, 5, 0, none, none, 0⟩
def replicaHeld : State := idle.setReplica 0 ⟨0, none, 0, false, 0, 0, none, some 3, 0⟩
def testing : State := { ((idle.set CORE_PAIR.STATE 0 4).set CORE_PAIR.PARTNER 0 1) with units := { idle.units with testing := [0, 1] } }
def lockedDown : State := { idle with locked := true }
def hartOn : State := { brick0 with harts := [(0, { Hart.init with released := true })] }
def secureHart : State := hartOn.set MWORLD.WORLD 0 1
def userHart : State :=
  ((hartOn.setHart 0 { hartOn.hart 0 with priv := 0 }).set MXBCFG.WS_EN 0 1).set SXBCFG.TX_U 0 1
def engineOn : State :=
  ((idle.set IEC_CFG.ENABLE 0 1).set IEC_RANGE.VALID 0 1).set IEC_RANGE.BASE 0 1
def anAccess : EngAcc := ⟨0x200000, false, 8, [], none⟩
def missing : State := engineOn.setEng 0 ⟨[], [], some anAccess, none, []⟩
def evicting : State := engineOn.setEng 0 ⟨[], [], some anAccess, some (0, ⟨0, 0, 0, 0⟩), []⟩
def supervisor : State := (hartOn.setHart 0 { hartOn.hart 0 with priv := 1 }).setCsr 0 0x180 0x8000000000000000
def coreChan : Channel := { aChannel 0 with srcKind := 0 }
def coreBound : State := { bound with svc := { bound.svc with channels := [(0, coreChan)] } }
def ready1 : State := { bound with svc := { bound.svc with channels := [(0, { coreChan with sqTail := 1 })] } }
def fetching : State := ready1.set IE_STATUS.ENABLED 0 1
def aDesc : Desc := ⟨0, 0, 0, [], 0, false, 3⟩
def descRead : State := { bound with svc := { bound.svc with descs := [aDesc] } }
def anAnswer : Answer := ⟨0, 0, 0, 0, 0, 0, 0, 0, 0, 0, 0, [], none, 3⟩
def answering : State := { bound with svc := { bound.svc with answers := [anAnswer] } }
def anOp : Op := ⟨0, 0, none, 0, 0, 0, 0, 0, 0, 0, 0, 100, 10, 0, .running, some 0, 0, 0, 16, 0, 0, false, [], false, none, none⟩
def holdingOp : State :=
  { ((hartOn.set DSP_CORE.HOLDING 0 1).set DSP_CORE.IN_GROUP 0 1) with
    svc := { hartOn.svc with ops := [(0, anOp)], runs := [(0, ⟨0, 10, none, none, none, 0, none⟩)],
                             classes := [(0, { aClass with cflags := 1 })] } }
def waitingHart : State := { hartOn with svc := { hartOn.svc with runs := [(0, ⟨0, 0, none, some (1, 0, 3), none, 0, none⟩)] } }
def answered : State :=
  { ((hartOn.set DSP_CORE.HOLDING 0 1).set DSP_CORE.IN_GROUP 0 1) with
    svc := { hartOn.svc with runs := [(0, ⟨0, 10, some (0, 1), none, none, 1, none⟩)] } }
def committing : State := { hartOn with svc := { hartOn.svc with runs := [(0, ⟨0, 10, none, none, some (1, 0, 0, 3), 0, none⟩)] } }
def grouped (s : State) : State := s.set DSP_CORE.IN_GROUP 0 1
def aBlock : DrainBlock := ⟨0, 0, [0], 0, 0, 0, false⟩
def draining : State :=
  { ((idle.set JNL_DRAIN.ENABLE 0 1).set JNL_DRAIN.WAIT_FRAMES 0 1) with jnl := { idle.jnl with drains := [(0, ⟨1, [aBlock], 0, 0⟩)] } }
def sentBlock : DrainBlock := { aBlock with issued := 1 }
def drainSent : State := draining.setDrain 0 ⟨1, [sentBlock], 0, 0⟩
def withRam (s : State) : State := { s.set MEM_NODE.CAPACITY 0 1 with mem := { s.mem with members := [(0, [16])] } }
def committer : State := withRam ((holdingOp.setX 0 2 1).setX 0 1 64)
def rungChan : Channel := { coreChan with sqTail := 1 }
def toSpine : Pkt := { cls := 3, op := 1, txn := 0, dest := 0x0C00, src := 0, line := 0 }
def aDie : Die := ⟨true, true, 0, 0, 0x7FFF, 0⟩
def aBoard : Board := ⟨[(0, aDie), (1, aDie)], [], [], [], 0, 0, 0, false, [], [], [], []⟩
def boarded : State := { brick0 with board := some aBoard }
def goodFlit : List Byte := (zs 508) ++ leBytes 4 3965168067
def aRemap : Stall := ⟨0, .remap 0 0, none, false⟩
def remapping : State := { brick0 with crs := { brick0.crs with stalls := [aRemap], dirs := [(0, { FlitDir.init with map := List.range 64 })] } }
def waitData : State := { brick0 with crs := { brick0.crs with wrAddr := [(0, 0xFFF0100000000)] } }
def longWait : State := inFlight toSpine (.waiting 16 0)
def heldPort : State := idle.setTenure 0 ⟨some 3, false, 0, 16, 4096, 0, 0, [], [], 0⟩
def darkWire : State := { idle with crs := { idle.crs with wireLost := [(0, 0)] } }
def home0 : Nat := sliceCode 0
def shareReq : Pkt := { cls := 3, op := 1, txn := 0, dest := home0, src := 0, line := 0 }
def asOp (n : Nat) : Pkt := { shareReq with op := n }
def withData (p : Pkt) : Pkt := { p with data := zs 64 }
def ram : State := withRam idle
def snoopPkt (n : Nat) : Pkt := { cls := 2, op := n, txn := 0, dest := 0, src := home0, line := 0, operand := 1 }
def mcReq (n : Nat) : Pkt := { cls := 3, op := n, txn := 0, dest := mcCode 16, src := home0, line := 0, data := zs 64 }
def arrived (s : State) (p : Pkt) : State :=
  { s with fab := { s.fab with net := [⟨p, .ejected (unitRegion p.dest) (unitStop p.dest) 0, 0, 0, [], none⟩] } }
def queuedMc (s : State) (p : Pkt) : State := { s with mem := { s.mem with queue := [⟨16, true, p⟩] } }
def aTxn : Txn := { slice := 0, line := 0, req := shareReq, start := 0 }
def open1 (x : Txn) (p : Pkt) : State := arrived { ram with fab := { ram.fab with txns := [x] } } p
def partPkt : Pkt := { cls := 0, op := 3, txn := 0, dest := unitCode 0 12 0, src := 0, line := 0, operand := 1 }
def aCombine : Combine := ⟨0, { snoopPkt 1 with dest := unitCode 0 12 0 }, [0, 1], 0⟩
def combining : State := arrived { idle with fab := { idle.fab with combines := [aCombine] } } partPkt
def sumPkt : Pkt := { cls := 0, op := 4, txn := 0, dest := home0, src := 0, line := 0, operand := 1 }
def flushPkt : Pkt := { cls := 1, op := 2, txn := 0, dest := home0, src := 0, line := 0, data := zs 64 }
def donePkt : Pkt := { cls := 0, op := 5, txn := 0, dest := home0, src := mcCode 16, line := 0 }
def seenPkt : Pkt := { cls := 0, op := 2, txn := 0, dest := home0, src := 0, line := 0 }
def corePkt (c n : Nat) : Pkt := { cls := c, op := n, txn := 0, dest := 0, src := home0, line := 0, data := zs 64 }
def aLine : CLine := ⟨0, .s, zs 64, false, false, 0, some 3, false, false⟩
def filled : State :=
  { ((idle.set DIE_ID.UP 1 1).set PWR_DOMAIN.ON 0 1).set BLK_FREQ.REQ 0 104 with fab := { idle.fab with lines := [((0, 0), aLine)] } }
def anAcc : Access := { kind := .load, vaddr := 0, size := 8 }
def regPkt (n : Nat) : Pkt :=
  { cls := 3, op := n, txn := 0, dest := (regUnit 0xFFF080C200430).getD 0, src := 0, line := 0xFFF080C200430 / 64,
    operand := 0x30 + 7 * 64, data := zs 64 }
def mcRegPkt (n : Nat) : Pkt :=
  { cls := 3, op := n, txn := 0, dest := (regUnit 0xFFF007C030000).getD 0, src := 0, line := 0xFFF007C030000 / 64,
    operand := 7 * 64, data := zs 64 }
def endpoint : State :=
  { ((idle.set PCIE_PORT_STATUS.ROLE 0 2).set PCIE_PORT_STATUS.EP_READY 0 1) with pins := { idle.pins with epPerst := 1 } }
def unready : State := { (idle.set PCIE_PORT_STATUS.ROLE 0 2) with pins := { idle.pins with epPerst := 1 } }
def opened : State := endpoint.setCfg (fnIdx 0 0) 0x04 2 6
def atomicReq : Pkt := { asOp 10 with operand := 128 }
def sumTxn : Txn := { aTxn with sums := [0], started := true }
def zeroTxn : Txn := { aTxn with req := asOp 3, started := true }
def writeTxn : Txn := { aTxn with wr := true, started := true }
def grantTxn : Txn := { aTxn with granted := true, started := true }
def startTxn : Txn := { aTxn with started := true }
def withFn1 : State := withVf
def aReset : FnReset := ⟨0, 0, 0, 0, 0⟩
def fnResetting : State := { endpoint with pcie := { endpoint.pcie with resets := [aReset] } }
def plainEndpoint : State := idle.set PCIE_PORT_STATUS.ROLE 0 2
def aRead : PcieRead := ⟨0, 0, 0, Asker.load 0, 0, none⟩
def aHold : TagHold := ⟨0, 0, 0, 0, true⟩
def loudHold : TagHold := ⟨0, 0, 0, 0, false⟩
def readOut : State := { endpoint with pcie := { endpoint.pcie with reads := [aRead] } }
def held1 (x : TagHold) : State := { endpoint with pcie := { endpoint.pcie with holds := [x] } }
def rootPort : State := (idle.set PCIE_PORT_STATUS.ROLE 0 1).set PCIE_LINK.STATE (linkIdx 0 0) 2
def exported : State := { ((member.set CST_EXPORT.VALID 0 1)) with mem := ram.mem, regs := ((member.set CST_EXPORT.VALID 0 1).set MEM_NODE.CAPACITY 0 1).regs }
def farReq (n : Nat) : Pkt :=
  { cls := 3, op := n, txn := 0, dest := home0, src := 0, line := 0x8000000000000 / 64, pkg := some 1 }
def aRemote : Remote := ⟨0, 0, 0, 0, 0, false, shareReq⟩
def remote1 (r : Remote) : State := { linked with cst := { linked.cst with remotes := [r] } }
def sleeper : State := hartOn.setHart 0 { hartOn.hart 0 with waiting := true }
def wakeable : State := ((sleeper.setCsr 0 0x304 8).setMip 0 3 true).set PWR_DOMAIN.ON 0 1
def domainOn1 : State := idle.set PWR_DOMAIN.ON 140 1
def eclipsed : State := { idle with pow := { idle.pow with eclipse := true } }
def mayRest : State := (idle.set NF_STATUS.ARMED 0 1).set PWR_DOMAIN.PACKAGE_VOTE 152 0
def hot (k : Nat) : State := { idle with pow := { idle.pow with hot := [(k, 0)] } }
def cool (k : Nat) : State := { idle with pow := { idle.pow with cool := [(k, 0)] } }
def warned : State := { hot 32 with pow := { (hot 32).pow with warn := [0] } }
def burning : State := { idle with pow := { idle.pow with temps := [(0, 1760)] } }
def writing : State := { saved with nf := { saved.nf with writing := some 0 } }
def offable : State := ((((brick0.set PWR_DOMAIN.ON 5 1).set CORE_PWR.STATE 20 3).set CORE_PWR.STATE 21 3).set CORE_PWR.STATE 22 3).set CORE_PWR.STATE 23 3
def oldRemote : Remote := { aRemote with quarantined := true }
def savingNow : State := { idle with nf := { idle.nf with triggered := true } }
def queued1 : State := { idle with pending := [.commandTake 5] }
def ticked : State := { idle with stb := 5 }
def restoring : State := waits saved 0 0x0802 []
def heldImage : State := saved.set NF_STATUS.HELD 0 1
def fromSpine : Pkt := { cls := 1, op := 1, txn := 0, dest := unitCode 0 2 0, src := home0, line := 0, data := zs 64 }
def entering0 (x : Place) : State := { idle with fab := { idle.fab with net := [⟨fromSpine, x, 0, 12, [], none⟩] } }
def armed : State := idle.set NF_STATUS.ARMED 0 1
def translated : State :=
  (((withRam supervisor).setCsr 0 0x180 0x8000000000000001).setCsr 0 0x3A0 0x1F).setCsr 0 0x3B0 0x3FFFFFFFFFFFFF
def meteredPkt : Pkt := { aPkt with dest := home0 }
def atCourse : Flight := ⟨meteredPkt, .ejected 0 6 0, 0, 0, [], none⟩
def metering : State := { idle with fab := { idle.fab with net := [atCourse] } }
def theNeed : Need := ⟨4128, false, 2, 0, 0, 0, none, none⟩
def plain : Pkt := { cls := 0, op := 2, txn := 0, dest := home0, src := 0, line := 0 }
def snoopPart : Pkt := { plain with op := 3 }
def lentReq : ArbReq := (⟨plain, .waiting 0 0, 0, 0, [], none⟩ : Flight).req
def contended : State := { idle with fab := { idle.fab with net := [⟨plain, .waiting 0 0, 0, 0, [], none⟩, ⟨snoopPart, .waiting 0 0, 0, 0, [], none⟩] } }
def lentPort : State := contended.setTenure 0 ⟨some 0, true, 0, 4, 4, 0, 0, [], [], 0⟩
def revocable : State := contended.setTenure 0 ⟨some 0, true, 0, 16, 3, 0, 0, [], [], 0⟩

/-! ### The CRC of flits -/

theorem crc_zeros_1 : (zs 127).foldl crcByte 4294967295 = 2705689140 := by decide +kernel
theorem crc_zeros_2 : (zs 127).foldl crcByte 2705689140 = 549633433 := by decide +kernel
theorem crc_zeros_3 : (zs 127).foldl crcByte 549633433 = 4050580991 := by decide +kernel
theorem crc_zeros_4 : (zs 127).foldl crcByte 4050580991 = 329799228 := by decide +kernel

theorem crc_of (bs : List Byte) (n : Nat) (h : bs.foldl crcByte 0xFFFFFFFF = n) : crc32c bs = n ^^^ 0xFFFFFFFF := by
  unfold crc32c; rw [h]

theorem fold_four (a b c d : List Byte) (n p q r m : Nat) (ha : a.foldl crcByte n = p) (hb : b.foldl crcByte p = q)
    (hc : c.foldl crcByte q = r) (hd : d.foldl crcByte r = m) : (a ++ (b ++ (c ++ d))).foldl crcByte n = m := by
  rw [List.foldl_append, List.foldl_append, List.foldl_append, ha, hb, hc, hd]

theorem zeros_eq : zs 127 ++ (zs 127 ++ (zs 127 ++ zs 127)) = zs 508 := by decide +kernel

theorem crc_zeros : crc32c (zs 508) = 329799228 ^^^ 0xFFFFFFFF :=
  zeros_eq ▸ crc_of _ _ (fold_four _ _ _ _ _ _ _ _ _ crc_zeros_1 crc_zeros_2 crc_zeros_3 crc_zeros_4)

theorem flitGood_of (f b : List Byte) (n : Nat) (e : f.take 508 = b) (h : crc32c b = n) :
    flitGood f = (f.length == 512 && n == leAt f 508 4) := by
  unfold flitGood; rw [e, h]

/-- The check value of CRC-32C: that of the characters 1 to 9. -/
theorem test_crc32c : crc32c [0x31, 0x32, 0x33, 0x34, 0x35, 0x36, 0x37, 0x38, 0x39] = 0xE3069283 := by decide +kernel

theorem test_flitGood : flitGood goodFlit = true :=
  (flitGood_of _ _ _ (by decide +kernel) crc_zeros).trans (by decide +kernel)

theorem test_flitBad : flitGood (zs 512) = false :=
  (flitGood_of _ _ _ (by decide +kernel) crc_zeros).trans (by decide +kernel)


/-! ### The hypotheses of each clause of each statement, met together -/

theorem met_KeeperRestarts :
    (idle.up = true ∧ idle.keeper.restarting = none ∧ (∀ (d : Stamp), idle.keeper.lastDiv = some d → hourTicks ≤ (idle.advance 5).stb - d)) ∧
    (diverged.up = true ∧ diverged.keeper.restarting = none ∧ diverged.keeper.lastDiv = some 0 ∧ (diverged.advance 5).stb - 0 < hourTicks) ∧
    (restarting.up = true ∧ restarting.keeper.restarting = some 0 ∧ restarting.keeper.held = []) := 
  ⟨⟨by decide +kernel, by decide +kernel, fun _ h => nomatch h⟩,
    by decide +kernel,
    by decide +kernel⟩
theorem met_CommandDoorbellCopies :
    (openBox.up = true ∧ 4 < 64 ∧ openBox.pathOk 4 (Via.core 0 false) = true ∧ (openBox.box 4).resetting = false ∧ openBox.fld MBX_STATUS.READY 4 ≠ 0 ∧ (2 % 32 + 32 - openBox.fld MBX_STATUS.CMD_HEAD 4) % 32 ≤ 16 ∧ (openBox.box 4).waiting.length ≤ (2 % 32 + 32 - openBox.fld MBX_STATUS.CMD_HEAD 4) % 32) := by decide +kernel
theorem met_CommandDoorbellRefused :
    ((idle.set MBX_CFG.PATH 4 0).up = true ∧ 4 < 64 ∧ (idle.set MBX_CFG.PATH 4 0).pathOk 4 (Via.core 0 false) = true ∧ ((idle.set MBX_CFG.PATH 4 0).box 4).resetting = false ∧ (idle.set MBX_CFG.PATH 4 0).fld MBX_STATUS.READY 4 = 0) ∧
    (openBox.up = true ∧ 4 < 64 ∧ openBox.pathOk 4 (Via.core 0 false) = true ∧ (openBox.box 4).resetting = false ∧ openBox.fld MBX_STATUS.READY 4 ≠ 0 ∧ 16 < (17 % 32 + 32 - openBox.fld MBX_STATUS.CMD_HEAD 4) % 32) ∧
    (twoWait.up = true ∧ 4 < 64 ∧ twoWait.pathOk 4 (Via.core 0 false) = true ∧ (twoWait.box 4).resetting = false ∧ twoWait.fld MBX_STATUS.READY 4 ≠ 0 ∧ (1 % 32 + 32 - twoWait.fld MBX_STATUS.CMD_HEAD 4) % 32 ≤ 16 ∧ (1 % 32 + 32 - twoWait.fld MBX_STATUS.CMD_HEAD 4) % 32 < (twoWait.box 4).waiting.length) := by decide +kernel
theorem met_MailboxPointersAndReset :
    (openBox.up = true ∧ 4 < 64 ∧ openBox.pathOk 4 (Via.core 0 false) = true ∧ openBox.keeper.restarting = none ∧ (0 % 32 + 32 - openBox.fld MBX_CMP_HEAD.CMP_HEAD 4) % 32 ≤ openBox.cmpUsed 4 ∧ (0 % 64 + 64 - openBox.fld MBX_EVT_HEAD.EVT_HEAD 4) % 64 ≤ openBox.evtUsed 4) ∧
    (openBox.up = true ∧ 4 < 64 ∧ openBox.pathOk 4 (Via.core 0 false) = true) ∧
    (resetting.up = true ∧ 4 < 64 ∧ (resetting.box 4).resetting = true) := by decide +kernel
theorem met_CommandsTakenAndEnded :
    (twoWait.up = true ∧ twoWait.keeper.restarting = none ∧ twoWait.keeper.activate = none ∧ (twoWait.advance 5000).firstBox = some 4) ∧
    (late.up = true ∧ late.keeper.restarting = none) ∧
    (idle.up = true ∧ idle.keeper.restarting = none) := by decide +kernel
theorem met_SidebandBus :
    (idle.up = true ∧ idle.pow.eclipse = false ∧ 4 < 64 ∧ 256 % 8 = 0 ∧ 256 < 16384) ∧
    (idle.up = true ∧ idle.pow.eclipse = false ∧ (zs 8).length % 8 = 0 ∧ 8 ≤ (zs 8).length ∧ (zs 8).length ≤ 32) ∧
    (idle.up = true ∧ idle.pow.eclipse = false) ∧
    (alerting.up = true ∧ alerting.pins.smbalertN = false) ∧
    idle.up = true := by decide +kernel
theorem met_FaultEventsCollected :
    (idle.up = true ∧ (FaultEvt.mk Coll.chip 25 none 0 [] 0 none).coll.source (FaultEvt.mk Coll.chip 25 none 0 [] 0 none).bit = some (Source.mk 2 false 0 0 ElemKind.none)) ∧
    (((idle.set FLT_SRC.LEVEL (srcIdx (Coll.cell 12 0 0) 0) 1).set FLT_SRC.LEAK_MS (srcIdx (Coll.cell 12 0 0) 0) 1).up = true ∧ Option.map Source.elem ((Coll.cell 12 0 0).source 0) = some ElemKind.none ∧ ((idle.set FLT_SRC.LEVEL (srcIdx (Coll.cell 12 0 0) 0) 1).set FLT_SRC.LEAK_MS (srcIdx (Coll.cell 12 0 0) 0) 1).fld FLT_SRC.LEVEL (srcIdx (Coll.cell 12 0 0) 0) ≠ 0 ∧ ((idle.set FLT_SRC.LEVEL (srcIdx (Coll.cell 12 0 0) 0) 1).set FLT_SRC.LEAK_MS (srcIdx (Coll.cell 12 0 0) 0) 1).fld FLT_SRC.LEAK_MS (srcIdx (Coll.cell 12 0 0) 0) ≠ 0) ∧
    ((elemBucket.set FLT_SRC.LEAK_MS (srcIdx (Coll.region 0) 11) 1).up = true ∧ (elemBucket.set FLT_SRC.LEAK_MS (srcIdx (Coll.region 0) 11) 1).faults.elems = [anElem] ∧ anElem.coll = Coll.region 0 ∧ anElem.bit = 11 ∧ anElem.elem = 3 ∧ anElem.level ≠ 0 ∧ ((elemBucket.set FLT_SRC.LEAK_MS (srcIdx (Coll.region 0) 11) 1).elemCfg (Coll.region 0) 11 3).snd ≠ 0) ∧
    (pending1.up = true ∧ pending1.keeper.restarting = none) ∧
    ((noPend latchedBusy).up = true ∧ (noPend latchedBusy).keeper.restarting = none ∧ (noPend latchedBusy).busySources = [(Coll.chip, 25)] ∧ (noPend latchedBusy).latched Coll.chip 25 = true ∧ 2 ≤ (noPend latchedBusy).latchSev Coll.chip 25 ∧ ((noPend latchedBusy).faults.pend.any fun r => r.evt.coll == Coll.chip && r.evt.bit == 25) = false) := by decide +kernel
theorem met_RaiseLatches :
    ((FaultEvt.mk Coll.chip 25 none 0 [] 0 none).coll.source (FaultEvt.mk Coll.chip 25 none 0 [] 0 none).bit = some (Source.mk 2 false 0 0 ElemKind.none) ∧ (FaultEvt.mk Coll.chip 25 none 0 [] 0 none).bit < 64) := by decide +kernel
theorem met_MaintenanceActivities :
    (idle.up = true ∧ idle.keeper.restarting = none) ∧
    (active1.up = true ∧ active1.activity 1 = some running1 ∧ (active1.advance 5).mayEnd running1 = true) ∧
    (retiring0.up = true ∧ (lookupKey 0 retiring0.units.retiring).isSome = true) ∧
    (patrolled.up = true ∧ List.find? (fun a => a.code == 0 && a.node == some 0 && a.pausers.isEmpty && Decidable.decide (a.param < patrolled.nodeLines 0)) patrolled.running = some patrol ∧ ((patrolled.memberAt (64 * (slotBase 0 / 64 + patrol.param))).bind fun q => patrolled.server q.fst) = some 16 ∧ patrolled.fld MC_STATUS.QLEVEL 16 = 0) ∧
    (patrolled.up = true ∧ 0 < 4 ∧ List.find? (fun a => a.code == 0 && a.node == some 0 && a.pair == 0) patrolled.running = some patrol ∧ patrolled.fld MEM_NODE.PATROL_H 0 ≠ 0 ∧ patrol.start + patrolled.fld MEM_NODE.PATROL_H 0 * 21600000000000 ≤ (patrolled.advance 21600000000000).stb) ∧
    (scrubbing.up = true ∧ nget scrubbing.mem.scrub 0 [] = [7] ∧ scrubbing.sharedFree 0 = true) ∧
    (holding.up = true ∧ holding.crs.holds = [0]) ∧
    (stalled.up = true ∧ List.find? (fun x => x.course == 0) stalled.crs.stalls = some (Stall.mk 0 (Change.width true) none false) ∧ (stalled.advance 5).stalledNow 0 = false) := by decide +kernel
theorem met_RegisterWritesAndCounters :
    (idle.up = true ∧ ownRow 4502500115742720 = false) ∧
    (idle.up = true ∧ namesReg Reg.CTR_CFG 4502534679887960 = true) ∧
    (idle.up = true ∧ namesReg Reg.BLK_CLK_CTRL 4502534742868232 = true) ∧
    (idle.up = true ∧ namesReg Reg.WLD_BLK_SEC 4502536623225856 = true) ∧
    (idle.up = true ∧ namesReg Reg.WLD_BLK_SEC 4502536623225856 = true) ∧
    (idle.up = true ∧ namesReg Reg.CORE_PWR 4502534678905904 = true) ∧
    (idle.up = true ∧ namesReg Reg.JNL_DRAIN 4502502263488768 = true) ∧
    (idle.up = true ∧ namesReg Reg.CST_MSG_SEND 4502502196314128 = true) ∧
    (idle.up = true ∧ namesReg Reg.CTR_VALUE 4502534679888088 = true) ∧
    ((idle.set CTR_CFG.EVENT 0 1).up = true ∧ 0 ≤ 8856 ∧ 0 < bankSize 0 ∧ ((idle.set CTR_CFG.EVENT 0 1).advance 5).hiddenCount 0 0 = true) ∧
    (((idle.set CTR_CFG.EVENT 0 15).set CTR_VALUE.COUNT 0 281474976710655).up = true ∧ 0 ≤ 8856 ∧ 0 < bankSize 0 ∧ (((idle.set CTR_CFG.EVENT 0 15).set CTR_VALUE.COUNT 0 281474976710655).advance 5).hiddenCount 0 0 = false ∧ 2 ^ 48 ≤ ((((idle.set CTR_CFG.EVENT 0 15).set CTR_VALUE.COUNT 0 281474976710655).advance 5).countParts 0 0).fst.fst) := by decide +kernel
theorem met_MisalignedRegisterAccessRefused :
    (¬(4 = 8 ∧ 4502500115742722 % 8 = 0) ∧ ¬(4 = 4 ∧ 4502500115742722 % 4 = 0)) := by decide +kernel
theorem met_ProtectedFieldsIgnoreWrites :
    (lockedDown.locked = true ∧ IEC_CFG.ENABLE.acc = Acc.rwl) := by decide +kernel
theorem met_FieldReadsBack :
    CTR_CFG.EVENT.lo + CTR_CFG.EVENT.w ≤ 64 ∧
    (CTR_CFG.EVENT.lo + CTR_CFG.EVENT.w ≤ 64 ∧ CTR_CFG.EVENT.lo + CTR_CFG.EVENT.w ≤ 64 ∧ (CTR_CFG.EVENT.reg ≠ CTR_CFG.EVENT.reg ∨ 3 ≠ 4 ∨ CTR_CFG.EVENT.word ≠ CTR_CFG.EVENT.word ∨ CTR_CFG.EVENT.lo + CTR_CFG.EVENT.w ≤ CTR_CFG.EVENT.lo ∨ CTR_CFG.EVENT.lo + CTR_CFG.EVENT.w ≤ CTR_CFG.EVENT.lo)) := by decide +kernel
theorem met_AlmanacWorks :
    (triggered.up = true ∧ triggered.alm.trigs ≠ []) ∧
    (metering.up = true ∧ meterNode meteredPkt = some 0 ∧ List.findIdx? (fun f => f.pkt == meteredPkt && f.pkt.unmetered && f.point.isSome) metering.fab.net = some 0 ∧ metering.fab.net[0]? = some atCourse ∧ ((metering.meterRivals atCourse).any fun g => Decidable.decide (turnRank (metering.turn (2000 + atCourse.point.getD 0)) g.pointSource < turnRank (metering.turn (2000 + atCourse.point.getD 0)) atCourse.pointSource)) = false) ∧
    (idle.up = true ∧ 16 < 80) := by decide +kernel
theorem met_MeteringTakesUnits :
    (meterDirs meteredPkt.op = [0] ∧ metering.fab.net[0]? = some atCourse) := by decide +kernel
theorem met_BookAddsTheBooking :
    (List.find? Prod.snd (bookChecks (zs 4 ++ [2, 1, 0, 0, 0, 0, 0, 0] ++ zs 8 ++ [1, 0, 0, 0] ++ zs 40)) = none ∧ withRoom.bookDenied (Caller.mk 4 none 0 none [] none) (withRoom.bookingOf (Caller.mk 4 none 0 none [] none) (zs 4 ++ [2, 1, 0, 0, 0, 0, 0, 0] ++ zs 8 ++ [1, 0, 0, 0] ++ zs 40)) = none ∧ (List.filter withRoom.heldBooking withRoom.alm.books).length < 16384 ∧ (withRoom.bookingOf (Caller.mk 4 none 0 none [] none) (zs 4 ++ [2, 1, 0, 0, 0, 0, 0, 0] ++ zs 8 ++ [1, 0, 0, 0] ++ zs 40)).id ≠ 0 ∧ withRoom.fits (Caller.mk 4 none 0 none [] none) (withRoom.bookingOf (Caller.mk 4 none 0 none [] none) (zs 4 ++ [2, 1, 0, 0, 0, 0, 0, 0] ++ zs 8 ++ [1, 0, 0, 0] ++ zs 40)) = true ∧ (Caller.mk 4 none 0 none [] none).caps = []) := by decide +kernel
theorem met_NoOvercommitment :
    ((cmdBook (Caller.mk 4 none 0 none [] none) (zs 4 ++ [2, 1, 0, 0, 0, 0, 0, 0] ++ zs 8 ++ [1, 0, 0, 0] ++ zs 40) withRoom).final = some (Final.mk stOk 0 [1, 0, 0, 0, 1, 0, 0, 0, 0, 0, 0, 0, 99, 0, 0, 0]) ∧ 180 ∈ (withRoom.bookingOf (Caller.mk 4 none 0 none [] none) (zs 4 ++ [2, 1, 0, 0, 0, 0, 0, 0] ++ zs 8 ++ [1, 0, 0, 0] ++ zs 40)).touches ∧ demandOn (withRoom.countedFor (Caller.mk 4 none 0 none [] none)) 180 ≤ (withRoom.capsFor (Caller.mk 4 none 0 none [] none) 180).fst) := by decide +kernel
theorem met_TimeBaseEvents :
    (pulsed.up = true ∧ pulseValid pulsed.clock.lastEdge (25 * 4000000000 + 0) = true ∧ pulsed.fld STB_STATE.SOURCE 0 = 1 ∧ 25 * 4000000000 + 0 + 50 ≤ 25 * (pulsed.advance 4000000002).stb ∧ 25 * (pulsed.advance 4000000002).stb ≤ 25 * 4000000000 + 0 + 75) ∧
    (disciplined.up = true ∧ (disciplined.fld STB_STATE.STATE 0 = 1 ∨ disciplined.fld STB_STATE.STATE 0 = 2) ∧ disciplined.clock.resync = none ∧ if true = true then disciplined.clock.lastGood + 4400000000 ≤ (disciplined.advance 4400000000).stb else 8 ≤ disciplined.clock.refBad ∧ disciplined.fld STB_STATE.SOURCE 0 = 1) ∧
    ((idle.set STB_STATE.STATE 0 3).up = true ∧ (idle.set STB_STATE.STATE 0 3).fld STB_STATE.STATE 0 = 3 ∧ (idle.set STB_STATE.STATE 0 3).clock.holdAt + 4000000000 * (idle.set STB_STATE.STATE 0 3).fld STB_CTRL.HOLDOVER_S 0 ≤ ((idle.set STB_STATE.STATE 0 3).advance (4000000000 * 86400)).stb) ∧
    (resyncing.up = true ∧ resyncing.clock.resync = some (Resync.mk 1 0 0 0 0 false 0 false 0) ∧ (Resync.mk 1 0 0 0 0 false 0 false 0).start + msTicks 3000 ≤ (resyncing.advance 12000000000).stb) ∧
    (idle.up = true ∧ 32768 % 32768 = 0 ∧ idle.stb ≤ 32768) := by decide +kernel
theorem met_TimersAndReplicas :
    (idle.up = true ∧ 0 < 288 ∧ 64 * BitVec.toNat (idle.csr 0 csrStimecmp) ≤ (idle.advance 5).regionStb (0 / 24)) ∧
    (idle.up = true ∧ 0 < 288 ∧ 64 * BitVec.toNat (idle.csr 0 csrVstimecmp) ≤ (idle.advance 5).regionStb (0 / 24)) ∧
    (idle.up = true ∧ (idle.advance 32768).markerDue 0 = true) ∧
    (replicaOff.up = true ∧ 0 < 16 ∧ (replicaOff.replica 0).off ≠ 0 ∧ (replicaOff.replica 0).fixed = none ∧ (replicaOff.advance 32768).stb % 32768 = 0 ∧ (replicaOff.replica 0).offAt < frameOf (replicaOff.advance 32768).stb) ∧
    (replicaHeld.up = true ∧ (replicaHeld.replica 0).hold = some 3 ∧ 3 ≤ (replicaHeld.advance 5).stb) := by decide +kernel
theorem met_PairsDivergeAndReturn :
    (paired.up = true ∧ 0 < 288 ∧ paired.fld CORE_PAIR.STATE 0 = 2 ∧ paired.is DSP_CORE.HOLDING 0 = false ∧ paired.is DSP_CORE.IN_GROUP 0 = false ∧ paired.fld CORE_PAIR.PARTNER 0 ≠ 0 ∧ paired.fld CORE_PAIR.PARTNER 0 < 288) ∧
    (testing.up = true ∧ testing.fld CORE_PAIR.STATE 0 = 4 ∧ testing.units.testing.contains 0 = true ∧ true = true ∧ testing.fld CORE_PAIR.DIVERGENCES 0 < 3) ∧
    (testing.up = true ∧ testing.fld CORE_PAIR.STATE 0 = 4 ∧ testing.units.testing.contains 0 = true ∧ false = false) := by decide +kernel
theorem met_WorldSwitch :
    (secureHart.up = true ∧ Executes secureHart 0 12299 3 ∧ insRs2 12299 = 0 ∧ secureHart.hartSecure 0 = true ∧ (secureHart.hart 0).priv = 3 ∧ secureHart.is CORE_WFRAME.OPEN 0 = false) ∧
    ((secureHart.set CORE_WFRAME.OPEN 0 1).up = true ∧ Executes (secureHart.set CORE_WFRAME.OPEN 0 1) 0 12299 3 ∧ insRs2 12299 = 0 ∧ (secureHart.set CORE_WFRAME.OPEN 0 1).hartSecure 0 = true ∧ ((secureHart.set CORE_WFRAME.OPEN 0 1).hart 0).priv = 3 ∧ (secureHart.set CORE_WFRAME.OPEN 0 1).is CORE_WFRAME.OPEN 0 = true) ∧
    ((hartOn.set MWORLD.BLOCK_WORLD 0 1).up = true ∧ Executes (hartOn.set MWORLD.BLOCK_WORLD 0 1) 0 12299 3 ∧ insRs2 12299 = 0 ∧ (hartOn.set MWORLD.BLOCK_WORLD 0 1).hartSecure 0 = false ∧ (hartOn.set MWORLD.BLOCK_WORLD 0 1).is CORE_WFRAME.OPEN 0 = false ∧ ((hartOn.set MWORLD.BLOCK_WORLD 0 1).hart 0).priv = 3 ∧ (hartOn.set MWORLD.BLOCK_WORLD 0 1).is MWORLD.BLOCK_WORLD 0 = true) ∧
    (userHart.up = true ∧ Executes userHart 0 12299 3 ∧ insRs2 12299 = 0 ∧ userHart.hartSecure 0 = false ∧ userHart.is CORE_WFRAME.OPEN 0 = false ∧ (userHart.hart 0).priv ≠ 3) := 
  ⟨⟨by decide +kernel, ⟨by decide +kernel, by decide +kernel, by decide +kernel, by decide +kernel, by decide +kernel⟩, by decide +kernel, by decide +kernel, by decide +kernel, by decide +kernel⟩,
    ⟨by decide +kernel, ⟨by decide +kernel, by decide +kernel, by decide +kernel, by decide +kernel, by decide +kernel⟩, by decide +kernel, by decide +kernel, by decide +kernel, by decide +kernel⟩,
    ⟨by decide +kernel, ⟨by decide +kernel, by decide +kernel, by decide +kernel, by decide +kernel, by decide +kernel⟩, by decide +kernel, by decide +kernel, by decide +kernel, by decide +kernel, by decide +kernel⟩,
    ⟨by decide +kernel, ⟨by decide +kernel, by decide +kernel, by decide +kernel, by decide +kernel, by decide +kernel⟩, by decide +kernel, by decide +kernel, by decide +kernel, by decide +kernel⟩⟩
theorem met_FencesAndWalks :
    (hartOn.up = true ∧ hartOn.hartRuns 0 = true ∧ hartOn.fenceCause 0 FenceKind.i = none ∧ FenceKind.i = FenceKind.i) ∧
    (hartOn.up = true ∧ hartOn.hartRuns 0 = true ∧ (hartOn.fab.walks.any fun x => x.hart == 0 && x.va / 4096 == 4096 % 2 ^ 64 / 4096) = false ∧ ((hartOn.advance 5).walkBy 0 (4096 % 2 ^ 64) Want.load).fst = Sum.inr (Phys.mk 4096 0)) ∧
    (supervisor.up = true ∧ supervisor.hartRuns 0 = true ∧ (supervisor.fab.walks.any fun x => x.hart == 0 && x.va / 4096 == 1099511627776 % 2 ^ 64 / 4096) = false ∧ ((supervisor.advance 5).walkBy 0 (1099511627776 % 2 ^ 64) Want.load).fst = Sum.inl (WFault.mk 13 0 0 none) ∧ (WFault.mk 13 0 0 none).need = none ∧ lookupKey 0 supervisor.fab.misses = none) ∧
    (translated.up = true ∧ translated.hartRuns 0 = true ∧ (translated.fab.walks.any fun x => x.hart == 0 && x.va / 4096 == 4294967296 % 2 ^ 64 / 4096) = false ∧ ((translated.advance 5).walkBy 0 (4294967296 % 2 ^ 64) Want.load).fst = Sum.inl (WFault.mk 0 0 0 (some theNeed)) ∧ (WFault.mk 0 0 0 (some theNeed)).need = some theNeed) := by decide +kernel
theorem met_EngineCacheServes :
    (engineOn.up = true ∧ 0 < 16 ∧ anAccess.addr % 64 + anAccess.size ≤ 64 ∧ (anAccess.store = true → anAccess.data.length = anAccess.size) ∧ engineOn.is IEC_CFG.ENABLE 0 = true ∧ engineOn.privateOf anAccess.addr = some 0) ∧
    (evicting.up = true ∧ (evicting.eng 0).victim = some (0, EngLine.mk 0 0 0 0) ∧ (evicting.eng 0).miss = some anAccess ∧ anAccess.whole = false ∧ (evicting.advance 5).victimFree 0 anAccess (0, EngLine.mk 0 0 0 0).fst (0, EngLine.mk 0 0 0 0).snd = true) ∧
    (missing.up = true ∧ (missing.eng 0).victim = none ∧ (missing.eng 0).miss = some anAccess ∧ (missing.advance 5).mayTraffic ((missing.advance 5).engUses 0 anAccess) false anAccess.addr 1 = true) := by decide +kernel
theorem met_ChannelsServedAndAnswered :
    (coreBound.up = true ∧ coreBound.behind (Door.engine 0 0) = Sum.inr (0, coreChan) ∧ 3 % 65536 < coreChan.sqSize ∧ coreChan.stopped = false) ∧
    (coreBound.up = true ∧ coreBound.behind (Door.engine 0 0) = Sum.inr (0, coreChan) ∧ 0 % 65536 < coreChan.cqSize ∧ (0 % 65536 + coreChan.cqSize - coreChan.cqHead % coreChan.cqSize) % coreChan.cqSize ≤ coreBound.cqHeld 0 coreChan) ∧
    (bound.up = true ∧ bound.behind (Door.engine 0 9) = Sum.inl 0) ∧
    (fetching.up = true ∧ fetching.fld IE_STATUS.ENABLED 0 ≠ 0 ∧ fetching.is CHIP_SAFE.SAFE 0 = false ∧ 0 < 16 ∧ (List.filter (fun d => d.engine == 0) fetching.svc.descs).length < 8 ∧ List.filter (fun q => (fetching.advance 5).wantsFetch 0 q.fst q.snd) (fetching.engineChans 0) = [(0, rungChan)] ∧ fetching.cqRoom 0 (0, rungChan).fst (0, rungChan).snd = true) ∧
    (descRead.up = true ∧ List.find? (fun d => d.engine == 0 && d.ch == 0 && d.bytes.isEmpty) descRead.svc.descs = some aDesc ∧ descRead.chan 0 = some (aChannel 0) ∧ (aChannel 0).srcKind = 1 ∧ (zs 64).length = 64 ∧ (descRead.advance 5).lateDesc (aChannel 0) 0 = none) ∧
    idle.up = true ∧
    (answering.up = true ∧ List.find? (fun a => a.engine == 0) answering.svc.answers = some anAnswer ∧ (answering.advance 5).answerFree anAnswer = true) := by decide +kernel
theorem met_DispatchAndItsBounds :
    (hartOn.up = true ∧ Executes hartOn 0 139 0 ∧ insRd 139 ≠ 0 ∧ BitVec.toNat (hartOn.xreg 0 (insRs1 139)) % 64 = 0 ∧ (hartOn.is DSP_CORE.HOLDING 0 = true ∨ hartOn.fld DSP_CORE.IN_GROUP 0 = 0)) ∧
    (((grouped hartOn).setX 0 2 5).up = true ∧ Executes ((grouped hartOn).setX 0 2 5) 0 2097291 0 ∧ insRd 2097291 ≠ 0 ∧ BitVec.toNat (((grouped hartOn).setX 0 2 5).xreg 0 (insRs1 2097291)) % 64 = 0 ∧ ((grouped hartOn).setX 0 2 5).is DSP_CORE.HOLDING 0 = false ∧ ((grouped hartOn).setX 0 2 5).fld DSP_CORE.IN_GROUP 0 ≠ 0 ∧ 0 < BitVec.toNat (((grouped hartOn).setX 0 2 5).xreg 0 (insRs2 2097291))) ∧
    (waitingHart.up = true ∧ (waitingHart.run 0).tnext = some (1, 0, 3) ∧ (1, 0, 3).snd.snd ≤ (waitingHart.advance 5).stb) ∧
    (holdingOp.up = true ∧ Executes holdingOp 0 4107 1 ∧ insRs2 4107 = 0) ∧
    (holdingOp.up = true ∧ holdingOp.fld DSP_CORE.HOLDING 0 ≠ 0 ∧ holdingOp.is DSP_CORE.ANSWERED 0 = false ∧ holdingOp.op (holdingOp.fld DSP_CORE.OP_ID 0) = some anOp ∧ anOp.due = true ∧ (holdingOp.run 0).dispatched + anOp.budget ≤ (holdingOp.advance 15).stb) ∧
    (holdingOp.up = true ∧ holdingOp.op 0 = some anOp ∧ anOp.mate = none ∧ anOp.due = true ∧ anOp.deadline ≤ (holdingOp.advance 100).stb + guardTicks) ∧
    (answered.up = true ∧ answered.answerStamp 0 = some 1 ∧ answered.is DSP_CORE.HOLDING 0 = true ∧ answered.is DSP_CORE.IN_GROUP 0 = true ∧ answered.fld DSP_CORE.OUT 0 = 0 ∧ 1 + 32768 ≤ (answered.advance 32769).stb) := 
  ⟨⟨by decide +kernel, ⟨by decide +kernel, by decide +kernel, by decide +kernel, by decide +kernel, by decide +kernel⟩, by decide +kernel, by decide +kernel, by decide +kernel⟩,
    ⟨by decide +kernel, ⟨by decide +kernel, by decide +kernel, by decide +kernel, by decide +kernel, by decide +kernel⟩, by decide +kernel, by decide +kernel, by decide +kernel, by decide +kernel, by decide +kernel⟩,
    by decide +kernel,
    ⟨by decide +kernel, ⟨by decide +kernel, by decide +kernel, by decide +kernel, by decide +kernel, by decide +kernel⟩, by decide +kernel⟩,
    by decide +kernel,
    by decide +kernel,
    by decide +kernel⟩
theorem met_JournalCommitsAndDrains :
    (committer.up = true ∧ Executes committer 0 2138123 2 ∧ 0 < BitVec.toNat (committer.xreg 0 (insRs2 2138123)) ∧ BitVec.toNat (committer.xreg 0 (insRs2 2138123)) ≤ 992 ∧ (committer.advance 5).mayCommit 0 (BitVec.toNat (committer.xreg 0 (insRs2 2138123))) = some anOp) ∧
    ((Access.mk AccKind.jbody 64 1 0 [] false 4 Dst.x 1).kind = AccKind.jbody ∧ (committer.dropMiss 0).mayCommit 0 [0].length = some anOp) ∧
    idle.up = true ∧
    (committing.up = true ∧ committing.svc.runs = [(0, CoreRun.mk 0 10 none none (some (1, 0, 0, 3)) 0 none)] ∧ (CoreRun.mk 0 10 none none (some (1, 0, 0, 3)) 0 none).jcommit = some (1, 0, 0, 3) ∧ 3 ≤ (committing.advance 5).stb) ∧
    (draining.up = true ∧ List.find? (fun b => b.journal == 0 && !b.sent) (draining.drain 0).blocks = some aBlock ∧ draining.drainRuns 0 = true ∧ aBlock.first + 32768 * draining.fld JNL_DRAIN.WAIT_FRAMES 0 ≤ (draining.advance 32768).stb) ∧
    (drainSent.up = true ∧ List.find? (fun b => b.lba == 0 && b.sent && !b.done) (drainSent.drain 0).blocks = some sentBlock ∧ (drainSent.fld JNL_STATUS.DRAIN_HALTED 0).testBit 0 = false ∧ (drainSent.advance 5).drainedFree 0 = true) ∧
    (drainSent.up = true ∧ List.find? (fun b => b.lba == 0 && b.sent && !b.done) (drainSent.drain 0).blocks = some sentBlock ∧ drainSent.drainRuns 0 = true ∧ sentBlock.issued - 1 + msTicks 100 ≤ (drainSent.advance 400000000).stb) := 
  ⟨⟨by decide +kernel, ⟨by decide +kernel, by decide +kernel, by decide +kernel, by decide +kernel, by decide +kernel⟩, by decide +kernel, by decide +kernel, by decide +kernel⟩,
    by decide +kernel,
    by decide +kernel,
    by decide +kernel,
    by decide +kernel,
    by decide +kernel,
    by decide +kernel⟩
theorem met_RingsAndArbiters :
    ((entering0 (Place.waiting 0 6)).up = true ∧ ((entering0 (Place.waiting 0 6)).advance 5).freeLane 0 6 1 = some 0 ∧ ((entering0 (Place.waiting 0 6)).advance 5).nextInject 0 6 1 = some (0, Flight.mk fromSpine (Place.waiting 0 6) 0 12 [] none) ∧ ((entering0 (Place.waiting 0 6)).advance 5).claimed 0 6 1 = false ∧ (((entering0 (Place.waiting 0 6)).advance 5).arriving 0 6 1).isEmpty = true) ∧
    ((entering0 (Place.waiting 0 6)).up = true ∧ 0 < 17 ∧ 1 < 2 ∧ ((entering0 (Place.waiting 0 6)).advance 100000).starved 0 6 1 = true ∧ ((entering0 (Place.waiting 0 6)).advance 100000).claimOpen 0 6 1 = true) ∧
    ((entering0 (Place.riding 0 6 0 0)).up = true ∧ (entering0 (Place.riding 0 6 0 0)).fab.net = [Flight.mk fromSpine (Place.riding 0 6 0 0) 0 12 [] none] ∧ (Flight.mk fromSpine (Place.riding 0 6 0 0) 0 12 [] none).pkt = fromSpine ∧ ((entering0 (Place.riding 0 6 0 0)).advance 35).atStop (Flight.mk fromSpine (Place.riding 0 6 0 0) 0 12 [] none) = some (0, 2, 0, 0) ∧ ((entering0 (Place.riding 0 6 0 0)).advance 35).arrival (Flight.mk fromSpine (Place.riding 0 6 0 0) 0 12 [] none) = some (2, 0, 0) ∧ ((entering0 (Place.riding 0 6 0 0)).advance 35).checked 0 2 fromSpine (Upset.mk 0 []).header (if (unitRegion fromSpine.dest == 0 && !fromSpine.snoops 0) = true then (Flight.mk fromSpine (Place.riding 0 6 0 0) 0 12 [] none).flipped (Upset.mk 0 []).data else []) = (some fromSpine, (entering0 (Place.riding 0 6 0 0)).advance 35)) ∧
    (idle.up = true ∧ portUse 0 0 ≠ PortUse.unused ∧ ((idle.advance 5).tenure (8 * 0 + 0)).holder = none) ∧
    (lentPort.up = true ∧ portUse 0 0 ≠ PortUse.unused ∧ (((lentPort.advance 5).tenure (8 * 0 + 0)).holder.bind fun h => List.find? (fun r => r.source == h) ((lentPort.advance 5).portReqs 0 0)) = some lentReq ∧ ((lentPort.advance 5).tenure (8 * 0 + 0)).beats < lentPort.fld ARB_PORT.HOLD_LIMIT 0 ∧ ((lentPort.advance 5).tenure (8 * 0 + 0)).limit ≤ ((lentPort.advance 5).tenure (8 * 0 + 0)).beats) ∧
    (revocable.up = true ∧ portUse 0 0 ≠ PortUse.unused ∧ (((revocable.advance 5).tenure (8 * 0 + 0)).holder.bind fun h => List.find? (fun r => r.source == h) ((revocable.advance 5).portReqs 0 0)) = some lentReq ∧ ((revocable.advance 5).tenure (8 * 0 + 0)).beats < revocable.fld ARB_PORT.HOLD_LIMIT 0 ∧ ((revocable.advance 5).tenure (8 * 0 + 0)).beats < ((revocable.advance 5).tenure (8 * 0 + 0)).limit ∧ arbRevocable 0 = true ∧ ((revocable.advance 5).tenure (8 * 0 + 0)).effort = true ∧ (((revocable.advance 5).portReqs 0 0).any fun r => Decidable.decide ((revocable.advance 5).arbRank 0 0 r < (revocable.advance 5).arbRank 0 0 lentReq)) = true) ∧
    (heldPort.up = true ∧ portUse 0 0 ≠ PortUse.unused ∧ ((heldPort.advance 5).tenure (8 * 0 + 0)).holder = some 3 ∧ heldPort.fld ARB_PORT.HOLD_LIMIT 0 ≤ ((heldPort.advance 5).tenure (8 * 0 + 0)).beats) := by decide +kernel
theorem met_FlitsAndTimeMarks :
    (brick0.up = true ∧ 0 < 48 ∧ 0 < 2 ∧ goodFlit.length = 512 ∧ brick0.courseUp 0 = true ∧ (nget brick0.crs.fenced (0 / 4) 0).testBit (0 % 4) = false ∧ flitGood goodFlit = true) ∧
    (brick0.up = true ∧ 0 < 48 ∧ 0 < 2 ∧ (zs 512).length = 512 ∧ brick0.courseUp 0 = true ∧ (nget brick0.crs.fenced (0 / 4) 0).testBit (0 % 4) = false ∧ flitGood (zs 512) = false) ∧
    (linked.up = true ∧ 0 < 8 ∧ goodFlit.length = 512 ∧ 1 < 1024 ∧ linked.linkUp 0 = true ∧ flitGood goodFlit = true) ∧
    (linked.up = true ∧ 0 < 8 ∧ (zs 512).length = 512 ∧ 1 < 1024 ∧ linked.linkUp 0 = true ∧ flitGood (zs 512) = false) ∧
    ((linked.set CST_STATUS.TOPOLOGY 0 1).up = true ∧ 0 < 8 ∧ (linked.set CST_STATUS.TOPOLOGY 0 1).linkUp 0 = true ∧ (linked.set CST_STATUS.TOPOLOGY 0 1).contradicts 0 1 = false ∧ (linked.set CST_STATUS.TOPOLOGY 0 1).fld STB_STATE.SOURCE 0 ≠ 2 ∧ ((linked.set CST_STATUS.TOPOLOGY 0 1).fld LB_STATUS.COUPLER_LOST 0).testBit 0 = false) := 
  ⟨⟨by decide +kernel, by decide +kernel, by decide +kernel, by decide +kernel, by decide +kernel, by decide +kernel, test_flitGood⟩,
    ⟨by decide +kernel, by decide +kernel, by decide +kernel, by decide +kernel, by decide +kernel, by decide +kernel, test_flitBad⟩,
    ⟨by decide +kernel, by decide +kernel, by decide +kernel, by decide +kernel, by decide +kernel, test_flitGood⟩,
    ⟨by decide +kernel, by decide +kernel, by decide +kernel, by decide +kernel, by decide +kernel, test_flitBad⟩,
    by decide +kernel⟩
theorem met_SidebandMessages :
    (brick0.up = true ∧ Arrives brick0 0 1 1 ∧ inRegion 0 4502504410710016 = true ∧ brick0.brickUp 0 = true) ∧
    (brick0.up = true ∧ Arrives brick0 0 1 1 ∧ lookupKey 0 brick0.crs.wrAddr = none) ∧
    (waitData.up = true ∧ Arrives waitData 0 1 1 ∧ lookupKey 0 waitData.crs.wrAddr = some 4502504410710016 ∧ inRegion 0 4502504410710016 = true ∧ waitData.brickUp 0 = true) ∧
    (boarded.up = true ∧ Arrives boarded 0 1 1 ∧ boarded.board = some aBoard ∧ lookupKey (1 + 0) aBoard.dies = some aDie ∧ aDie.answers = true) ∧
    (brick0.up = true ∧ Arrives brick0 0 1 1 ∧ [1, 2, 3, 4, 5, 6].length = 6) ∧
    (brick0.up = true ∧ Arrives brick0 0 2 2) ∧
    (remapping.up = true ∧ Arrives remapping 0 1 1 ∧ remapping.crs.stalls = [aRemap] ∧ aRemap.course = 4 * 0 + 0 ∧ aRemap.change = Change.remap 0 0 ∧ (remapping.courseDir aRemap.course 0).map[0]? = some 0 ∧ (remapping.spares aRemap.course 0).head? = some 64 ∧ (remapping.advance 5).stalledNow aRemap.course = false) ∧
    (brick0.up = true ∧ Arrives brick0 0 4 4) ∧
    (boarded.up = true ∧ Arrives boarded 0 4 4 ∧ boarded.board = some aBoard) ∧
    (brick0.up = true ∧ Arrives brick0 0 4 4 ∧ ((brickDomains 0).any fun d => (brick0.capOf 3 d).isSome) = false) ∧
    (brick0.up = true ∧ Arrives brick0 0 5 5 ∧ 2 ≤ 4) := 
  ⟨⟨by decide +kernel, ⟨by decide +kernel, by decide +kernel, by decide +kernel, by decide +kernel⟩, by decide +kernel, by decide +kernel⟩,
    ⟨by decide +kernel, ⟨by decide +kernel, by decide +kernel, by decide +kernel, by decide +kernel⟩, by decide +kernel⟩,
    ⟨by decide +kernel, ⟨by decide +kernel, by decide +kernel, by decide +kernel, by decide +kernel⟩, by decide +kernel, by decide +kernel, by decide +kernel⟩,
    ⟨by decide +kernel, ⟨by decide +kernel, by decide +kernel, by decide +kernel, by decide +kernel⟩, by decide +kernel, by decide +kernel, by decide +kernel⟩,
    ⟨by decide +kernel, ⟨by decide +kernel, by decide +kernel, by decide +kernel, by decide +kernel⟩, by decide +kernel⟩,
    ⟨by decide +kernel, ⟨by decide +kernel, by decide +kernel, by decide +kernel, by decide +kernel⟩⟩,
    ⟨by decide +kernel, ⟨by decide +kernel, by decide +kernel, by decide +kernel, by decide +kernel⟩, by decide +kernel, by decide +kernel, by decide +kernel, by decide +kernel, by decide +kernel, by decide +kernel⟩,
    ⟨by decide +kernel, ⟨by decide +kernel, by decide +kernel, by decide +kernel, by decide +kernel⟩⟩,
    ⟨by decide +kernel, ⟨by decide +kernel, by decide +kernel, by decide +kernel, by decide +kernel⟩, by decide +kernel⟩,
    ⟨by decide +kernel, ⟨by decide +kernel, by decide +kernel, by decide +kernel, by decide +kernel⟩, by decide +kernel⟩,
    ⟨by decide +kernel, ⟨by decide +kernel, by decide +kernel, by decide +kernel, by decide +kernel⟩, by decide +kernel⟩⟩
theorem met_WatchdogsAndLight :
    (brick0.up = true ∧ 0 < 12 ∧ brick0.brickUp 0 = true ∧ brick0.fld SB_STATUS.BUDGET_FALLBACK 0 = 0 ∧ meridianOf (nget brick0.crs.noBudget 0 0 + 9) ≤ (brick0.advance (32768 * 20)).stb) ∧
    ((brick0.set PWR_DOMAIN.ON 136 1).up = true ∧ 0 < 12 ∧ (brick0.set PWR_DOMAIN.ON 136 1).brickUp 0 = true ∧ (brick0.set PWR_DOMAIN.ON 136 1).is PWR_DOMAIN.ON (136 + 0) = true ∧ meridianOf (nget (brick0.set PWR_DOMAIN.ON 136 1).crs.noTele 0 0 + 9) ≤ ((brick0.set PWR_DOMAIN.ON 136 1).advance (32768 * 20)).stb ∧ ((brickDomains 0).all fun d => ((brick0.set PWR_DOMAIN.ON 136 1).capOf 3 d).isNone) = true) ∧
    (brick0.up = true ∧ 0 < 12 ∧ 1 < 8 ∧ brick0.brickUp 0 = true ∧ (brick0.fld SB_STATUS.FAILED 0).testBit 1 = false ∧ nget brick0.crs.drops (8 * 0 + 1) 0 < 7) ∧
    (idle.up = true ∧ idle.is LB_STATUS.A_FAILED 0 = false ∧ idle.is LB_STATUS.B_FAILED 0 = false ∧ idle.fld LB_STATUS.SOURCE 0 = 0) ∧
    (idle.up = true ∧ 0 < 8 ∧ lookupKey 0 idle.crs.wireLost = none) ∧
    (darkWire.up = true ∧ 0 < 8 ∧ lookupKey 0 darkWire.crs.wireLost = some 0 ∧ 0 + 1 = frameOf (darkWire.advance 32768).stb ∧ (darkWire.fld LB_STATUS.COUPLER_LOST 0).testBit 0 = false ∧ darkWire.fld STB_STATE.SOURCE 0 ≠ 2) := by decide +kernel
theorem met_RequestsAndSnoopsAnswered :
    (ram.up = true ∧ ram.homeFor shareReq = some 0 ∧ shareReq.isA 3 1 = true) ∧
    (ram.up = true ∧ ram.homeFor (asOp 2) = some 0 ∧ (asOp 2).isA 3 2 = true) ∧
    (ram.up = true ∧ ram.homeFor (asOp 3) = some 0 ∧ (asOp 3).isA 3 3 = true) ∧
    (ram.up = true ∧ ram.homeFor (withData (asOp 4)) = some 0 ∧ (withData (asOp 4)).isA 3 4 = true ∧ (withData (asOp 4)).data.length = 64) ∧
    (ram.up = true ∧ ram.homeFor (asOp 8) = some 0 ∧ (asOp 8).isA 3 8 = true) ∧
    (ram.up = true ∧ ram.homeFor (withData (asOp 9)) = some 0 ∧ (withData (asOp 9)).isA 3 9 = true ∧ (withData (asOp 9)).fits = true) ∧
    (ram.up = true ∧ ram.homeFor (withData atomicReq) = some 0 ∧ (withData atomicReq).isA 3 10 = true ∧ (withData atomicReq).atomicOk = true) ∧
    ((((arrived ram shareReq).here shareReq).bind fun i => (arrived ram shareReq).fab.net[i]?) = some (Flight.mk shareReq (Place.ejected 12 3 0) 0 0 [] none) ∧ (arrived ram shareReq).units.sliceDown.contains 0 = false ∧ (arrived ram shareReq).trackerRoom 0 shareReq = true ∧ (arrived ram shareReq).intakeTurn 0 (Flight.mk shareReq (Place.ejected 12 3 0) 0 0 [] none) = true ∧ ((((arrived ram shareReq).fab.txns.any fun x => x.line == shareReq.line) || (arrived ram shareReq).fab.waits.any fun q => q.snd.line == shareReq.line) || (arrived ram shareReq).tileHeld shareReq.line) = false) ∧
    ((((open1 aTxn shareReq).here shareReq).bind fun i => (open1 aTxn shareReq).fab.net[i]?) = some (Flight.mk shareReq (Place.ejected 12 3 0) 0 0 [] none) ∧ (open1 aTxn shareReq).units.sliceDown.contains 0 = false ∧ (open1 aTxn shareReq).trackerRoom 0 shareReq = true ∧ (open1 aTxn shareReq).intakeTurn 0 (Flight.mk shareReq (Place.ejected 12 3 0) 0 0 [] none) = true ∧ ((((open1 aTxn shareReq).fab.txns.any fun x => x.line == shareReq.line) || (open1 aTxn shareReq).fab.waits.any fun q => q.snd.line == shareReq.line) || (open1 aTxn shareReq).tileHeld shareReq.line) = true) ∧
    (ram.up = true ∧ sliceOf (snoopPkt 1).dest = none ∧ (snoopPkt 1).isA 2 1 = true) ∧
    (ram.up = true ∧ sliceOf (snoopPkt 2).dest = none ∧ (snoopPkt 2).isA 2 2 = true) ∧
    (ram.up = true ∧ sliceOf (snoopPkt 3).dest = none ∧ (snoopPkt 3).isA 2 3 = true) ∧
    (ram.up = true ∧ sliceOf (snoopPkt 4).dest = none ∧ (snoopPkt 4).isA 2 4 = true) := 
  ⟨by decide +kernel,
    by decide +kernel,
    by decide +kernel,
    by decide +kernel,
    by decide +kernel,
    by decide +kernel,
    by decide +kernel,
    by decide +kernel,
    by decide +kernel,
    by decide +kernel,
    by decide +kernel,
    by decide +kernel,
    by decide +kernel⟩
theorem met_ControllersReadAndWrite :
    ((queuedMc ram (mcReq 16)).up = true ∧ (mcReq 16).isA 3 16 = true ∧ (queuedMc ram (mcReq 16)).mcTurn (mcReq 16) = true ∧ (queuedMc ram (mcReq 16)).mcOf (mcReq 16).line = some 16 ∧ sliceOf (mcReq 16).src = some 0 ∧ (mcReq 16).pkg = none) ∧
    ((queuedMc ram (mcReq 17)).up = true ∧ (mcReq 17).isA 3 17 = true ∧ (mcReq 17).fits = true ∧ (queuedMc ram (mcReq 17)).mcTurn (mcReq 17) = true ∧ (queuedMc ram (mcReq 17)).mcOf (mcReq 17).line = some 16) := by decide +kernel
theorem met_TransactionsAdvance :
    (combining.up = true ∧ partPkt.isA 0 3 = true ∧ combining.fab.combines = [aCombine] ∧ aCombine.snoop.dest = partPkt.dest ∧ aCombine.snoop.line = partPkt.line ∧ aCombine.blocks.contains (unitStop partPkt.src) = true ∧ List.filter (fun x => x != unitStop partPkt.src) aCombine.blocks ≠ [] ∧ unitRegion partPkt.src = aCombine.brick ∧ combining.hasPkt partPkt = true) ∧
    ((open1 sumTxn sumPkt).up = true ∧ sumPkt.isA 0 4 = true ∧ sliceOf sumPkt.dest = some 0 ∧ List.find? (fun x => x.line == sumPkt.line && x.sums.contains (sumFrom sumPkt)) (open1 sumTxn sumPkt).fab.txns = some sumTxn ∧ sumTxn.slice = 0 ∧ (open1 sumTxn sumPkt).hasPkt sumPkt = true ∧ sumPkt.operand.testBit 0 = true) ∧
    ((open1 zeroTxn flushPkt).up = true ∧ flushPkt.isA 1 2 = true ∧ sliceOf flushPkt.dest = some 0 ∧ List.find? (fun x => x.line == flushPkt.line && x.started && !x.granted && x.dirty.isNone) (open1 zeroTxn flushPkt).fab.txns = some zeroTxn ∧ zeroTxn.slice = 0 ∧ (open1 zeroTxn flushPkt).hasPkt flushPkt = true ∧ zeroTxn.req.cls ≠ 2 ∧ (zeroTxn.req.op = 3 ∨ zeroTxn.remote = true)) ∧
    ((open1 writeTxn donePkt).up = true ∧ donePkt.isA 0 5 = true ∧ sliceOf donePkt.dest = some 0 ∧ List.find? (fun x => x.line == donePkt.line && x.wr) (open1 writeTxn donePkt).fab.txns = some writeTxn ∧ writeTxn.slice = 0 ∧ (open1 writeTxn donePkt).hasPkt donePkt = true) ∧
    ((open1 grantTxn seenPkt).up = true ∧ seenPkt.isA 0 2 = true ∧ sliceOf seenPkt.dest = some 0 ∧ (open1 grantTxn seenPkt).mainTxn seenPkt.line = some grantTxn ∧ grantTxn.slice = 0 ∧ grantTxn.granted = true ∧ grantTxn.req.src = seenPkt.src ∧ grantTxn.req.txn = seenPkt.txn ∧ grantTxn.req.pkg = seenPkt.pkg ∧ (open1 grantTxn seenPkt).hasPkt seenPkt = true) ∧
    (hartOn.up = true ∧ hartOn.ready 0 = true ∧ anAcc.legal = true) ∧
    (filled.up = true ∧ filled.held 0 0 = some aLine ∧ aLine.fill = some 3 ∧ (filled.advance 5000).holdOver 0 3 = true) ∧
    ((open1 startTxn seenPkt).up = true ∧ List.find? (fun x => x.line == 0 && x.slice == 0) (open1 startTxn seenPkt).fab.txns = some startTxn ∧ startTxn.start + msTicks 10 ≤ ((open1 startTxn seenPkt).advance 40000000).stb) := 
  ⟨by decide +kernel,
    by decide +kernel,
    by decide +kernel,
    by decide +kernel,
    by decide +kernel,
    by decide +kernel,
    by decide +kernel,
    by decide +kernel⟩
theorem met_CoresTakeAnswers :
    ((arrived idle (corePkt 0 1)).up = true ∧ (corePkt 0 1).core = some 0 ∧ (arrived idle (corePkt 0 1)).hasPkt (corePkt 0 1) = true ∧ (corePkt 0 1).isA 0 1 = true) ∧
    ((arrived idle (corePkt 1 1)).up = true ∧ (corePkt 1 1).core = some 0 ∧ (arrived idle (corePkt 1 1)).hasPkt (corePkt 1 1) = true ∧ (corePkt 1 1).isA 1 1 = true) ∧
    ((arrived idle (corePkt 1 4)).up = true ∧ (corePkt 1 4).core = some 0 ∧ (arrived idle (corePkt 1 4)).hasPkt (corePkt 1 4) = true ∧ (corePkt 1 4).isA 1 4 = true) ∧
    ((arrived idle (corePkt 0 15)).up = true ∧ (corePkt 0 15).core = some 0 ∧ (arrived idle (corePkt 0 15)).hasPkt (corePkt 0 15) = true ∧ (corePkt 0 15).isA 0 15 = true) ∧
    ((arrived idle (corePkt 0 6)).up = true ∧ (corePkt 0 6).core = some 0 ∧ (arrived idle (corePkt 0 6)).hasPkt (corePkt 0 6) = true ∧ (corePkt 0 6).isA 0 6 = true) ∧
    ((arrived idle (corePkt 1 3)).up = true ∧ (corePkt 1 3).core = some 0 ∧ (arrived idle (corePkt 1 3)).hasPkt (corePkt 1 3) = true ∧ (corePkt 1 3).isA 1 3 = true ∧ (corePkt 1 3).data.length = 64) := by decide +kernel
theorem met_DeviceAndEndpointAccesses :
    ((arrived (idle.set DIE_ID.UP 8 1) (regPkt 24)).up = true ∧ (regPkt 24).devSource = some 0 ∧ addrKind (regPkt 24).devAddr = AddrKind.regs ∧ ((arrived (idle.set DIE_ID.UP 8 1) (regPkt 24)).advance 5).regDest (regPkt 24).devAddr = some (regPkt 24).dest ∧ (arrived (idle.set DIE_ID.UP 8 1) (regPkt 24)).devTurn (regPkt 24) = true ∧ (regPkt 24).isA 3 24 = true) ∧
    ((arrived idle (mcRegPkt 25)).up = true ∧ (mcRegPkt 25).devSource = some 0 ∧ addrKind (mcRegPkt 25).devAddr = AddrKind.regs ∧ ((arrived idle (mcRegPkt 25)).advance 5).regDest (mcRegPkt 25).devAddr = some (mcRegPkt 25).dest ∧ (arrived idle (mcRegPkt 25)).devTurn (mcRegPkt 25) = true ∧ (mcRegPkt 25).isA 3 25 = true ∧ (mcRegPkt 25).data.length = 64 ∧ codeCore (mcRegPkt 25).dest = none) ∧
    (opened.up = true ∧ opened.portRole 0 = 2 ∧ opened.pins.epPerst.testBit 0 = true ∧ 0 < 4 ∧ 4 ≤ 4096 ∧ 0 ≤ 256 ∧ opened.barOpen 0 0 Bar.bar0 = true ∧ 0 % 4 = 0 ∧ 4 % 4 = 0 ∧ 0 + 4 ≤ Bar.bar0.size) ∧
    (opened.up = true ∧ opened.portRole 0 = 2 ∧ opened.pins.epPerst.testBit 0 = true ∧ 0 < 4 ∧ 4 ≤ 4096 ∧ 0 ≤ 256 ∧ opened.barOpen 0 0 Bar.bar0 = true ∧ 0 % 4 = 0 ∧ 4 % 4 = 0 ∧ 0 + 4 ≤ Bar.bar0.size ∧ (zs 4).length = 4) ∧
    (opened.up = true ∧ opened.portRole 0 = 2 ∧ opened.pins.epPerst.testBit 0 = true ∧ 0 < 8 ∧ 8 ≤ 4096 ∧ 0 ≤ 256 ∧ opened.barOpen 0 0 Bar.bar2 = true ∧ 0 % 8 = 0 ∧ 8 % 8 = 0 ∧ 0 + 8 ≤ Bar.bar2.size) ∧
    (opened.up = true ∧ opened.portRole 0 = 2 ∧ opened.pins.epPerst.testBit 0 = true ∧ 0 < 8 ∧ 8 ≤ 4096 ∧ 0 ≤ 256 ∧ opened.barOpen 0 0 Bar.bar2 = true ∧ 0 % 8 = 0 ∧ 8 % 8 = 0 ∧ 0 + 8 ≤ Bar.bar2.size ∧ (zs 8).length = 8) ∧
    (endpoint.up = true ∧ endpoint.portRole 0 = 2 ∧ endpoint.pins.epPerst.testBit 0 = true ∧ 0 < 8 ∧ 8 ≤ 4096 ∧ 0 ≤ 256 ∧ endpoint.barOpen 0 0 Bar.bar0 = false) := 
  ⟨by decide +kernel,
    by decide +kernel,
    by decide +kernel,
    by decide +kernel,
    by decide +kernel,
    by decide +kernel,
    by decide +kernel⟩
theorem met_EndpointConfigurationAndReset :
    (endpoint.up = true ∧ endpoint.portRole 0 = 2 ∧ endpoint.pins.epPerst.testBit 0 = true ∧ [1, 2, 4].contains 4 = true ∧ 0 % 4 = 0 ∧ 0 < 4096 ∧ endpoint.fld PCIE_PORT_STATUS.EP_READY 0 ≠ 0 ∧ endpoint.inReset 0 0 = false ∧ endpoint.hasFn 0 0 = true) ∧
    (endpoint.up = true ∧ endpoint.portRole 0 = 2 ∧ endpoint.pins.epPerst.testBit 0 = true ∧ [1, 2, 4].contains 4 = true ∧ 0 % 4 = 0 ∧ 0 < 4096 ∧ endpoint.fld PCIE_PORT_STATUS.EP_READY 0 ≠ 0 ∧ endpoint.inReset 0 0 = false ∧ endpoint.hasFn 0 0 = true ∧ (zs 4).length = 4) ∧
    (unready.up = true ∧ unready.portRole 0 = 2 ∧ unready.pins.epPerst.testBit 0 = true ∧ [1, 2, 4].contains 4 = true ∧ 0 % 4 = 0 ∧ 0 < 4096 ∧ unready.fld PCIE_PORT_STATUS.EP_READY 0 = 0) ∧
    (endpoint.up = true ∧ endpoint.portRole 0 = 2 ∧ endpoint.pins.epPerst.testBit 0 = true ∧ [1, 2, 4].contains 4 = true ∧ 0 % 4 = 0 ∧ 0 < 4096 ∧ endpoint.fld PCIE_PORT_STATUS.EP_READY 0 ≠ 0 ∧ endpoint.inReset 0 1 = false ∧ endpoint.hasFn 0 1 = false) ∧
    (endpoint.up = true ∧ endpoint.hasFn 0 0 = true ∧ endpoint.inReset 0 0 = false) ∧
    (fnResetting.up = true ∧ List.find? (fun r => r.port == 0 && r.fn == 0) fnResetting.pcie.resets = some aReset) ∧
    (plainEndpoint.up = true ∧ 0 < 8 ∧ plainEndpoint.pins.epPerst.testBit 0 = false ∧ plainEndpoint.portRole 0 = 2 ∧ 1 ≤ 5 ∧ 5 ≤ 5 ∧ 1 ≤ 6 ∧ 6 ≤ 6) := 
  ⟨by decide +kernel,
    by decide +kernel,
    by decide +kernel,
    by decide +kernel,
    by decide +kernel,
    by decide +kernel,
    by decide +kernel⟩
theorem met_TagsAndRootPorts :
    (readOut.up = true ∧ List.find? (fun r => r.port == 0 && r.tag == 0) readOut.pcie.reads = some aRead ∧ aRead.issued + readOut.cplTicks 0 ≤ (readOut.advance 40000000000).stb) ∧
    ((held1 aHold).up = true ∧ List.find? (fun x => x.port == 0 && x.tag == 0) (held1 aHold).pcie.holds = some aHold ∧ aHold.silent = true ∧ List.find? (fun r => r.port == 0 && r.tag == 0 && r.asker == Asker.write) (held1 aHold).pcie.reads = none) ∧
    ((held1 loudHold).up = true ∧ List.find? (fun x => x.port == 0 && x.tag == 0) (held1 loudHold).pcie.holds = some loudHold ∧ loudHold.silent = false ∧ List.find? (fun r => r.port == 0 && r.tag == 0 && r.asker == Asker.write) (held1 loudHold).pcie.reads = none) ∧
    ((held1 aHold).up = true ∧ List.find? (fun x => x.port == 0 && x.tag == 0) (held1 aHold).pcie.holds = some aHold ∧ aHold.stop ≤ ((held1 aHold).advance 5).stb) ∧
    (rootPort.up = true ∧ (rootPort.linksOf 0).contains 0 = true) ∧
    (rootPort.up = true ∧ (rootPort.linksOf 0).contains 0 = true ∧ [4, 5, 13, 17, 18].contains 4 = true) ∧
    (rootPort.up = true ∧ (rootPort.linksOf 0).contains 0 = true) ∧
    (rootPort.up = true ∧ (rootPort.linksOf 0).contains 0 = true ∧ (InReq.read 0 8 0).legal = true ∧ rootPort.fld PCIE_LINK.STATE (linkIdx 0 0) = 2) := by decide +kernel
theorem met_RemoteTransactionsAndMirrors :
    ((arrived member (farReq 1)).up = true ∧ (arrived member (farReq 1)).is CST_STATUS.MEMBER 0 = true ∧ (arrived member (farReq 1)).is CST_STATUS.LEAVING 0 = false ∧ (farReq 1).pkg = some 1 ∧ (arrived member (farReq 1)).hasPkt (farReq 1) = true ∧ lineWindow (farReq 1).line = some ((arrived member (farReq 1)).fld CST_STATUS.NUMBER 0) ∧ (farReq 1).cls = 3 ∧ ((farReq 1).op = 1 ∨ (farReq 1).op = 2 ∨ (farReq 1).op = 3 ∨ (farReq 1).op = 8) ∧ carriesData 3 (farReq 1).op = false ∧ (((arrived member (farReq 1)).advance 5).takePkt (farReq 1)).exportRefuses (farReq 1) 1 = true) ∧
    ((arrived exported (farReq 8)).up = true ∧ (arrived exported (farReq 8)).is CST_STATUS.MEMBER 0 = true ∧ (arrived exported (farReq 8)).is CST_STATUS.LEAVING 0 = false ∧ (farReq 8).pkg = some 1 ∧ (arrived exported (farReq 8)).hasPkt (farReq 8) = true ∧ lineWindow (farReq 8).line = some ((arrived exported (farReq 8)).fld CST_STATUS.NUMBER 0) ∧ (farReq 8).cls = 3 ∧ ((farReq 8).op = 1 ∨ (farReq 8).op = 2 ∨ (farReq 8).op = 3 ∨ (farReq 8).op = 8) ∧ carriesData 3 (farReq 8).op = false ∧ (((arrived exported (farReq 8)).advance 5).takePkt (farReq 8)).exportRefuses (farReq 8) 1 = false) ∧
    ((remote1 aRemote).up = true ∧ (remote1 aRemote).remoteAt 0 0 = some aRemote ∧ aRemote.quarantined = false ∧ aRemote.start + usTicks ((remote1 aRemote).fld CST_CTRL.REMOTE_TO 0) ≤ ((remote1 aRemote).advance 16000000).stb) ∧
    ((remote1 oldRemote).up = true ∧ (remote1 oldRemote).remoteAt 0 0 = some oldRemote ∧ oldRemote.quarantined = true ∧ oldRemote.start + 4 * usTicks ((remote1 oldRemote).fld CST_CTRL.REMOTE_TO 0) ≤ ((remote1 oldRemote).advance 64000000).stb) ∧
    (member.up = true ∧ member.isMember 1 = true ∧ 0 < 64 ∧ 0 < (zs 64).length ∧ (zs 64).length % 64 = 0) ∧
    member.up = true := by decide +kernel
theorem met_MembersAndTheirMessages :
    (linked.up = true ∧ 0 < 8 ∧ (linked.fld LINK_STATUS.STATE 0 = 2 ∨ linked.fld LINK_STATUS.STATE 0 = 1)) ∧
    (linked.up = true ∧ 0 < 8 ∧ (linked.fld LINK_STATUS.STATE 0 = 2 ∨ linked.fld LINK_STATUS.STATE 0 = 1)) ∧
    (linked.up = true ∧ 0 < 8 ∧ (linked.fld LINK_STATUS.STATE 0 = 2 ∨ linked.fld LINK_STATUS.STATE 0 = 1)) ∧
    (cutMember.up = true ∧ cutMember.isMember 1 = true ∧ 1 ≠ cutMember.fld CST_STATUS.NUMBER 0 ∧ (cutMember.advance 5000000).cutOff 1 = true) ∧
    (member.up = true ∧ member.is CST_STATUS.MEMBER 0 = true ∧ 1 < 1024 ∧ 1 ≠ member.fld CST_STATUS.NUMBER 0) ∧
    (member.up = true ∧ member.is CST_STATUS.MEMBER 0 = true ∧ 2 < 1024 ∧ 2 ≠ member.fld CST_STATUS.NUMBER 0 ∧ member.isMember 2 = false) ∧
    ((member.setWord Reg.CST_MEMBERS 0 0 3).up = true ∧ (member.setWord Reg.CST_MEMBERS 0 0 3).mayElect ((member.setWord Reg.CST_MEMBERS 0 0 3).fld CST_STATUS.NUMBER 0) = true) ∧
    ((((member.setWord Reg.CST_MEMBERS 0 0 3).set STB_STATE.STATE 0 2).set STB_STATE.SOURCE 0 1).up = true ∧ (((member.setWord Reg.CST_MEMBERS 0 0 3).set STB_STATE.STATE 0 2).set STB_STATE.SOURCE 0 1).mayElect 1 = false) ∧
    ((brick0.setWord Reg.CST_MSG_ALLOW 0 0 2).up = true ∧ ((BitVec.toNat ((brick0.setWord Reg.CST_MSG_ALLOW 0 0 2).word Reg.CST_MSG_ALLOW (1 / 64) 0)).testBit (1 % 64) && !(1 == 0 && !false) && Decidable.decide (0 < 288) && (brick0.setWord Reg.CST_MSG_ALLOW 0 0 2).coreUp 0 && 7 != 0) = true) ∧
    (brick0.up = true ∧ ((BitVec.toNat (brick0.word Reg.CST_MSG_ALLOW (1 / 64) 0)).testBit (1 % 64) && !(1 == 0 && !false) && Decidable.decide (0 < 288) && brick0.coreUp 0 && 7 != 0) = false) := by decide +kernel
theorem met_CoresWaitAndHalt :
    (hartOn.up = true ∧ hartOn.ready 0 = true ∧ hartOn.wfiTrap 0 = none ∧ (hartOn.advance 5).wakes 0 = false ∧ ((hartOn.advance 5).nextPc 0 4).wakes 0 = false) ∧
    (wakeable.up = true ∧ 0 < 288 ∧ wakeable.coreUp 0 = true ∧ wakeable.fld PWR_DOMAIN.ON (8 * (0 / 24) + 0 % 24 / 4) ≠ 0 ∧ wakeable.fld CORE_PAIR.STATE 0 = 0 ∧ wakeable.fld CORE_PWR.STATE 0 ≠ 3 ∧ (wakeable.hart 0).waiting = true ∧ (wakeable.advance 5).wakes 0 = true) ∧
    (hartOn.up = true ∧ 0 < 288) ∧
    (hartOn.up = true ∧ hartOn.ready 0 = true ∧ 805314675 % 128 = 115 ∧ bitsOf 805314675 12 3 % 4 ≠ 0 ∧ 805314675 < 2 ^ 32) ∧
    (hartOn.up = true ∧ 0 < 288 ∧ hartOn.coreUp 0 = true ∧ (hartOn.hart 0).halted = false) := by decide +kernel
theorem met_DomainsAndSleep :
    (offable.up = true ∧ offable.domainThere 5 = true ∧ offable.is PWR_DOMAIN.ON 5 = true ∧ offable.domainHeld 5 = false) ∧
    (((brick0.set PWR_DOMAIN.ON 0 1).set PWR_DOMAIN.ON 136 0).up = true ∧ 136 ≤ 136 ∧ ((brick0.set PWR_DOMAIN.ON 0 1).set PWR_DOMAIN.ON 136 0).domainThere 136 = true ∧ ((brick0.set PWR_DOMAIN.ON 0 1).set PWR_DOMAIN.ON 136 0).fld PWR_DOMAIN.ON 136 = 0 ∧ ((brick0.set PWR_DOMAIN.ON 0 1).set PWR_DOMAIN.ON 136 0).domainHeld 136 = true ∧ ((brick0.set PWR_DOMAIN.ON 0 1).set PWR_DOMAIN.ON 136 0).pow.eclipse = false ∧ ((brick0.set PWR_DOMAIN.ON 0 1).set PWR_DOMAIN.ON 136 0).nf.triggered = false) ∧
    idle.up = true ∧
    (mayRest.up = true ∧ (mayRest.advance 1024).mayEclipse = true ∧ (mayRest.advance 1024).stb % 1024 = 0 ∧ mayRest.pow.eclipse = false ∧ mayRest.nf.triggered = false) ∧
    (eclipsed.up = true ∧ eclipsed.pow.eclipse = true ∧ eclipsed.nf.triggered = false) := by decide +kernel
theorem met_RailsAndCapping :
    idle.up = true ∧
    (idle.up = true ∧ idle.nf.triggered = false) ∧
    ((hot 0).up = true ∧ 0 < 12 ∧ ((hot 0).advance 4000000).heldFor (hot 0).pow.hot 0 (msTicks 1) = true) ∧
    ((hot 16).up = true ∧ ((hot 16).advance 4000000).heldFor (hot 16).pow.hot 16 (msTicks 1) = true) ∧
    (warned.up = true ∧ 0 < 2 ∧ warned.pow.warn.contains 0 = true ∧ (warned.advance 4000000).heldFor warned.pow.hot (32 + 0) 0 = true) ∧
    ((cool 16).up = true ∧ ((cool 16).advance 400000000).heldFor (cool 16).pow.cool 16 (msTicks 100) = true) ∧
    (∀ (r : Nat), r < 2 → (((cool 16).raiseFc 1 domains).railCommitted r fun x => true) ≤ ((cool 16).rail r).level) ∧
    (burning.up = true ∧ 0 < 13 ∧ 110 * 16 ≤ celsius16 (nget burning.pow.temps 0 0) ∧ burning.pins.thermtripN = true) := by decide +kernel
theorem met_NightfallSaves :
    (idle.up = true ∧ idle.nf.triggered = false ∧ 0 < 1 ∧ 1 ≤ 3 ∧ (((idle.advance 5).haltAll.noteTrigger 1).is NF_STATUS.ARMED 0 = false ∨ ((idle.advance 5).haltAll.noteTrigger 1).freeSlot = none)) ∧
    (armed.up = true ∧ armed.nf.triggered = false ∧ 0 < 1 ∧ 1 ≤ 3 ∧ ((armed.advance 5).haltAll.noteTrigger 1).is NF_STATUS.ARMED 0 = true ∧ ((armed.advance 5).haltAll.noteTrigger 1).freeSlot = some 0) ∧
    (writing.up = true ∧ writing.nf.writing.bind writing.imageIn = some anImage) ∧
    ((idle.set NF_STATUS.SHADOW_READY 0 0).up = true ∧ (idle.set NF_STATUS.SHADOW_READY 0 0).is NF_STATUS.SHADOW_READY 0 = false ∧ (idle.set NF_STATUS.SHADOW_READY 0 0).nf.triggered = false) := by decide +kernel
theorem met_ResetAndPowerLoss :
    idle.nf.triggered = false ∧
    savingNow.nf.triggered = true ∧
    idle.nf.writing = none := by decide +kernel
theorem met_StartUp :
    (State.reset.up = false ∧ State.reset.pins.thermtripN = true ∧ chooseImage (Start.mk aBoard [] [] 0 [] (Measures.mk 0 0 0 0) [] (Found.mk [] [] 0 0 none) false none).board = none) := by decide +kernel
theorem met_SaveReleaseAndStatus :
    saved.oldestImage = some anImage ∧
    restoring.restoring = true ∧
    (heldImage.restoring = false ∧ heldImage.fld NF_STATUS.HELD 0 ≠ 0) ∧
    (saved.restoring = false ∧ saved.fld NF_STATUS.HELD 0 = 0) := by decide +kernel
theorem met_RingsKeepTheirBounds :
    openBox.cmpUsed 4 < 16 ∧
    openBox.cmpUsed 4 ≤ 16 ∧
    openBox.evtUsed 4 ≤ 32 := by decide +kernel
theorem met_MemoryKeepsItsBytes :
    (0 < 5 * 64 + 0 ∨ 5 * 64 + 0 + (zs 8).length ≤ 0) ∧
    (ram.memberAt (5 * 64) = some (16, 320) ∧ ram.server 16 = some 16) := by decide +kernel
theorem met_StbNeverDecreases :
    ((∀ (c : Instr), queued1.pending.head? = some c → c ≠ Instr.pkgReset ∧ (∀ (n : Nat), c ≠ Instr.powerLoss n) ∧ ∀ (u : Stamp) (x : Start), c ≠ Instr.startUp u x) ∧ 0 ≤ queued1.stb ∧ step queued1 = Host.Outcome.next ticked) := ⟨by intro c h; cases h; exact ⟨by simp, by simp, by simp⟩, by decide +kernel, rfl⟩
theorem met_TimeQuantities :
    100000 < 2 ^ 64 := by decide +kernel
theorem met_ReservedEncodingIgnored :
    (STB_CTRL.SOURCE.acc ≠ Acc.w1c ∧ STB_CTRL.SOURCE.acc ≠ Acc.w1s ∧ reservedEnc STB_CTRL.SOURCE 0 (STB_CTRL.SOURCE.written (idle.word STB_CTRL.SOURCE.reg 0 STB_CTRL.SOURCE.word) 0 8 3) = true) := by decide +kernel

/-! ### A start and an authentication, whose signatures are free values -/

/-- A boot flash whose first image is its header and its signature of zeros. -/
def bootFlash : NMap Byte :=
  (List.range 352).map (fun i => (0x100000 + i, (zs 352).getD i 0)) |>.map (fun q =>
    (q.1, if q.1 = 0x100000 then 0x42 else if q.1 = 0x100001 then 0x43 else if q.1 = 0x100002 then 0x49 else if q.1 = 0x100003 then 0x4D
      else if q.1 = 0x100004 then 1 else if q.1 = 0x100008 then 0x60 else if q.1 = 0x100009 then 1 else q.2))
def bootKey : List Byte := flashBytes bootFlash (imageBase 0 + 64) 97
def bootBoard : Board := { aBoard with imgForce := 1, flash := bootFlash, vendorHash := Config.sha384 bootKey }

/-- A start with an image that verifies (StartUp), where the signature is good. -/
theorem met_StartUp_image
    (h : Config.p384Verify bootKey (flashBytes bootFlash (imageBase 0) 256) (flashBytes bootFlash (imageBase 0 + 256) 96) = true) :
    State.reset.up = false ∧ State.reset.pins.thermtripN = true ∧ chooseImage bootBoard = some (0, false) := by
  have len : imgNat bootFlash 0 8 4 = 352 := by decide +kernel
  have ok : imageOk bootBoard.flash bootBoard.vendorHash 0 = true := by
    show imageOk bootFlash (Config.sha384 bootKey) 0 = true
    unfold imageOk
    rw [len]
    simp only [Bool.and_eq_true]
    refine ⟨⟨?_, ?_⟩, ?_⟩
    · decide +kernel
    · exact beq_self_eq_true (Config.sha384 bootKey)
    · exact h
  refine ⟨rfl, rfl, ?_⟩
  unfold chooseImage
  show (if (1 : Nat) = 1 ∨ (1 : Nat) = 2 then _ else _) = _
  rw [if_pos (Or.inl rfl)]
  show (if imageOk bootBoard.flash bootBoard.vendorHash (1 - 1) = true then _ else _) = _
  rw [if_pos ok]; rfl

/-! ### Ill-formed commands: one for each check -/

theorem test_wf_good : Instr.wf (.getInfo 5 63) = true := by decide
theorem test_wf_stamp : Instr.wf (.commandTake (2 ^ 64)) = false := by decide
theorem test_wf_mailbox : Instr.wf (.getInfo 5 64) = false := by decide
theorem test_wf_tail : Instr.wf (.mbxDoorbellCmdTail 5 0 .sideband 32) = false := by decide
theorem test_wf_core : Instr.wf (.mbxDoorbellReset 5 0 (.core 288 false)) = false := by decide
theorem test_wf_endpoint : Instr.wf (.mbxDoorbellReset 5 0 (.endpoint 8)) = false := by decide
theorem test_wf_offset : Instr.wf (.smbusPointerWrite 5 0 16384 true) = false := by decide
theorem test_wf_function : Instr.wf (.endpointMemoryRequest 5 0 320 .bar0 (.read 0 4)) = false := by decide
theorem test_wf_packet : Instr.wf (.packetArrival 5 { aPkt with cls := 8 } ⟨0, []⟩) = false := by decide
theorem test_wf_data : Instr.wf (.packetArrival 5 { aPkt with data := zs 65 } ⟨0, []⟩) = false := by decide
theorem test_wf_door : Instr.wf (.ieChDbSqTail 5 (.engine 16 0) 0) = false := by decide
theorem test_wf_collector : Instr.wf (.bucketLeak 5 (.region 16) 0 none) = false := by decide

/-! ### Worked examples of the manual -/

/-- Counter 3 of core 2 of block 3 of brick 7 (the example after R426). -/
theorem test_counter_address : placeOf 0xFFF080C2F00D8 = .reg .CTR_VALUE 60451 0 7 false := by decide +kernel
/-- The table gives no row any bits. -/
theorem test_decode : decodeTableWord 32 0 = none := rfl

/-! ### A debug response that carries its challenge, accepted where its signature verifies -/

def authState : State := { idle with dbg := { idle.dbg with challenge := some (zs 32, 0), keys := [(0, [7])] } }
def response : List Byte := [1] ++ zs 135
theorem test_debugAuthResponse (h : Config.p384Verify [7] (zs 38) (zs 96) = true) :
    accepts authState 0 0x0C00 response cmdAuthResponse = true := by
  have good : State.authGood (begun (waits authState 0 0x0C00 response) 1000 0 (taken 0x0C00 response)) response = true := by
    show (true && true && Config.p384Verify [7] (zs 38) (zs 96)) = true
    rw [h]; rfl
  have eq : replyOf cmdAuthResponse (waits authState 0 0x0C00 response) 1000 0 (taken 0x0C00 response) =
      .ok ((begun (waits authState 0 0x0C00 response) 1000 0 (taken 0x0C00 response)).set WLD_DEBUG.SCOPE 0 0) := by
    show (if (!(State.authGood (begun (waits authState 0 0x0C00 response) 1000 0 (taken 0x0C00 response)) response)) = true then _ else _) = _
    rw [good]; rfl
  unfold accepts
  rw [eq]; rfl

end Sys2Proof.Tests
end

section
/-! Register fields: what the bits of a word, the words of the register file and the fields of the state hold after a write of a field,
and the writes that R5, R6 and R8 leave without effect. -/

namespace Sys2Proof.Machine

/-! ### Bits of a word -/

theorem testBit_wbits (x : Word) (lo w j : Nat) : (wbits x lo w).testBit j = (decide (j < w) && x.getLsbD (lo + j)) := by
  simp [wbits, BitVec.getLsbD]

theorem getLsbD_maskAt (lo w k : Nat) (hk : k < 64) : (maskAt lo w).getLsbD k = decide (lo ≤ k ∧ k < lo + w) := by
  simp only [maskAt, BitVec.getLsbD_ofNat, hk, decide_true, Bool.true_and, Nat.testBit_shiftLeft, Nat.testBit_two_pow_sub_one,
    ← Bool.decide_and, ge_iff_le]
  exact decide_eq_decide.2 (by omega)

/-- A bit of a word with a field set comes from the value inside the field, and from the word outside it. -/
theorem getLsbD_wset (x : Word) (lo w v k : Nat) (hk : k < 64) :
    (wset x lo w v).getLsbD k = if lo ≤ k ∧ k < lo + w then v.testBit (k - lo) else x.getLsbD k := by
  simp only [wset, BitVec.getLsbD_or, BitVec.getLsbD_and, BitVec.getLsbD_not, BitVec.getLsbD_ofNat, getLsbD_maskAt _ _ _ hk, hk,
    Nat.testBit_shiftLeft, Nat.testBit_mod_two_pow]
  by_cases above : lo ≤ k
  · have within : k - lo < w ↔ k < lo + w := by omega
    by_cases below : k < lo + w <;> simp [above, within, below]
  · simp [above]

theorem wbits_wset_same (x : Word) (lo w v : Nat) (h : lo + w ≤ 64) : wbits (wset x lo w v) lo w = v % 2 ^ w := by
  refine Nat.eq_of_testBit_eq fun j => ?_
  rw [testBit_wbits, Nat.testBit_mod_two_pow]
  by_cases hj : j < w
  · rw [getLsbD_wset _ _ _ _ _ (by omega), if_pos (by omega), Nat.add_sub_cancel_left]
  · simp [hj]

theorem wbits_wset_apart (x : Word) (lo w v lo' w' : Nat) (h : lo' + w' ≤ 64) (apart : lo + w ≤ lo' ∨ lo' + w' ≤ lo) :
    wbits (wset x lo w v) lo' w' = wbits x lo' w' := by
  refine Nat.eq_of_testBit_eq fun j => ?_
  rw [testBit_wbits, testBit_wbits]
  by_cases hj : j < w'
  · rw [getLsbD_wset _ _ _ _ _ (by omega), if_neg (by omega)]
  · simp [hj]

/-! ### Words of the register file -/

theorem RegFile.word_withWord_same (f : RegFile) (r : Reg) (i w : Nat) (v : Word) :
    RegFile.word (RegFile.withWord f r i w v) r i w = v := by
  unfold RegFile.withWord
  split
  · next isReset => simp [RegFile.word, lookupKey_dropKey_same, isReset]
  · simp [RegFile.word, lookupKey_putBy_same]

theorem RegFile.word_withWord_other (f : RegFile) (r r' : Reg) (i i' w w' : Nat) (v : Word) (other : r ≠ r' ∨ i ≠ i' ∨ w ≠ w') :
    RegFile.word (RegFile.withWord f r i w v) r' i' w' = RegFile.word f r' i' w' := by
  have key : RKey.mk r' i' w' ≠ RKey.mk r i w := by
    intro e
    cases e
    simp at other
  unfold RegFile.withWord
  split
  · simp [RegFile.word, lookupKey_dropKey_other _ _ _ key]
  · simp [RegFile.word, lookupKey_putBy_other _ _ _ _ _ key]

/-! ### Fields of the register file (R4) -/

theorem RegFile.fld_withFld_same (f : RegFile) (F : Fld) (i v : Nat) (h : F.lo + F.w ≤ 64) :
    RegFile.fld (RegFile.withFld f F i v) F i = v % 2 ^ F.w := by
  rw [RegFile.fld, RegFile.withFld, RegFile.word_withWord_same, wbits_wset_same _ _ _ _ h]

/-- A field of the same word keeps its bits where the two fields do not overlap. -/
theorem RegFile.fld_withFld_apart (f : RegFile) (F G : Fld) (i v : Nat) (reg : F.reg = G.reg) (word : F.word = G.word)
    (h : G.lo + G.w ≤ 64) (apart : F.lo + F.w ≤ G.lo ∨ G.lo + G.w ≤ F.lo) :
    RegFile.fld (RegFile.withFld f F i v) G i = RegFile.fld f G i := by
  rw [RegFile.fld, RegFile.fld, RegFile.withFld, ← reg, ← word, RegFile.word_withWord_same, wbits_wset_apart _ _ _ _ _ _ h apart]

theorem RegFile.fld_withFld_otherWord (f : RegFile) (F G : Fld) (i j v : Nat) (other : F.reg ≠ G.reg ∨ i ≠ j ∨ F.word ≠ G.word) :
    RegFile.fld (RegFile.withFld f F i v) G j = RegFile.fld f G j := by
  rw [RegFile.fld, RegFile.fld, RegFile.withFld, RegFile.word_withWord_other _ _ _ _ _ _ _ _ other]

/-! ### Fields of the state (R4) -/

theorem State.fld_set_same (s : State) (F : Fld) (i v : Nat) (h : F.lo + F.w ≤ 64) : (s.set F i v).fld F i = v % 2 ^ F.w :=
  RegFile.fld_withFld_same s.regs F i v h

theorem State.fld_set_other (s : State) (F G : Fld) (i j v : Nat) (h : G.lo + G.w ≤ 64)
    (other : F.reg ≠ G.reg ∨ i ≠ j ∨ F.word ≠ G.word ∨ F.lo + F.w ≤ G.lo ∨ G.lo + G.w ≤ F.lo) :
    (s.set F i v).fld G j = s.fld G j := by
  by_cases sameWord : F.reg = G.reg ∧ i = j ∧ F.word = G.word
  · obtain ⟨reg, rfl, word⟩ := sameWord
    exact RegFile.fld_withFld_apart s.regs F G i v reg word h (by simpa [reg, word] using other)
  · refine RegFile.fld_withFld_otherWord s.regs F G i j v ?_
    rwa [Decidable.not_and_iff_or_not, Decidable.not_and_iff_or_not] at sameWord

/-! ### Writes without effect (R5, R6, R8) -/

theorem State.writeField_rwl_of_locked (s : State) (f : Fld) (i o n v : Nat) (secure : Bool) (locked : s.locked = true)
    (acc : f.acc = .rwl) : s.writeField f i o n v secure = s := by
  simp [State.writeField, acc, locked]

theorem State.writeField_srw_of_normalWorld (s : State) (f : Fld) (i o n v : Nat) (acc : f.acc = .srw) :
    s.writeField f i o n v false = s := by
  simp [State.writeField, acc]

/-- Every access type either ignores a write, or takes a value that is no reserved encoding, or acts bit by bit. -/
theorem State.writeField_of_reservedEnc (s : State) (f : Fld) (i o n v : Nat) (secure : Bool) (notW1c : f.acc ≠ .w1c)
    (notW1s : f.acc ≠ .w1s) (reserved : reservedEnc f i (f.written (s.word f.reg i f.word) o n v) = true) :
    s.writeField f i o n v secure = s := by
  cases acc : f.acc with
  | ro | rc => simp [State.writeField, acc]
  | rw | wo | rwl | srw => simp [State.writeField, acc, reserved]
  | w1c => exact absurd acc notW1c
  | w1s => exact absurd acc notW1s

/-! ### The obligations -/

/-- Settles O9: the write leaves the whole state, and so the field. -/
theorem reservedEncodingIgnored : Obligations.ReservedEncodingIgnored := by
  intro s f i o n v secure notW1c notW1s reserved
  rw [s.writeField_of_reservedEnc f i o n v secure notW1c notW1s reserved]

/-- Settles O27. -/
theorem protectedFieldsIgnoreWrites : Obligations.ProtectedFieldsIgnoreWrites :=
  ⟨State.writeField_rwl_of_locked, State.writeField_srw_of_normalWorld, State.writeField_of_reservedEnc⟩

/-- Settles O28: fields of different words, and fields of one word that do not overlap, do not meet in the register file. -/
theorem fieldReadsBack : Obligations.FieldReadsBack :=
  ⟨State.fld_set_same, fun s F G i j v _ h other => s.fld_set_other F G i j v h other⟩

end Sys2Proof.Machine
end

section
/-! The queue: every command answers a next state, and its queue is the one it was given (R26; logs 2, 3 and 31). -/

namespace Sys2Proof.Machine

/-- An outcome is a next state with the queue that `s` has. -/
def KeepsQueue (s : State) (o : Res) : Prop := ∃ r, o = .next r ∧ r.pending = s.pending

theorem GoesOn.keepsQueue {s : State} {o : Res} (h : GoesOn s o) : KeepsQueue s o := by
  obtain ⟨r, next, queue, _⟩ := h
  exact ⟨r, next, queue⟩

/-! ### Rows that act on a package that does not run -/

theorem execMbxDoorbellCmdTail_goesOn (t : Stamp) (m : Nat) (via : Via) (tail : Nat) (s : State) :
    GoesOn s (execMbxDoorbellCmdTail t m via tail s) := by
  unfold execMbxDoorbellCmdTail
  split
  · exact live_goesOn _ _ _
  · split
    · exact ⟨s.set MBX_ERR.BAD_DOORBELL m 1, rfl, rfl, Nat.le_refl s.stb⟩
    · exact next_goesOn s

theorem State.setPerst_pending (s : State) (p : Nat) (high : Bool) : (s.setPerst p high).pending = s.pending := by
  unfold State.setPerst
  split <;> rfl

theorem State.setPerst_stb (s : State) (p : Nat) (high : Bool) : (s.setPerst p high).stb = s.stb := by
  unfold State.setPerst
  split <;> rfl

theorem execEndpointFundamentalReset_goesOn (t : Stamp) (p : Nat) (high : Bool) (width speed : Nat) (flit : Bool) (s : State) :
    GoesOn s (execEndpointFundamentalReset t p high width speed flit s) := by
  unfold execEndpointFundamentalReset
  split
  · exact ⟨_, rfl, s.setPerst_pending p high, Nat.le_of_eq (s.setPerst_stb p high).symm⟩
  · exact liveS_goesOn _ _ _

/-! ### Resets, losses of power and starts, after which the STB begins again (R85) -/

theorem execPkgReset_keepsQueue (s : State) : KeepsQueue s (execPkgReset s) := by
  unfold execPkgReset
  split <;> exact ⟨_, rfl, rfl⟩

theorem execPowerLoss_keepsQueue (written : Nat) (s : State) : KeepsQueue s (execPowerLoss written s) := by
  unfold execPowerLoss
  dsimp only
  split <;> exact ⟨_, rfl, rfl⟩

theorem execStartUp_keepsQueue (t : Stamp) (x : Start) (s : State) : KeepsQueue s (execStartUp t x s) := by
  unfold execStartUp
  split
  · exact ⟨_, rfl, rfl⟩
  · split <;> exact ⟨_, rfl, rfl⟩

/-! ### Every command -/

/-- A reset, a loss of power or a start: the commands after which the STB begins again (R85). -/
def restarts : Instr → Bool
  | .startUp _ _ | .pkgReset | .powerLoss _ => true
  | _ => false

theorem exec_goesOn (c : Instr) (s : State) (h : restarts c = false) : GoesOn s (exec c s) := by
  cases c with
  | startUp | pkgReset | powerLoss => cases h
  | mbxDoorbellCmdTail t m via tail => exact execMbxDoorbellCmdTail_goesOn t m via tail s
  | endpointFundamentalReset t p high width speed flit => exact execEndpointFundamentalReset_goesOn t p high width speed flit s
  | getInfo | getCaps | getTopology | book | unbook | queryBookings | queryCapacity | setPrecedence | defineClass | defineGroup
  | bindChannel | lockChannels | releaseGroup | pair | unpair | setWorldTiles | setBlockWorld | poolGrant | setNodePolicy
  | mirrorChannels | maintStart | maintStatus | maintAbort | retire | restoreUnit | faultLogRead | setSeverity | faultClear
  | stbConfig | stbStatus | saveListSet | saveStatus | restoreBegin | saveRelease | constJoin | constLeave | constRoute
  | journalMirror | vfAssign | vfQuiesce | vfResume | powerLimit | thermalStatus | setVotePolicy | debugRevoke | fwStage
  | fwActivate => unfold exec; exact rowCommand_goesOn _ _ _ _ _
  | counterAccessGrant | counterAccessRevoke | counterAccessRead | counterAccessSet => unfold exec; exact counterRow_goesOn _ _ _ _ _
  | replicaHoldEnd | metering | queueLevelChange | ieChDbSqTail | ieChDbCqHead | sfenceVma | tableWalk | engineCacheAccess
  | victimWritebackAck | engineMissComplete | packetInject | starveClaim | tenureDecision | holdCutoff | bucketLeak
  | latchedSourcePoll | demandScrubRewrite | copyHoldEnd => unfold exec; exact live_goesOn _ _ _
  | _ => unfold exec; exact liveS_goesOn _ _ _

theorem exec_keepsQueue (c : Instr) (s : State) : KeepsQueue s (exec c s) := by
  cases c with
  | startUp t x => exact execStartUp_keepsQueue t x s
  | pkgReset => exact execPkgReset_keepsQueue s
  | powerLoss written => exact execPowerLoss_keepsQueue written s
  | _ => exact (exec_goesOn _ s rfl).keepsQueue

/-- Settles O2: an empty queue idles, and a command runs on the queue's rest and keeps it. -/
theorem everyStepGoesOn : Obligations.EveryStepGoesOn := by
  intro s
  cases queue : s.pending with
  | nil => exact ⟨s, by rw [step, queue], queue⟩
  | cons c rest =>
    obtain ⟨r, next, kept⟩ := exec_keepsQueue c { s with pending := rest }
    exact ⟨r, by rw [step, queue]; exact next, kept⟩

end Sys2Proof.Machine
end

section
/-! Bytes and lines of memory: what reads back after a write, and what is left as it was (R28, R182). -/

namespace Sys2Proof.Machine

/-! ### Bytes -/

theorem State.byteAt_of_cells {s r : State} (h : r.mem.cells = s.mem.cells) (b : Nat) : r.byteAt b = s.byteAt b := by
  rw [State.byteAt, State.byteAt, h]

theorem State.bytesAt_of_cells {s r : State} (h : r.mem.cells = s.mem.cells) (a n : Nat) : r.bytesAt a n = s.bytesAt a n :=
  List.map_congr_left fun i _ => State.byteAt_of_cells h (a + i)

theorem State.byteAt_setByte (s : State) (a b : Nat) (v : Byte) : (s.setByte a v).byteAt b = if b = a then v else s.byteAt b := by
  split
  · next same => rw [same]; exact nget_nputd_same _ _ _ _
  · next other => exact nget_nputd_other _ _ _ _ _ other

theorem State.byteAt_setBytes (d : List Byte) : ∀ (s : State) (a b : Nat),
    (s.setBytes a d).byteAt b = if a ≤ b ∧ b < a + d.length then d.getD (b - a) 0 else s.byteAt b := by
  induction d with
  | nil =>
    intro s a b
    rw [if_neg (by simp only [List.length_nil]; omega), State.setBytes]
  | cons v d ih =>
    intro s a b
    rw [State.setBytes, ih, State.byteAt_setByte, List.length_cons]
    rcases Nat.lt_trichotomy b a with below | rfl | above
    · rw [if_neg (by omega), if_neg (by omega), if_neg (by omega)]
    · rw [if_neg (by omega), if_pos rfl, if_pos (by omega), Nat.sub_self, List.getD_cons_zero]
    · have index : b - a = b - (a + 1) + 1 := by omega
      have range : a + 1 ≤ b ∧ b < a + 1 + d.length ↔ a ≤ b ∧ b < a + (d.length + 1) := by omega
      rw [if_neg (by omega : b ≠ a), index, List.getD_cons_succ]
      simp only [range]

theorem State.byteAt_setBytes_outside (s : State) (a b : Nat) (d : List Byte) (h : b < a ∨ a + d.length ≤ b) :
    (s.setBytes a d).byteAt b = s.byteAt b := by
  rw [State.byteAt_setBytes, if_neg (by omega)]

theorem State.bytesAt_setBytes_same (s : State) (a : Nat) (d : List Byte) : (s.setBytes a d).bytesAt a d.length = d := by
  refine List.ext_getElem (by simp [State.bytesAt]) fun i _ hi => ?_
  simp [State.bytesAt, State.byteAt_setBytes, hi]

/-! ### Lines -/

/-- R230: where a controller serves the line, the bytes named are written. -/
theorem State.writeLine_cells_of_served (s : State) (line off : Nat) (d : List Byte) (poison : Bool) (c x k : Nat)
    (member : s.memberAt (line * 64) = some (c, x)) (served : s.server c = some k) :
    (s.writeLine line off d poison).mem.cells = (s.setBytes (line * 64 + off) d).mem.cells := by
  rw [State.writeLine, member]
  simp only [served, Option.isSome_some, if_true, State.setPoison_cells, State.mended_cells, State.shadowBytes_mem]

/-- R230: a write to a line that no controller serves is discarded. -/
theorem State.writeLine_of_unserved (s : State) (line off : Nat) (d : List Byte) (poison : Bool)
    (h : ∀ c x k, s.memberAt (line * 64) = some (c, x) → s.server c ≠ some k) : s.writeLine line off d poison = s := by
  unfold State.writeLine
  split
  · rfl
  · next c x member =>
    have unserved : s.server c = none := Option.eq_none_iff_forall_ne_some.2 fun k => h c x k member
    simp [unserved]

theorem State.byteAt_writeLine_outside (s : State) (line off : Nat) (d : List Byte) (poison : Bool) (b : Nat)
    (h : b < line * 64 + off ∨ line * 64 + off + d.length ≤ b) : (s.writeLine line off d poison).byteAt b = s.byteAt b := by
  by_cases served : ∃ c x k, s.memberAt (line * 64) = some (c, x) ∧ s.server c = some k
  · obtain ⟨c, x, k, member, server⟩ := served
    rw [State.byteAt_of_cells (s.writeLine_cells_of_served line off d poison c x k member server)]
    exact s.byteAt_setBytes_outside _ _ _ h
  · rw [State.writeLine_of_unserved _ _ _ _ _ fun c x k member server => served ⟨c, x, k, member, server⟩]

theorem State.bytesAt_writeLine_same (s : State) (line off : Nat) (d : List Byte) (poison : Bool) (c x k : Nat)
    (member : s.memberAt (line * 64) = some (c, x)) (served : s.server c = some k) :
    (s.writeLine line off d poison).bytesAt (line * 64 + off) d.length = d := by
  rw [State.bytesAt_of_cells (s.writeLine_cells_of_served line off d poison c x k member served), State.bytesAt_setBytes_same]

/-- Settles O6: a write of a line reads and leaves what the write of its bytes does, or is discarded. -/
theorem memoryKeepsItsBytes : Obligations.MemoryKeepsItsBytes :=
  ⟨State.byteAt_setByte, State.byteAt_writeLine_outside, State.bytesAt_writeLine_same⟩

end Sys2Proof.Machine
end

section
/-! The register port: accesses that are not aligned (R31, R266), the rows that write a register (R32), reads of counters and their wraps
(R420 to R422). -/

namespace Sys2Proof.Machine

open Sys2Proof.Safety

/-! ### Accesses of another size or alignment -/

theorem regAligned_eq_false {a n : Nat} (not8 : ¬ (n = 8 ∧ a % 8 = 0)) (not4 : ¬ (n = 4 ∧ a % 4 = 0)) : regAligned a n = false := by
  simpa [regAligned] using And.intro (not_and.1 not8) (not_and.1 not4)

theorem State.regWrite_of_misaligned (s : State) (via : Via) (a n v : Nat) (h : regAligned a n = false) :
    s.regWrite via a n v = ⟨3, 0, s.note41 (regPlaceUnit a) a⟩ := by
  simp [State.regWrite, h, State.regRefused]

theorem State.regRead_of_misaligned (s : State) (via : Via) (a n : Nat) (h : regAligned a n = false) :
    s.regRead via a n = ⟨3, 0, s.note41 (regPlaceUnit a) a⟩ := by
  simp [State.regRead, h, State.regRefused]

/-- Settles O26: the port tests the alignment first, and a refusal for reason 3 leaves the state with the note. -/
theorem misalignedRegisterAccessRefused : Obligations.MisalignedRegisterAccessRefused := by
  intro s via a n v not8 not4
  have misaligned := regAligned_eq_false not8 not4
  rw [s.regWrite_of_misaligned via a n v misaligned, s.regRead_of_misaligned via a n misaligned]
  exact ⟨rfl, rfl, rfl, rfl⟩

/-! ### The rows of the register port -/

theorem execRegisterWrite_of_plain (s : State) (t : Stamp) (via : Via) (addr size value : Nat) (up : s.up = true)
    (plain : ownRow addr = false) :
    execRegisterWrite t via addr size value s = settled s t ((s.advance t).regWrite via addr size value).state := by
  unfold execRegisterWrite
  rw [liveS_eq _ _ _ up, plain, if_neg Bool.false_ne_true]

/-- A row of a register's own does what the register port does, where the address names that register. -/
theorem liveS_regRow (r : Reg) (s : State) (t : Stamp) (via : Via) (addr size value : Nat) (up : s.up = true)
    (names : namesReg r addr = true) :
    liveS t s (fun s => s.regRow r via addr size value) = settled s t ((s.advance t).regWrite via addr size value).state := by
  rw [liveS_eq _ _ _ up, State.regRow, if_pos names]

theorem execCtrValue_of_names (s : State) (t : Stamp) (via : Via) (addr size : Nat) (up : s.up = true)
    (names : namesReg .CTR_VALUE addr = true) :
    execCtrValue t via addr size s = settled s t (((s.advance t).regRead via addr size).state.emit .regRead
      [addr, ((s.advance t).regRead via addr size).err, ((s.advance t).regRead via addr size).val]) := by
  unfold execCtrValue
  rw [liveS_eq _ _ _ up, if_pos names]

/-! ### Wraps of counters -/

theorem execCounterWrap_eq (s : State) (t : Stamp) (bank i : Nat) (up : s.up = true) (isBank : bank ≤ 8856)
    (isCounter : i < bankSize bank) :
    execCounterWrap t bank i s = settled s t
      (if (s.advance t).hiddenCount bank i then (s.advance t).counterWrap bank i
       else if 2 ^ 48 ≤ ((s.advance t).countParts bank i).1.1 then ((s.advance t).settleCount bank i).counterWrap bank i
       else s.advance t) := by
  unfold execCounterWrap
  rw [liveS_eq _ _ _ up, if_neg (by omega)]

/-- Settles O25: on a package that runs each row is the register port's access, or the wrap of the counter it names. -/
theorem registerWritesAndCounters : Obligations.RegisterWritesAndCounters := by
  refine ⟨fun s t via addr size value up => ?_, execCtrValue_of_names, fun s t bank i up isBank isCounter hidden => ?_,
    fun s t bank i up isBank isCounter shown passed => ?_⟩
  · have row (r : Reg) := liveS_regRow r s t via addr size value up
    exact ⟨execRegisterWrite_of_plain s t via addr size value up, row _, row _, row _, row _, row _, row _, row _⟩
  · exact (execCounterWrap_eq s t bank i up isBank isCounter).trans (by rw [if_pos hidden])
  · exact (execCounterWrap_eq s t bank i up isBank isCounter).trans (by rw [shown, if_neg Bool.false_ne_true, if_pos passed])

end Sys2Proof.Machine
end

section
/-! The mailboxes' registers and rings: the reads of a mailbox and of its registers after an update, the entries that the rings hold, and
that neither ring ever holds more than its bound (R49, R53, R55, R56). -/

namespace Sys2Proof.Machine

/-! ### Folds -/

/-- What each step of a fold keeps, the fold keeps. -/
theorem foldl_keeps {α β γ : Type} (g : α → γ) (f : α → β → α) (keeps : ∀ a b, g (f a b) = g a) (l : List β) (a : α) :
    g (l.foldl f a) = g a := by
  induction l generalizing a with
  | nil => rfl
  | cons b l ih => rw [List.foldl_cons, ih, keeps]

/-! ### Mailboxes after an update -/

@[simp] theorem State.setBox_box_same (s : State) (m : Nat) (b : Mailbox) : (s.setBox m b).box m = b :=
  nget_nputd_same s.keeper.boxes m b Mailbox.empty

theorem State.setBox_box_other (s : State) (m j : Nat) (b : Mailbox) (h : j ≠ m) : (s.setBox m b).box j = s.box j :=
  nget_nputd_other s.keeper.boxes m j b Mailbox.empty h

theorem State.box_of_keeper {s r : State} (h : r.keeper = s.keeper) (m : Nat) : r.box m = s.box m := by
  rw [State.box, State.box, h]

/-! ### Registers after an update -/

theorem State.fld_lt (s : State) (F : Fld) (i : Nat) : s.fld F i < 2 ^ F.w := Nat.mod_lt _ (Nat.two_pow_pos F.w)

theorem State.fld_set_otherReg (s : State) (F G : Fld) (i j v : Nat) (h : F.reg ≠ G.reg) : (s.set F i v).fld G j = s.fld G j :=
  RegFile.fld_withFld_otherWord s.regs F G i j v (.inl h)

theorem State.fld_set_otherIdx (s : State) (F G : Fld) (i j v : Nat) (h : j ≠ i) : (s.set F i v).fld G j = s.fld G j :=
  RegFile.fld_withFld_otherWord s.regs F G i j v (.inr (.inl h.symm))

/-! ### The signal of a path -/

/-- An MSI to a hart whose domain is OFF is counted at the domain, and no other register changes. -/
theorem State.fld_msi (s : State) (hart file guest eiid : Nat) (F : Fld) (i : Nat) (h : F.reg ≠ .PWR_DOMAIN) :
    (s.msi hart file guest eiid).fld F i = s.fld F i := by
  unfold State.msi
  dsimp only
  split
  · rfl
  · split
    · rfl
    · exact s.fld_set_otherReg _ F _ i _ (Ne.symm h)

theorem State.fld_msix (s : State) (p fn v : Nat) (F : Fld) (i : Nat) : (s.msix p fn v).fld F i = s.fld F i := by
  unfold State.msix
  dsimp only
  split
  · rfl
  · split <;> rfl

theorem State.fld_signal (s : State) (m : Nat) (F : Fld) (i : Nat) (h : F.reg ≠ .PWR_DOMAIN) : (s.signal m).fld F i = s.fld F i := by
  unfold State.signal
  split
  · exact s.fld_msi _ _ _ _ F i h
  · exact s.fld_msix _ _ _ F i
  · rfl
  · rfl

@[simp] theorem State.alertRelease_regs (s : State) : s.alertRelease.regs = s.regs := by
  unfold State.alertRelease
  split <;> rfl

@[simp] theorem State.alertRelease_keeper (s : State) : s.alertRelease.keeper = s.keeper := by
  unfold State.alertRelease
  split <;> rfl

/-! ### The entries a ring holds -/

/-- The rings of a mailbox hold what its tails and heads say. -/
theorem State.cmpUsed_congr {s r : State} {m : Nat} (tail : r.fld MBX_STATUS.CMP_TAIL m = s.fld MBX_STATUS.CMP_TAIL m)
    (head : r.fld MBX_CMP_HEAD.CMP_HEAD m = s.fld MBX_CMP_HEAD.CMP_HEAD m) : r.cmpUsed m = s.cmpUsed m := by
  rw [State.cmpUsed, State.cmpUsed, tail, head]

theorem State.evtUsed_congr {s r : State} {m : Nat} (tail : r.fld MBX_STATUS.EVT_TAIL m = s.fld MBX_STATUS.EVT_TAIL m)
    (head : r.fld MBX_EVT_HEAD.EVT_HEAD m = s.fld MBX_EVT_HEAD.EVT_HEAD m) : r.evtUsed m = s.evtUsed m := by
  rw [State.evtUsed, State.evtUsed, tail, head]

/-- A tail that advances by one, in a ring that is not full, holds one entry more. -/
theorem ringUsed_succ (size tail head : Nat) (tailLt : tail < size) (headLt : head < size)
    (room : (tail + size - head) % size + 1 < size) :
    ((tail + 1) % size + size - head) % size = (tail + size - head) % size + 1 := by
  have wrap : ((tail + 1) % size + size - head) % size = (tail + size - head + 1) % size := by
    rcases Nat.lt_or_ge (tail + 1) size with below | full
    · rw [Nat.mod_eq_of_lt below]
      congr 1
      omega
    · have last : tail + 1 = size := by omega
      have next : tail + size - head + 1 = size - head + size := by omega
      rw [last, Nat.mod_self, Nat.zero_add, next, Nat.add_mod_right]
  rw [wrap, ← Nat.mod_add_mod, Nat.mod_eq_of_lt room]

/-! ### Completions -/

/-- R55: a completion advances its ring's tail; of the registers that the mailboxes read, its signal changes none. -/
theorem State.fld_writeCmp (s : State) (m : Nat) (c : Cmp) (F : Fld) (i : Nat) (h : F.reg ≠ .PWR_DOMAIN) :
    (s.writeCmp m c).fld F i = (s.set MBX_STATUS.CMP_TAIL m (s.fld MBX_STATUS.CMP_TAIL m + 1)).fld F i := by
  unfold State.writeCmp
  dsimp only
  split
  · exact State.fld_signal _ m F i h
  · rfl

theorem State.cmpUsed_writeCmp_same (s : State) (m : Nat) (c : Cmp) (room : s.cmpUsed m < 16) :
    (s.writeCmp m c).cmpUsed m = s.cmpUsed m + 1 := by
  have tail : (s.writeCmp m c).fld MBX_STATUS.CMP_TAIL m = (s.fld MBX_STATUS.CMP_TAIL m + 1) % 32 := by
    rw [s.fld_writeCmp m c _ _ (by decide)]
    exact s.fld_set_same MBX_STATUS.CMP_TAIL m _ (by decide)
  have head : (s.writeCmp m c).fld MBX_CMP_HEAD.CMP_HEAD m = s.fld MBX_CMP_HEAD.CMP_HEAD m := by
    rw [s.fld_writeCmp m c _ _ (by decide), s.fld_set_otherReg _ _ _ _ _ (by decide)]
  rw [State.cmpUsed, tail, head]
  exact ringUsed_succ 32 _ _ (s.fld_lt MBX_STATUS.CMP_TAIL m) (s.fld_lt MBX_CMP_HEAD.CMP_HEAD m)
    (Nat.lt_of_le_of_lt (Nat.succ_le_of_lt room) (by decide))

theorem State.cmpUsed_writeCmp_other (s : State) (m n : Nat) (c : Cmp) (h : n ≠ m) : (s.writeCmp m c).cmpUsed n = s.cmpUsed n :=
  State.cmpUsed_congr (by rw [s.fld_writeCmp m c _ _ (by decide), s.fld_set_otherIdx _ _ _ _ _ h])
    (by rw [s.fld_writeCmp m c _ _ (by decide), s.fld_set_otherIdx _ _ _ _ _ h])

/-- R49: what holds before the completions that are due and is kept by each completion for which the ring has room holds after them. -/
theorem flushDue_induction {P : State → Prop} (m : Nat) (write : ∀ s c, s.cmpUsed m < 16 → P s → P (s.writeCmp m c)) (l : List Taken)
    (s : State) (h : P s) : P (flushDue m l s).2 := by
  induction l generalizing s with
  | nil => exact h
  | cons k l ih =>
    unfold flushDue
    split
    · split
      · split
        · exact ih s h
        · split
          · next room => exact ih _ (write s _ room h)
          · exact ih s h
      · exact ih s h
    · exact ih s h

theorem State.cmpUsed_flushBox_le (s : State) (m n : Nat) (h : s.cmpUsed n ≤ 16) : (s.flushBox m).cmpUsed n ≤ 16 := by
  refine flushDue_induction (P := fun r => r.cmpUsed n ≤ 16) m (fun r c room bound => ?_) (s.box m).taken s h
  by_cases same : n = m
  · rw [same, r.cmpUsed_writeCmp_same m c room]
    exact room
  · rwa [r.cmpUsed_writeCmp_other m n c same]

/-! ### Events -/

/-- R53 and R56: an event in a mailbox that is not being reset advances its ring's tail where the ring has room, and is counted lost where
it has none. -/
theorem State.fld_pushEvt (s : State) (m code : Nat) (x : Stamp) (p : List Byte) (F : Fld) (i : Nat) (h : F.reg ≠ .PWR_DOMAIN) :
    (s.pushEvt m code x p).fld F i =
      if (s.box m).resetting then s.fld F i
      else if s.evtUsed m < 32 then (s.set MBX_STATUS.EVT_TAIL m (s.fld MBX_STATUS.EVT_TAIL m + 1)).fld F i
      else (s.bumpSat MBX_STATUS.EVT_LOST m 1).fld F i := by
  unfold State.pushEvt
  dsimp only
  split
  · rfl
  · split
    · split
      · exact State.fld_signal _ m F i h
      · rfl
    · rfl

theorem State.evtUsed_bumpLost (s : State) (m n k : Nat) : (s.bumpSat MBX_STATUS.EVT_LOST m k).evtUsed n = s.evtUsed n :=
  State.evtUsed_congr (s.fld_set_other MBX_STATUS.EVT_LOST MBX_STATUS.EVT_TAIL m n _ (by decide)
      (.inr (.inr (.inr (.inr (by decide))))))
    (s.fld_set_otherReg MBX_STATUS.EVT_LOST MBX_EVT_HEAD.EVT_HEAD m n _ (by decide))

/-- An event that finds room takes one entry of its own ring. -/
theorem State.evtUsed_setTail (s : State) (m n : Nat) (room : s.evtUsed m < 32) :
    (s.set MBX_STATUS.EVT_TAIL m (s.fld MBX_STATUS.EVT_TAIL m + 1)).evtUsed n = if n = m then s.evtUsed m + 1 else s.evtUsed n := by
  split
  · next same =>
    rw [same, State.evtUsed, s.fld_set_same MBX_STATUS.EVT_TAIL m _ (by decide), s.fld_set_otherReg _ _ _ _ _ (by decide)]
    exact ringUsed_succ 64 _ _ (s.fld_lt MBX_STATUS.EVT_TAIL m) (s.fld_lt MBX_EVT_HEAD.EVT_HEAD m)
      (Nat.lt_of_le_of_lt (Nat.succ_le_of_lt room) (by decide))
  · next other => exact State.evtUsed_congr (s.fld_set_otherIdx _ _ _ _ _ other) (s.fld_set_otherIdx _ _ _ _ _ other)

theorem State.evtUsed_pushEvt_le (s : State) (m code n : Nat) (x : Stamp) (p : List Byte) (h : s.evtUsed n ≤ 32) :
    (s.pushEvt m code x p).evtUsed n ≤ 32 := by
  have tail := s.fld_pushEvt m code x p MBX_STATUS.EVT_TAIL n (by decide)
  have head := s.fld_pushEvt m code x p MBX_EVT_HEAD.EVT_HEAD n (by decide)
  split at tail
  · next resetting => rwa [State.evtUsed_congr tail (by rw [head, if_pos resetting])]
  · next running =>
    rw [if_neg running] at head
    split at tail
    · next room =>
      rw [State.evtUsed_congr tail (by rw [head, if_pos room]), s.evtUsed_setTail m n room]
      split
      · exact room
      · exact h
    · next full => rwa [State.evtUsed_congr tail (by rw [head, if_neg full]), s.evtUsed_bumpLost]

/-- What each mailbox's event keeps, an event to all of them keeps. -/
theorem State.deliver_induction {P : State → Prop} (code : Nat) (x : Stamp) (p : List Byte) (sc : EvScope)
    (push : ∀ s m, P s → P (s.pushEvt m code x p)) (s : State) (h : P s) : P (s.deliver code x p sc) := by
  refine List.foldlRecOn _ _ h fun r hr m _ => ?_
  split
  · exact push r m hr
  · exact hr

/-- Settles O5: a completion and an event take an entry only where their ring has room. -/
theorem ringsKeepTheirBounds : Obligations.RingsKeepTheirBounds :=
  ⟨State.cmpUsed_writeCmp_same, State.cmpUsed_flushBox_le, State.evtUsed_pushEvt_le,
    fun s code n x p sc => State.deliver_induction (P := fun r => r.evtUsed n ≤ 32) code x p sc
      (fun r m => r.evtUsed_pushEvt_le m code n x p) s⟩

end Sys2Proof.Machine
end

section
/-! The rows of the mailboxes and of the sideband bus: doorbells (R47), the consumer heads and the mailbox reset (R49, R52, R53), taking and
ending commands (R48, R51), and the accesses of the bus (R46). -/

namespace Sys2Proof.Machine

open Sys2Proof.Safety

/-! ### Doorbells -/

/-- The commands that a doorbell leaves outstanding: from CMD_HEAD up to the tail it names. -/
def State.outstanding (s : State) (m tail : Nat) : Nat := (tail % 32 + 32 - s.fld MBX_STATUS.CMD_HEAD m) % 32

/-- R47: the entries of a doorbell that come new, with its stamp. -/
def State.newEntries (s : State) (m tail : Nat) : List CmdEntry :=
  (List.range (s.outstanding m tail - (s.box m).waiting.length)).map (fun i =>
    ⟨(s.box m).slot ((s.fld MBX_STATUS.CMD_HEAD m + (s.box m).waiting.length + i) % 16), s.stb, 0⟩)

theorem State.doorbell_of_notReady (s : State) (m tail : Nat) (h : s.fld MBX_STATUS.READY m = 0) :
    s.doorbell m tail = s.set MBX_ERR.BAD_DOORBELL m 1 := if_pos (.inr h)

section
variable (s : State) (m tail : Nat) (running : (s.box m).resetting = false) (ready : s.fld MBX_STATUS.READY m ≠ 0)
include running ready

theorem State.doorbell_of_overrun (many : 16 < s.outstanding m tail) : s.doorbell m tail = s.set MBX_ERR.RING_OVERRUN m 1 :=
  (if_neg (by simp [running, ready])).trans (if_pos many)

theorem State.doorbell_of_backwards (fits : s.outstanding m tail ≤ 16) (back : s.outstanding m tail < (s.box m).waiting.length) :
    s.doorbell m tail = s.set MBX_ERR.BAD_DOORBELL m 1 :=
  (if_neg (by simp [running, ready])).trans ((if_neg (Nat.not_lt.2 fits)).trans (if_pos back))

theorem State.doorbell_of_forwards (fits : s.outstanding m tail ≤ 16) (forth : (s.box m).waiting.length ≤ s.outstanding m tail) :
    s.doorbell m tail = ({ s with pow := { s.pow with active := true } } : State).endIdle.setBox m
      { s.box m with waiting := (s.box m).waiting ++ s.newEntries m tail } :=
  (if_neg (by simp [running, ready])).trans ((if_neg (Nat.not_lt.2 fits)).trans (if_neg (Nat.not_lt.2 forth)))

end

@[simp] theorem State.endIdle_keeper (s : State) : s.endIdle.keeper = s.keeper := by
  unfold State.endIdle
  split <;> rfl

@[simp] theorem State.endIdle_mem (s : State) : s.endIdle.mem = s.mem := by
  unfold State.endIdle
  split <;> rfl

theorem State.fld_endIdle_idle (s : State) : s.endIdle.fld PPM_STATUS.IDLE 0 = 0 := by
  unfold State.endIdle
  split
  · exact State.fld_set_same _ PPM_STATUS.IDLE 0 0 (by decide)
  · next awake =>
    have bit : s.fld PPM_STATUS.IDLE 0 < 2 := s.fld_lt PPM_STATUS.IDLE 0
    have ne : s.fld PPM_STATUS.IDLE 0 ≠ 1 := by simpa [State.is] using awake
    omega

theorem execMbxDoorbellCmdTail_of_pathOk (s : State) (t : Stamp) (m : Nat) (via : Via) (tail : Nat) (up : s.up = true) (isBox : m < 64)
    (own : s.pathOk m via = true) : execMbxDoorbellCmdTail t m via tail s = left s t ((s.advance t).doorbell m tail) := by
  unfold execMbxDoorbellCmdTail
  rw [if_pos (.inr up), live_eq _ _ _ up, if_neg (Nat.not_le.2 isBox), State.advance_pathOk, if_pos own]

/-- Settles O17: the doorbell appends the new entries to those that wait, in a state whose IDLE has ended. -/
theorem commandDoorbellCopies : Obligations.CommandDoorbellCopies := by
  intro s t m via tail up isBox own running ready n b fits forth
  refine ⟨_, execMbxDoorbellCmdTail_of_pathOk s t m via tail up isBox own, ?_⟩
  rw [(s.advance t).doorbell_of_forwards m tail running ready fits forth]
  refine ⟨congrArg Mailbox.waiting (State.setBox_box_same _ _ _), fun j other => ?_, ?_, ?_⟩
  · rw [State.setBox_box_other _ _ _ _ other, State.box_of_keeper (State.endIdle_keeper _)]
    rfl
  · rw [State.setBox_fld, State.fld_endIdle_idle]
  · rw [State.setBox_mem, State.endIdle_mem]
    rfl

/-- Settles O18: each test that the doorbell fails sets its bit and nothing else. -/
theorem commandDoorbellRefused : Obligations.CommandDoorbellRefused := by
  intro s t m via tail up isBox own running n
  have row := execMbxDoorbellCmdTail_of_pathOk s t m via tail up isBox own
  refine ⟨fun notReady => ?_, fun ready many => ?_, fun ready fits back => ?_⟩
  · exact row.trans (by rw [(s.advance t).doorbell_of_notReady m tail notReady])
  · exact row.trans (by rw [(s.advance t).doorbell_of_overrun m tail running ready many])
  · exact row.trans (by rw [(s.advance t).doorbell_of_backwards m tail running ready fits back])

/-! ### Consumer heads -/

theorem State.cmpHead_of_within (s : State) (m head : Nat) (runs : s.keeper.restarting = none)
    (within : (head % 32 + 32 - s.fld MBX_CMP_HEAD.CMP_HEAD m) % 32 ≤ s.cmpUsed m) :
    s.cmpHead m head = ((s.set MBX_CMP_HEAD.CMP_HEAD m head).alertRelease).flushBox m := by
  unfold State.cmpHead
  rw [if_neg (Nat.not_lt.2 within)]
  simp [runs]

theorem State.evtHead_of_within (s : State) (m head : Nat) (runs : s.keeper.restarting = none)
    (within : (head % 64 + 64 - s.fld MBX_EVT_HEAD.EVT_HEAD m) % 64 ≤ s.evtUsed m) :
    s.evtHead m head = ((s.set MBX_EVT_HEAD.EVT_HEAD m head).alertRelease).lostEvent m := by
  unfold State.evtHead
  rw [if_neg (Nat.not_lt.2 within)]
  simp [runs]

/-! ### The mailbox reset -/

theorem State.boxReset_box (s : State) (m : Nat) : (s.boxReset m).box m =
    { s.box m with waiting := [], cmps := [], evts := [], evtSeq := 0, resetting := true,
                   taken := (s.box m).taken.map (fun k => { k with discard := true }) } :=
  (State.box_of_keeper (State.alertRelease_keeper _) m).trans (State.setBox_box_same _ _ _)

/-- R52: after a mailbox reset, MBX_STATUS holds KEEPER_RESTART alone, and the heads and the sequence number are 0. -/
theorem State.boxReset_words (s : State) (m : Nat) :
    (s.boxReset m).word .MBX_STATUS m 0 = wset 0 33 1 (s.fld MBX_STATUS.KEEPER_RESTART m) ∧ (s.boxReset m).word .MBX_CMP_HEAD m 0 = 0 ∧
      (s.boxReset m).word .MBX_EVT_HEAD m 0 = 0 ∧ (s.boxReset m).word .MBX_SEQ m 0 = 0 := by
  unfold State.boxReset
  simp [State.word, State.setWord, RegFile.word_withWord_same, RegFile.word_withWord_other]

theorem State.fld_boxReset_status (s : State) (m : Nat) (F : Fld) (reg : F.reg = .MBX_STATUS) (word : F.word = 0)
    (low : F.lo + F.w ≤ 33) : (s.boxReset m).fld F m = 0 := by
  obtain ⟨status, _, _, _⟩ := s.boxReset_words m
  have bits : (s.boxReset m).fld F m = wbits (wset 0 33 1 (s.fld MBX_STATUS.KEEPER_RESTART m)) F.lo F.w := by
    rw [← status, ← reg, ← word]
    rfl
  rw [bits, wbits_wset_apart _ _ _ _ _ _ (by omega) (.inr low)]
  simp [wbits]

theorem State.fld_of_zeroWord (s : State) (F : Fld) (i : Nat) (h : s.word F.reg i F.word = 0) : s.fld F i = 0 := by
  have bits : s.fld F i = wbits (s.word F.reg i F.word) F.lo F.w := rfl
  simp [bits, h, wbits]

theorem State.cmpUsed_boxReset (s : State) (m : Nat) : (s.boxReset m).cmpUsed m = 0 := by
  obtain ⟨_, head, _, _⟩ := s.boxReset_words m
  rw [State.cmpUsed, s.fld_boxReset_status m MBX_STATUS.CMP_TAIL rfl rfl (by decide), State.fld_of_zeroWord _ MBX_CMP_HEAD.CMP_HEAD m head]

theorem State.evtUsed_boxReset (s : State) (m : Nat) : (s.boxReset m).evtUsed m = 0 := by
  obtain ⟨_, _, head, _⟩ := s.boxReset_words m
  rw [State.evtUsed, s.fld_boxReset_status m MBX_STATUS.EVT_TAIL rfl rfl (by decide), State.fld_of_zeroWord _ MBX_EVT_HEAD.EVT_HEAD m head]

/-! ### The rows of the pointers and of the reset -/

section
variable (s : State) (t : Stamp) (m : Nat) (via : Via) (up : s.up = true) (isBox : m < 64) (own : s.pathOk m via = true)
include up isBox own

theorem execMbxCmpHead_of_pathOk (head : Nat) : execMbxCmpHead t m via head s = settled s t ((s.advance t).cmpHead m head) := by
  unfold execMbxCmpHead
  rw [liveS_eq _ _ _ up, if_neg (Nat.not_le.2 isBox), State.advance_pathOk, if_pos own]

theorem execMbxEvtHead_of_pathOk (head : Nat) : execMbxEvtHead t m via head s = settled s t ((s.advance t).evtHead m head) := by
  unfold execMbxEvtHead
  rw [liveS_eq _ _ _ up, if_neg (Nat.not_le.2 isBox), State.advance_pathOk, if_pos own]

theorem execMbxDoorbellReset_of_pathOk : execMbxDoorbellReset t m via s = settled s t ((s.advance t).boxReset m) := by
  unfold execMbxDoorbellReset
  rw [liveS_eq _ _ _ up, if_neg (Nat.not_le.2 isBox), State.advance_pathOk, if_pos own]

end

theorem execMailboxResetEnd_of_resetting (s : State) (t : Stamp) (m : Nat) (up : s.up = true) (isBox : m < 64)
    (resetting : (s.box m).resetting = true) :
    execMailboxResetEnd t m s = settled s t
      (((s.advance t).setBox m { s.box m with resetting := false }).set MBX_STATUS.READY m 1).portsReady := by
  unfold execMailboxResetEnd
  rw [liveS_eq _ _ _ up]
  dsimp only
  rw [State.advance_box, if_pos ⟨isBox, resetting⟩]

/-- Settles O19: each row of a mailbox's own path is the operation of its register, and the reset leaves its words and its mailbox empty. -/
theorem mailboxPointersAndReset : Obligations.MailboxPointersAndReset := by
  refine ⟨fun s t m via head up isBox own runs => ⟨fun within => ?_, fun within => ?_⟩, fun s t m via up isBox own => ?_,
    execMailboxResetEnd_of_resetting⟩
  · exact (execMbxCmpHead_of_pathOk s t m via up isBox own head).trans
      (by rw [(s.advance t).cmpHead_of_within m head runs within])
  · exact (execMbxEvtHead_of_pathOk s t m via up isBox own head).trans
      (by rw [(s.advance t).evtHead_of_within m head runs within])
  · refine ⟨_, execMbxDoorbellReset_of_pathOk s t m via up isBox own, ?_⟩
    obtain ⟨_, _, _, seq⟩ := (s.advance t).boxReset_words m
    rw [State.boxReset_box]
    exact ⟨rfl, rfl, rfl, State.cmpUsed_boxReset _ m, State.evtUsed_boxReset _ m,
      State.fld_boxReset_status _ m MBX_STATUS.READY rfl rfl (by decide), State.fld_of_zeroWord _ MBX_SEQ.SEQ_EXPECT m seq⟩

/-! ### Commands taken and ended -/

theorem execCommandTake_of_firstBox (s : State) (t : Stamp) (m : Nat) (up : s.up = true) (runs : s.keeper.restarting = none)
    (noActivation : s.keeper.activate = none) (first : (s.advance t).firstBox = some m) :
    execCommandTake t s = settled s t ((s.advance t).takeFrom m) := by
  unfold execCommandTake
  rw [liveS_eq _ _ _ up, first]
  simp [runs, noActivation]

theorem execCommandBoundExpiry_of_runs (s : State) (t : Stamp) (m seq : Nat) (up : s.up = true) (runs : s.keeper.restarting = none) :
    execCommandBoundExpiry t m seq s = settled s t (((s.advance t).dropCommands m stTimeout
      (fun k => k.seq == seq && k.final.isNone && decide (k.bound ≤ (s.advance t).stb))).flushBox m) := by
  unfold execCommandBoundExpiry
  rw [liveS_eq _ _ _ up, State.advance_keeper, runs, if_neg (by simp)]

theorem execFinalCompletion_of_runs (s : State) (t : Stamp) (m seq : Nat) (up : s.up = true) (runs : s.keeper.restarting = none) :
    execFinalCompletion t m seq s = settled s t (((s.advance t).mapTaken m
      (fun k => k.seq == seq && k.pended && k.final.isSome) (fun k => { k with due := true })).flushBox m) := by
  unfold execFinalCompletion
  rw [liveS_eq _ _ _ up, State.advance_keeper, runs, if_neg (by simp)]

/-- Settles O20: while the keeper runs, each row is its operation on the state at its stamp. -/
theorem commandsTakenAndEnded : Obligations.CommandsTakenAndEnded :=
  ⟨execCommandTake_of_firstBox, execCommandBoundExpiry_of_runs, execFinalCompletion_of_runs⟩

/-! ### The sideband bus -/

section
variable (s : State) (t : Stamp) (up : s.up = true)
include up

theorem execSmbusPointerWrite_of_badPec (m off : Nat) :
    execSmbusPointerWrite t m off false s = settled s t ((s.advance t).emit .smbusNack [0xA0]) := by
  unfold execSmbusPointerWrite
  rw [liveS_eq _ _ _ up, if_pos (.inl rfl)]

theorem execSmbusDataWrite_of_badPec (data : List Byte) :
    execSmbusDataWrite t data false s = settled s t ((s.advance t).emit .smbusNack [0xA1]) := by
  unfold execSmbusDataWrite
  rw [liveS_eq _ _ _ up, if_neg (by simp)]

theorem execAlertResponseAddress_of_asserted (alert : s.pins.smbalertN = false) :
    execAlertResponseAddress t s = settled s t ((s.advance t).emit .alertAddress [s.fld STRAP_STATUS.SMB_ADDR_USED 0]) := by
  unfold execAlertResponseAddress
  rw [liveS_eq _ _ _ up, State.advance_pins, alert, if_neg Bool.false_ne_true, State.advance_fld]

variable (awake : s.pow.eclipse = false)
include awake

theorem execSmbusPointerWrite_of_place (m off : Nat) (isBox : m < 64) (word : off % 8 = 0) (inWindow : off < 0x4000) :
    execSmbusPointerWrite t m off true s =
      settled s t { s.advance t with keeper := { (s.advance t).keeper with ptrBox := m, ptrOff := off } } := by
  unfold execSmbusPointerWrite
  rw [liveS_eq _ _ _ up, if_neg (by simp [awake]), if_pos ⟨isBox, word, inWindow⟩]

theorem execSmbusDataWrite_of_words (data : List Byte) (words : data.length % 8 = 0) (least : 8 ≤ data.length)
    (most : data.length ≤ 32) :
    execSmbusDataWrite t data true s = settled s t (smbusStore (data.length / 8) data (s.advance t)) := by
  unfold execSmbusDataWrite
  rw [liveS_eq _ _ _ up, if_pos ⟨rfl, awake, words, least, most⟩]

theorem execSmbusDataRead_of_awake :
    execSmbusDataRead t s =
      settled s t ((smbusLoad 4 (s.advance t)).2.emit .smbus [0xA2] (smbusLoad 4 (s.advance t)).1) := by
  unfold execSmbusDataRead
  rw [liveS_eq _ _ _ up, State.advance_pow, awake, if_neg Bool.false_ne_true]

end

/-- Settles O21: where the package is awake, each access of the bus with a good PEC is carried out; one with a bad PEC is NACKed. -/
theorem sidebandBus : Obligations.SidebandBus :=
  ⟨fun s t m off up awake => execSmbusPointerWrite_of_place s t up awake m off,
    fun s t data up awake => execSmbusDataWrite_of_words s t up awake data, execSmbusDataRead_of_awake,
    execAlertResponseAddress_of_asserted,
    fun s t m off data up => ⟨execSmbusPointerWrite_of_badPec s t up m off, execSmbusDataWrite_of_badPec s t up data⟩⟩

end Sys2Proof.Machine
end

section
/-! The commands of the mailboxes: what a row does where a command waits for it (R49, R51, R62), and what the commands that only report
leave (R63, R70, R72, R73, R77). -/

namespace Sys2Proof.Machine

open Sys2Proof.Safety

/-! ### Commands carried out -/

/-- A command that waits and has its turn runs its effect, whose end is noted. -/
theorem runCommand_of_waits {s : State} {m op : Nat} {pick : List Byte → Bool} {k : Taken} (waits : Waits s m op pick k) (t : Stamp)
    (f : Caller → List Byte → State → Reply) : runCommand m op pick f (s.advance t) = ended m k (replyOf f s t m k) := by
  obtain ⟨_, keeper, turn, oldest⟩ := waits
  have hasTurn : (s.advance t).bookingTurn k = true := turn
  unfold runCommand
  rw [State.advance_keeper, keeper, if_neg (by simp), State.advance_box, oldest]
  dsimp only
  rw [hasTurn, if_neg (by simp)]
  rfl

/-- A row that runs the oldest command of its opcode carries it out. -/
theorem carries_of_runCommand {row : Stamp → Nat → Instr} {op : Nat} {pick : List Byte → Bool} {f : Caller → List Byte → State → Reply}
    (runs : ∀ t m s, exec (row t m) s = liveS t s (runCommand m op pick f)) : carries row op pick f := by
  intro s t m k waits _
  rw [runs, liveS_eq _ _ _ waits.runs, runCommand_of_waits waits]

theorem carries_of_rowCommand {row : Stamp → Nat → Instr} {op : Nat} {f : Caller → List Byte → State → Reply}
    (runs : ∀ t m s, exec (row t m) s = rowCommand t m op f s) : carries row op anyPayload f :=
  carries_of_runCommand runs

/-- R424: the rows of COUNTER_ACCESS tell their subcommands apart by the payload's first byte. -/
theorem carries_of_counterRow {row : Stamp → Nat → Instr} {sub : Nat} {pick : List Byte → Bool} {f : Caller → List Byte → State → Reply}
    (picks : ∀ p, (leAt p 0 1 == sub || (sub == 0 && decide (3 < leAt p 0 1))) = pick p)
    (runs : ∀ t m s, exec (row t m) s = counterRow t m sub f s) : carries row 0x0E00 pick f :=
  carries_of_runCommand fun t m s => by rw [runs, counterRow, funext picks]

/-- Settles O12: each row runs the oldest command of its opcode. -/
theorem bookingCommands : Obligations.BookingCommands := by
  refine ⟨?_, ?_, ?_, ?_, ?_, ?_, ?_, ?_⟩ <;> exact carries_of_rowCommand fun _ _ _ => rfl

/-- Settles O13: each row runs the oldest command of its opcode. -/
theorem serviceAndMemoryCommands : Obligations.ServiceAndMemoryCommands := by
  refine ⟨?_, ?_, ?_, ?_, ?_, ?_, ?_, ?_, ?_, ?_, ?_, ?_⟩ <;> exact carries_of_rowCommand fun _ _ _ => rfl

/-- Settles O14: each row runs the oldest command of its opcode. -/
theorem maintenanceTimeAndSaveCommands : Obligations.MaintenanceTimeAndSaveCommands := by
  refine ⟨?_, ?_, ?_, ?_, ?_, ?_, ?_, ?_, ?_, ?_, ?_, ?_, ?_, ?_⟩ <;> exact carries_of_rowCommand fun _ _ _ => rfl

/-- Settles O15: three rows take an operand beside the mailbox, and the subcommands of DEBUG_AUTH and COUNTER_ACCESS pick their payload. -/
theorem constellationTenantPowerAndDebugCommands : Obligations.ConstellationTenantPowerAndDebugCommands := by
  refine ⟨fun _ => ?_, fun _ => ?_, ?_, fun _ => ?_, ?_, ?_, ?_, ?_, ?_, ?_, carries_of_runCommand fun _ _ _ => rfl,
    carries_of_runCommand fun _ _ _ => rfl, ?_, ?_, ?_, carries_of_counterRow (sub := 0) (by simp) fun _ _ _ => rfl,
    carries_of_counterRow (sub := 1) (by simp) fun _ _ _ => rfl, carries_of_counterRow (sub := 2) (by simp) fun _ _ _ => rfl,
    carries_of_counterRow (sub := 3) (by simp) fun _ _ _ => rfl⟩ <;> exact carries_of_rowCommand fun _ _ _ => rfl

/-! ### Commands that only report -/

/-- A command whose checks fail changes nothing; else its core says what it leaves. -/
theorem paramChecks_state {P : State → Prop} (s : State) (cs : List (Nat × Bool)) (f : Unit → Reply) (refused : P s)
    (done : P (f ()).state) : P (paramChecks s cs f).state := by
  unfold paramChecks
  split
  · exact refused
  · exact done

theorem Reply.ok_state (s : State) (r : List Byte) : (Reply.ok s r).state = s := rfl

theorem cmdQueryCapacity_state (c : Caller) (p : List Byte) (s : State) : (cmdQueryCapacity c p s).state = s := by
  refine paramChecks_state (P := (· = s)) s _ _ rfl ?_
  dsimp only
  split
  · rfl
  · split
    · rfl
    · split <;> rfl

theorem cmdFaultLogRead_state (c : Caller) (p : List Byte) (s : State) : (cmdFaultLogRead c p s).state = s :=
  paramChecks_state (P := (· = s)) s _ _ rfl rfl

/-! ### Free values (log 8) -/

/-- The two states differ at most in the number of the next free value. -/
def TakesFree (s r : State) : Prop := ∃ n, r = { s with freshCount := n }

theorem TakesFree.refl (s : State) : TakesFree s s := ⟨s.freshCount, rfl⟩

theorem TakesFree.free (s : State) : TakesFree s s.free.2 := ⟨s.freshCount + 1, rfl⟩

theorem TakesFree.trans {s r q : State} (first : TakesFree s r) (second : TakesFree r q) : TakesFree s q := by
  obtain ⟨n, rfl⟩ := first
  obtain ⟨k, rfl⟩ := second
  exact ⟨k, rfl⟩

theorem cmdMaintStatus_takesFree (c : Caller) (p : List Byte) (s : State) : TakesFree s (cmdMaintStatus c p s).state := by
  refine paramChecks_state s _ _ (.refl s) ?_
  dsimp only
  split
  · exact .refl s
  · split
    · exact .free s
    · exact .refl s

theorem rateByte_takesFree (code : Nat) (s : State) : TakesFree s (rateByte code s).2 := by
  unfold rateByte
  split
  case h_2 => exact .free s
  all_goals exact .refl s

theorem portTopology_takesFree (ports : List Nat) (s : State) : TakesFree s (portTopology ports s).2 := by
  induction ports generalizing s with
  | nil => exact .refl s
  | cons p ports ih => exact (rateByte_takesFree _ s).trans (ih _)

theorem cmdGetTopology_takesFree (c : Caller) (p : List Byte) (s : State) : TakesFree s (cmdGetTopology c p s).state := by
  refine paramChecks_state s _ _ (.refl s) ?_
  dsimp only
  split
  case h_3 =>
    rw [Reply.ok_state]
    exact portTopology_takesFree _ s
  all_goals exact .refl s

/-- Settles O11: a query answers from the state it is given, and only the two that take free values move the count of those. -/
theorem queriesChangeNothing : Obligations.QueriesChangeNothing := fun c p s =>
  ⟨rfl, rfl, cmdQueryCapacity_state c p s, rfl, rfl, rfl, cmdFaultLogRead_state c p s, cmdMaintStatus_takesFree c p s,
    cmdGetTopology_takesFree c p s⟩

end Sys2Proof.Machine
end

section
/-! The keeper's restarts (R39): what a restart takes back leaves the stamp at which it began, and the rows that begin and end it. -/

namespace Sys2Proof.Machine

open Sys2Proof.Safety

/-! ### Fault collection leaves the keeper -/

@[simp] theorem State.addPend_keeper (s : State) (r : PendRec) : (s.addPend r).keeper = s.keeper := rfl

@[simp] theorem State.setBit_keeper (s : State) (c : Coll) (b : Nat) (on : Bool) (x : Stamp) : (s.setBit c b on x).keeper = s.keeper := by
  unfold State.setBit
  dsimp only
  split
  · split
    · rfl
    · split <;> rfl
  · split <;> rfl

@[simp] theorem State.drive_keeper (n : Nat) : ∀ (s : State) (c : Coll) (x : Stamp), (s.drive n c x).keeper = s.keeper := by
  induction n with
  | zero => exact fun _ _ _ => rfl
  | succ n ih =>
    intro s c x
    unfold State.drive
    dsimp only
    split
    · rfl
    · split
      · split <;> rfl
      · rw [ih, State.setBit_keeper, State.set_keeper]

@[simp] theorem State.checkSafe_keeper (s : State) (x : Stamp) : (s.checkSafe x).keeper = s.keeper := by
  unfold State.checkSafe
  split <;> rfl

@[simp] theorem State.driveAll_keeper (s : State) (c : Coll) (x : Stamp) : (s.driveAll c x).keeper = s.keeper := by
  rw [State.driveAll, State.checkSafe_keeper, State.drive_keeper]

@[simp] theorem State.leakSource_keeper (s : State) (c : Coll) (b : Nat) (upto : Stamp) (ms : Nat) :
    (s.leakSource c b upto ms).keeper = s.keeper := by
  unfold State.leakSource
  dsimp only
  split <;> rfl

@[simp] theorem State.elemReport_keeper (s : State) (c : Coll) (b : Nat) : (s.elemReport c b).keeper = s.keeper := rfl

@[simp] theorem State.elemRoomFor_keeper (s : State) (c : Coll) (b : Nat) (k : ElemKind) : (s.elemRoomFor c b k).keeper = s.keeper := by
  unfold State.elemRoomFor
  dsimp only
  split
  · rfl
  · split
    · rfl
    · split
      · rfl
      · split
        · rfl
        · split <;> rfl

@[simp] theorem State.fill_keeper (s : State) (e : FaultEvt) (d : Source) (now : Stamp) : (s.fill e d now).1.keeper = s.keeper := by
  unfold State.fill
  dsimp only
  split
  · rfl
  · split
    · simp only [apply_ite State.keeper, State.set_keeper, State.leakSource_keeper, ite_self]
    · rfl
    · simp only [State.elemReport_keeper, apply_ite State.keeper, State.elemRoomFor_keeper, ite_self]

@[simp] theorem State.raise_keeper (s : State) (e : FaultEvt) : (s.raise e).keeper = s.keeper := by
  unfold State.raise
  split
  · rfl
  · simp only [State.driveAll_keeper, apply_ite State.keeper, State.addPend_keeper, State.setBit_keeper, State.fill_keeper,
      State.set_keeper, State.bumpSat_keeper, ite_self]

/-! ### The stamp of a restart is left by what the mailboxes do -/

@[simp] theorem State.msi_keeper (s : State) (hart file guest eiid : Nat) : (s.msi hart file guest eiid).keeper = s.keeper := by
  unfold State.msi
  dsimp only
  split
  · rfl
  · split <;> rfl

@[simp] theorem State.msix_keeper (s : State) (p fn v : Nat) : (s.msix p fn v).keeper = s.keeper := by
  unfold State.msix
  dsimp only
  split
  · rfl
  · split <;> rfl

@[simp] theorem State.signal_keeper (s : State) (m : Nat) : (s.signal m).keeper = s.keeper := by
  unfold State.signal
  split <;> simp

@[simp] theorem State.setBox_restartAt (s : State) (m : Nat) (b : Mailbox) :
    (s.setBox m b).keeper.restartAt = s.keeper.restartAt := rfl

@[simp] theorem State.mapTaken_restartAt (s : State) (m : Nat) (p : Taken → Bool) (f : Taken → Taken) :
    (s.mapTaken m p f).keeper.restartAt = s.keeper.restartAt := rfl

@[simp] theorem State.writeCmp_restartAt (s : State) (m : Nat) (c : Cmp) : (s.writeCmp m c).keeper.restartAt = s.keeper.restartAt := by
  unfold State.writeCmp
  dsimp only
  split <;> simp

@[simp] theorem State.flushBox_restartAt (s : State) (m : Nat) : (s.flushBox m).keeper.restartAt = s.keeper.restartAt :=
  flushDue_induction (P := fun r => r.keeper.restartAt = s.keeper.restartAt) m (fun r c _ h => (r.writeCmp_restartAt m c).trans h)
    (s.box m).taken s rfl

@[simp] theorem State.finish_restartAt (s : State) (m id : Nat) (f : Final) : (s.finish m id f).keeper.restartAt = s.keeper.restartAt := by
  rw [State.finish, State.flushBox_restartAt, State.mapTaken_restartAt]

@[simp] theorem State.pushEvt_restartAt (s : State) (m code : Nat) (x : Stamp) (p : List Byte) :
    (s.pushEvt m code x p).keeper.restartAt = s.keeper.restartAt := by
  unfold State.pushEvt
  dsimp only
  split
  · rfl
  · split
    · split <;> simp
    · rfl

@[simp] theorem State.deliver_restartAt (s : State) (code : Nat) (x : Stamp) (p : List Byte) (sc : EvScope) :
    (s.deliver code x p sc).keeper.restartAt = s.keeper.restartAt :=
  State.deliver_induction (P := fun r => r.keeper.restartAt = s.keeper.restartAt) code x p sc
    (fun r m h => (r.pushEvt_restartAt m code x p).trans h) s rfl

@[simp] theorem State.event_restartAt (s : State) (code : Nat) (x : Stamp) (p : List Byte) (sc : EvScope) :
    (s.event code x p sc).keeper.restartAt = s.keeper.restartAt := by
  unfold State.event
  split
  · rfl
  · exact s.deliver_restartAt code x p sc

@[simp] theorem State.lostEvent_restartAt (s : State) (m : Nat) : (s.lostEvent m).keeper.restartAt = s.keeper.restartAt := by
  unfold State.lostEvent
  dsimp only
  split
  · simp
  · rfl

/-! ### The stamp of a restart is left by what ends an activity -/

@[simp] theorem State.siteFailed_restartAt (s : State) (i op st : Nat) : (s.siteFailed i op st).keeper.restartAt = s.keeper.restartAt := by
  rw [State.siteFailed, State.event_restartAt, State.note41, State.raise_keeper]

@[simp] theorem State.setAct_keeper (s : State) (a : Activity) : (s.setAct a).keeper = s.keeper := rfl

@[simp] theorem State.nextPatrols_keeper (s : State) : s.nextPatrols.keeper = s.keeper := by
  refine foldl_keeps State.keeper _ (fun r n => ?_) _ s
  unfold State.nextPatrol
  dsimp only
  split <;> rfl

@[simp] theorem State.closeAct_restartAt (s : State) (id state result : Nat) :
    (s.closeAct id state result).keeper.restartAt = s.keeper.restartAt := by
  unfold State.closeAct
  split
  · rfl
  · split
    · rfl
    · dsimp only
      rw [State.nextPatrols_keeper, State.event_restartAt]
      split
      · split
        · split <;> simp
        · rw [State.siteFailed_restartAt]
          split <;> simp
      · split <;> simp

@[simp] theorem State.restoreSource_restartAt (s : State) : s.restoreSource.keeper.restartAt = s.keeper.restartAt := by
  unfold State.restoreSource
  split
  · rfl
  · dsimp only
    split <;> simp

@[simp] theorem State.refreshNode_keeper (s : State) (n : Nat) : (s.refreshNode n).keeper = s.keeper := by
  unfold State.refreshNode
  simp only [apply_ite State.keeper, State.set_keeper, ite_self]

@[simp] theorem State.endMirror_keeper (s : State) (a b : Nat) : (s.endMirror a b).keeper = s.keeper := by
  unfold State.endMirror
  dsimp only
  rw [State.refreshNode_keeper]
  split <;> rfl

@[simp] theorem State.laneBad_keeper (s : State) (i d n : Nat) (bad : Bool) : (s.laneBad i d n bad).keeper = s.keeper := by
  unfold State.laneBad State.setBad
  split <;> rfl

@[simp] theorem State.refreshSpares_keeper (s : State) (i : Nat) : (s.refreshSpares i).keeper = s.keeper := rfl

@[simp] theorem State.calibrating_keeper (s : State) (u : Nat) (on : Bool) : (s.calibrating u on).keeper = s.keeper :=
  foldl_keeps State.keeper _ (fun r i => r.set_keeper CTR_BANK.CALIBRATING i (flag on)) _ s

@[simp] theorem State.trigger_keeper (s : State) (res : List Nat) (up : Bool) (u : Nat) : (s.trigger res up u).keeper = s.keeper := rfl

@[simp] theorem State.abortEffect_restartAt (s : State) (a : Activity) : (s.abortEffect a).keeper.restartAt = s.keeper.restartAt := by
  unfold State.abortEffect
  dsimp only
  split
  · split
    · split <;> simp
    · rfl
  · split
    · rw [State.refreshSpares_keeper]
      split <;> simp
    · rfl
  · rfl
  · rfl
  · simp
  · rfl
  · simp
  · rfl

@[simp] theorem State.abortAct_restartAt (s : State) (a : Activity) : (s.abortAct a).keeper.restartAt = s.keeper.restartAt := by
  rw [State.abortAct, State.closeAct_restartAt, State.abortEffect_restartAt]

/-! ### The stamp of a restart is left by its end -/

@[simp] theorem State.railForget_keeper (s : State) (caller : Nat × Nat) : (s.railForget caller).keeper = s.keeper := by
  refine foldl_keeps State.keeper _ (fun r i => ?_) _ s
  dsimp only
  split
  · rfl
  · split <;> rfl

theorem State.unwithdraw_keeper (s : State) (g : Nat) : (s.unwithdraw g).keeper = s.keeper := rfl

@[simp] theorem State.undoCommand_restartAt (s : State) (m : Nat) (k : Taken) :
    (s.undoCommand m k).keeper.restartAt = s.keeper.restartAt := by
  unfold State.undoCommand
  split
  · split
    · rfl
    · split <;> rfl
  · split
    · dsimp only
      split <;> rfl
    · split
      · rw [State.unwithdraw_keeper]
      · rfl
    · simp
    · simp
    · rfl
    · split
      · split <;> simp
      · rfl

@[simp] theorem State.dropCommands_restartAt (s : State) (m st : Nat) (p : Taken → Bool) :
    (s.dropCommands m st p).keeper.restartAt = s.keeper.restartAt :=
  foldl_keeps (fun r : State => r.keeper.restartAt) _ (fun r k => r.undoCommand_restartAt m k) _ s

theorem restartBox_restartAt (cause ext : Nat) (s : State) (m : Nat) :
    (restartBox cause ext s m).keeper.restartAt = s.keeper.restartAt := by
  unfold restartBox
  dsimp only
  rw [State.flushBox_restartAt, State.set_keeper]
  split <;> simp

/-! ### The rows -/

/-- R39: a restart has begun at this stamp: every mailbox shows it, and chip source 25 is latched. -/
def State.restartBegun (s : State) : State :=
  ((List.range 64).foldl (fun (r : State) m => r.set MBX_STATUS.KEEPER_RESTART m 1)
    { s with keeper := { s.keeper with lastDiv := some s.stb, restarting := some 0, restartAt := s.stb } }).raise
      { coll := .chip, bit := 25 }

section
variable (s : State) (runs : s.keeper.restarting = none)
include runs

theorem keeperDiverge_of_apart (apart : ∀ d, s.keeper.lastDiv = some d → hourTicks ≤ s.stb - d) : keeperDiverge s = s.restartBegun := by
  unfold keeperDiverge State.restartBegun
  cases last : s.keeper.lastDiv with
  | none => simp [runs]
  | some d => simp [runs, Nat.not_lt.2 (apart d last)]

theorem keeperDiverge_of_within (d : Stamp) (last : s.keeper.lastDiv = some d) (within : s.stb - d < hourTicks) :
    keeperDiverge s = s.restartBegun.raise { coll := .chip, bit := 26 } := by
  unfold keeperDiverge State.restartBegun
  simp [runs, last, within]

end

/-- R39: the keeper after a restart that has held no event, before it tells of the restart. -/
def State.restartEnded (s : State) (cause : Nat) : State :=
  [0, 2, 4, 6].foldl State.rebuildBst ((List.range 64).foldl State.lostEvent ((List.range 64).foldl
    (restartBox cause (s.stb - s.keeper.restartAt)) { s with keeper := { s.keeper with restarting := none, held := [] } }))

theorem State.restartEnded_restartAt (s : State) (cause : Nat) : (s.restartEnded cause).keeper.restartAt = s.keeper.restartAt := by
  unfold State.restartEnded
  rw [foldl_keeps (fun r : State => r.keeper.restartAt) State.rebuildBst fun _ _ => rfl,
    foldl_keeps (fun r : State => r.keeper.restartAt) State.lostEvent State.lostEvent_restartAt,
    foldl_keeps (fun r : State => r.keeper.restartAt) (restartBox _ _) (restartBox_restartAt _ _)]

theorem keeperRestartEnd_of_nothingHeld (s : State) (cause : Nat) (restarting : s.keeper.restarting = some cause)
    (nothing : s.keeper.held = []) :
    keeperRestartEnd s = (s.restartEnded cause).event 0x0A s.keeper.restartAt (leBytes 1 cause) := by
  have told : keeperRestartEnd s =
      (s.restartEnded cause).event 0x0A (s.restartEnded cause).keeper.restartAt (leBytes 1 cause) := by
    unfold keeperRestartEnd State.restartEnded
    simp only [restarting, nothing, List.foldl_nil]
  rw [told, State.restartEnded_restartAt]

/-- Settles O16: a divergence begins a restart, and the event of its end carries the stamp at which it began. -/
theorem keeperRestarts : Obligations.KeeperRestarts := by
  refine ⟨fun s t up runs apart => ?_, fun s t d up runs last within => ?_, fun s t cause up restarting nothing => ?_⟩
  · exact (liveS_eq t s keeperDiverge up).trans (congrArg (settled s t) (keeperDiverge_of_apart (s.advance t) runs apart))
  · exact (liveS_eq t s keeperDiverge up).trans (congrArg (settled s t) (keeperDiverge_of_within (s.advance t) runs d last within))
  · exact (liveS_eq t s keeperRestartEnd up).trans
      (congrArg (settled s t) (keeperRestartEnd_of_nothingHeld (s.advance t) cause restarting nothing))

end Sys2Proof.Machine
end

section
/-! The collection of faults: what an event of a source leaves as it was, and that it latches its bit (R357, R358). -/

namespace Sys2Proof.Machine

/-! ### What collecting a fault leaves as it was (R357, R358) -/

/-- The registers that collecting a fault writes. -/
def faultRegs : List Reg := [.FLT_SRC, .FLT_FIRST, .FLT_STATUS, .CHIP_SAFE]

/-- `r` differs from `s` at most in the registers of `faultRegs` and in what the collectors, the pins and the outputs hold. -/
def FaultOnly (s r : State) : Prop :=
  ∃ regs hits faults pins out, r = { s with regs := regs, hits := hits, faults := faults, pins := pins, out := out } ∧
    ∀ R i w, R ∉ faultRegs → RegFile.word regs R i w = s.word R i w

namespace FaultOnly

theorem refl (s : State) : FaultOnly s s := ⟨_, _, _, _, _, rfl, fun _ _ _ _ => rfl⟩

theorem word {s r : State} (h : FaultOnly s r) {R : Reg} (other : R ∉ faultRegs) (i w : Nat) : r.word R i w = s.word R i w := by
  obtain ⟨_, _, _, _, _, rfl, same⟩ := h
  exact same R i w other

theorem fld {s r : State} (h : FaultOnly s r) {F : Fld} (other : F.reg ∉ faultRegs) (i : Nat) : r.fld F i = s.fld F i :=
  congrArg (fun x => wbits x F.lo F.w) (h.word other i F.word)

theorem clock {s r : State} (h : FaultOnly s r) : r.clock = s.clock := by
  obtain ⟨_, _, _, _, _, rfl, _⟩ := h
  rfl

theorem replica {s r : State} (h : FaultOnly s r) (i : Nat) : r.replica i = s.replica i := by
  rw [State.replica, State.replica, h.clock]

theorem ite {s a b : State} {c : Prop} [Decidable c] (yes : FaultOnly s a) (no : FaultOnly s b) : FaultOnly s (if c then a else b) := by
  split
  · exact yes
  · exact no

section
variable {s r : State} (h : FaultOnly s r)
include h

theorem faults (f : Faults) : FaultOnly s { r with faults := f } := by
  obtain ⟨_, _, _, _, _, rfl, same⟩ := h
  exact ⟨_, _, _, _, _, rfl, same⟩

/-- A word of one of the registers is written, and what hardware has set is noted. -/
theorem withWord {R : Reg} (own : R ∈ faultRegs) (i w : Nat) (v : Word) (hits : List Hit) :
    FaultOnly s { r with regs := RegFile.withWord r.regs R i w v, hits := hits } := by
  obtain ⟨regs, _, _, _, _, rfl, same⟩ := h
  refine ⟨_, _, _, _, _, rfl, fun Q j x other => ?_⟩
  rw [← same Q j x other]
  exact RegFile.word_withWord_other regs R Q i j w x v (.inl fun e => other (e ▸ own))

theorem setWord {R : Reg} (own : R ∈ faultRegs) (i w : Nat) (v : Word) : FaultOnly s (r.setWord R i w v) := h.withWord own i w v r.hits

theorem set {F : Fld} (own : F.reg ∈ faultRegs) (i v : Nat) : FaultOnly s (r.set F i v) := h.withWord own i _ _ _

theorem bumpSat {F : Fld} (own : F.reg ∈ faultRegs) (i n : Nat) : FaultOnly s (r.bumpSat F i n) := h.withWord own i _ _ _

theorem sendSide (b mtype payload : Nat) : FaultOnly s (r.sendSide b mtype payload) := by
  obtain ⟨_, _, _, _, _, rfl, same⟩ := h
  exact ⟨_, _, _, _, _, rfl, same⟩

theorem driveFaultN : FaultOnly s r.driveFaultN := by
  obtain ⟨_, _, _, _, _, rfl, same⟩ := h
  exact ⟨_, _, _, _, _, rfl, same⟩

theorem addPend (p : PendRec) : FaultOnly s (r.addPend p) := h.faults _

theorem setBit (c : Coll) (b : Nat) (on : Bool) (x : Stamp) : FaultOnly s (r.setBit c b on x) := by
  unfold State.setBit
  dsimp only
  refine .ite (.ite h (.setWord (.ite ?_ h) (by decide) _ _ _)) (.ite (.set ?_ (by decide) _ _) ?_)
  · exact ((h.set (by decide) _ _).set (by decide) _ _).set (by decide) _ _
  · exact h.setWord (by decide) _ _ _
  · exact h.setWord (by decide) _ _ _

theorem drive (n : Nat) (c : Coll) (x : Stamp) : FaultOnly s (r.drive n c x) := by
  induction n generalizing r c with
  | zero => exact h
  | succ n ih =>
    have driven := h.set (F := FLT_FIRST.PIN) (by decide) c.idx (r.pinLevel c)
    unfold State.drive
    dsimp only
    split
    · exact driven
    · exact .ite (.ite driven (.sendSide (driven.faults _) _ _ _)) (ih (driven.setBit _ _ _ _) _)

theorem holdFaultN (i : Nat) (on : Bool) : FaultOnly s (r.holdFaultN i on) := (h.set (by decide) _ _).driveFaultN

theorem checkSafe (x : Stamp) : FaultOnly s (r.checkSafe x) := by
  unfold State.checkSafe
  refine .ite (.faults (.holdFaultN ?_ _ _) _) h
  exact (((h.set (by decide) _ _).set (by decide) _ _).set (by decide) _ _).set (by decide) _ _

theorem driveAll (c : Coll) (x : Stamp) : FaultOnly s (r.driveAll c x) := (h.drive 4 c x).checkSafe x

theorem leakSource (c : Coll) (b : Nat) (upto : Stamp) (ms : Nat) : FaultOnly s (r.leakSource c b upto ms) :=
  .ite h ((h.faults _).set (by decide) _ _)

theorem elemReport (c : Coll) (b : Nat) : FaultOnly s (r.elemReport c b) := (h.set (by decide) _ _).set (by decide) _ _

theorem elemRoomFor (c : Coll) (b : Nat) (k : ElemKind) : FaultOnly s (r.elemRoomFor c b k) := by
  unfold State.elemRoomFor
  split
  · exact h
  · refine .ite h ?_
    split
    · exact h.faults _
    · split
      · exact h
      · exact .ite (h.faults _) (.addPend (h.faults _) _)

theorem fill (e : FaultEvt) (d : Source) (now : Stamp) : FaultOnly s (r.fill e d now).1 := by
  unfold State.fill
  extract_lets i leaked lv lv' thr v filled _ started
  split
  · exact h
  · split
    · have isFilled : FaultOnly s filled := (h.leakSource _ _ _ _).set (by decide) _ _
      have isStarted : FaultOnly s started := .ite (isFilled.faults _) isFilled
      exact .ite (isStarted.set (by decide) _ _) isStarted
    · exact h
    · exact .elemReport (.faults (.ite h (h.elemRoomFor _ _ _)) _) _ _

end

end FaultOnly

/-! ### Status words of the collectors (R357, R358) -/

theorem State.word_set_otherReg (s : State) (F : Fld) (R : Reg) (i j v w : Nat) (h : F.reg ≠ R) :
    (s.set F i v).word R j w = s.word R j w :=
  RegFile.word_withWord_other s.regs F.reg R i j F.word w _ (.inl h)

theorem State.word_setWord_same (s : State) (R : Reg) (i w : Nat) (v : Word) : (s.setWord R i w v).word R i w = v :=
  RegFile.word_withWord_same s.regs R i w v

theorem State.word_setWord_otherIdx (s : State) (R : Reg) (i j w : Nat) (v : Word) (h : i ≠ j) :
    (s.setWord R i w v).word R j w = s.word R j w :=
  RegFile.word_withWord_other s.regs R R i j w w v (.inr (.inl h))

theorem State.latched_setBit_same (s : State) (c : Coll) (b : Nat) (x : Stamp) (h : b < 64) :
    (s.setBit c b true x).latched c b = true := by
  unfold State.setBit
  dsimp only
  rw [if_pos rfl]
  split
  · next already => exact already
  · rw [State.latched, State.word_setWord_same, BitVec.toNat_ofNat, Nat.testBit_mod_two_pow]
    simp [withBit, h]

theorem State.status_setBit_other (s : State) (c : Coll) (b : Nat) (on : Bool) (x : Stamp) (i : Nat) (h : c.idx ≠ i) :
    (s.setBit c b on x).word .FLT_STATUS i 0 = s.word .FLT_STATUS i 0 := by
  unfold State.setBit
  dsimp only
  split
  · split
    · rfl
    · rw [State.word_setWord_otherIdx _ _ _ _ _ _ h]
      split
      · simp (disch := decide) only [State.word_set_otherReg]
      · rfl
  · split
    · rw [State.word_set_otherReg _ _ _ _ _ _ _ (by decide), State.word_setWord_otherIdx _ _ _ _ _ _ h]
    · exact State.word_setWord_otherIdx _ _ _ _ _ _ h

/-- A collector stands after the one above it. -/
theorem Coll.idx_lt_of_parent {c p : Coll} {b : Nat} (h : c.parent = some (p, b)) : p.idx < c.idx := by
  cases c with
  | chip => cases h
  | region r => cases h; exact Nat.lt_add_right _ (by decide)
  | block l k =>
    simp only [Coll.parent] at h
    split at h <;> cases h <;> simp only [Coll.idx] <;> omega
  | cell l k j => cases h; simp only [Coll.idx]; omega

/-- R358: the pins upward write the status words of the collectors above alone. -/
theorem State.status_drive (n : Nat) (s : State) (c : Coll) (x : Stamp) (i : Nat) (h : c.idx ≤ i) :
    (s.drive n c x).word .FLT_STATUS i 0 = s.word .FLT_STATUS i 0 := by
  induction n generalizing s c with
  | zero => rfl
  | succ n ih =>
    have pin : (s.set FLT_FIRST.PIN c.idx (s.pinLevel c)).word .FLT_STATUS i 0 = s.word .FLT_STATUS i 0 :=
      s.word_set_otherReg _ _ _ _ _ _ (by decide)
    unfold State.drive
    dsimp only
    split
    · exact pin
    · next p b parent =>
      have above : p.idx < i := Nat.lt_of_lt_of_le (Coll.idx_lt_of_parent parent) h
      split
      · split <;> exact pin
      · rw [ih _ _ (Nat.le_of_lt above), State.status_setBit_other _ _ _ _ _ _ (Nat.ne_of_lt above)]
        exact pin

theorem State.status_holdFaultN (s : State) (k : Nat) (on : Bool) (i : Nat) :
    (s.holdFaultN k on).word .FLT_STATUS i 0 = s.word .FLT_STATUS i 0 :=
  s.word_set_otherReg CHIP_SAFE.FAULT_N_BY _ _ _ _ _ (by decide)

theorem State.status_checkSafe (s : State) (x : Stamp) (i : Nat) :
    (s.checkSafe x).word .FLT_STATUS i 0 = s.word .FLT_STATUS i 0 := by
  unfold State.checkSafe
  split
  · refine (State.status_holdFaultN _ 0 true i).trans ?_
    simp (disch := decide) only [State.word_set_otherReg]
  · rfl

theorem State.latched_driveAll (s : State) (c : Coll) (b : Nat) (x : Stamp) : (s.driveAll c x).latched c b = s.latched c b := by
  rw [State.latched, State.driveAll, State.status_checkSafe, State.status_drive _ _ _ _ _ (Nat.le_refl _), State.latched]

/-! ### Events of a source (R357) -/

/-- An event of a source marks the fault collection and latches its bit, and then drives the pins upward. -/
theorem State.raise_of_source (s : State) (e : FaultEvt) (assigned : (e.coll.source e.bit).isSome = true) :
    ∃ r now, FaultOnly s r ∧ (e.bit < 64 → r.latched e.coll e.bit = true) ∧ s.raise e = r.driveAll e.coll now := by
  unfold State.raise
  split
  · next absent => simp [absent] at assigned
  · next d _ =>
    extract_lets i now counted q filled was sev _ noted marked waiting r v verdict _ _ merged
    have isFilled : FaultOnly s filled := (((FaultOnly.refl s).bumpSat (by decide) _ _).set (by decide) _ _).fill e d now
    have isMarked : FaultOnly s marked := (FaultOnly.ite isFilled (isFilled.faults _)).setBit _ _ _ _
    have isVerdict : FaultOnly s verdict := isMarked.addPend _
    have regs : merged.regs = marked.regs := by
      simp only [merged, verdict, apply_ite State.regs, State.addPend, ite_self]
    refine ⟨merged, now, .ite (isVerdict.faults _) (.ite (isMarked.faults _) (isMarked.faults _)), fun inWord => ?_, rfl⟩
    rw [State.latched, State.word, regs]
    exact State.latched_setBit_same _ _ _ _ inWord

theorem State.raise_of_noSource (s : State) (e : FaultEvt) (absent : e.coll.source e.bit = none) : s.raise e = s := by
  rw [State.raise, absent]

theorem State.raise_faultOnly (s : State) (e : FaultEvt) : FaultOnly s (s.raise e) := by
  cases source : e.coll.source e.bit with
  | none =>
    rw [s.raise_of_noSource e source]
    exact .refl s
  | some d =>
    obtain ⟨r, now, collected, _, driven⟩ := s.raise_of_source e (Option.isSome_of_eq_some source)
    rw [driven]
    exact collected.driveAll _ _

theorem State.latched_raise (s : State) (e : FaultEvt) (assigned : (e.coll.source e.bit).isSome = true) (inWord : e.bit < 64) :
    (s.raise e).latched e.coll e.bit = true := by
  obtain ⟨r, now, _, latched, driven⟩ := s.raise_of_source e assigned
  rw [driven, State.latched_driveAll, latched inWord]

end Sys2Proof.Machine
end

section
/-! The time base: the STB over a step (R85), the quantities that derive from it (R86), the discipline's events and the meridian (R98 to
R101, R106, R121), timers (R87) and replicas (R93 to R96). -/

namespace Sys2Proof.Machine

open Sys2Proof.Safety

/-! ### The STB over a step (R85) -/

theorem restarts_eq_false {c : Instr} (notReset : c ≠ .pkgReset) (notLoss : ∀ n, c ≠ .powerLoss n)
    (notStart : ∀ t x, c ≠ .startUp t x) : restarts c = false := by
  unfold restarts
  split
  · next t x => exact absurd rfl (notStart t x)
  · exact absurd rfl notReset
  · next n => exact absurd rfl (notLoss n)
  · rfl

/-- A step at which the STB does not begin again leaves an STB that has not decreased. -/
theorem stb_le_of_step {s t : State} (goesOn : ∀ c, s.pending.head? = some c → restarts c = false) (next : step s = .next t) :
    s.stb ≤ t.stb := by
  unfold step at next
  split at next
  · cases next
    exact Nat.le_refl _
  · next c rest queue =>
    obtain ⟨r, answer, _, kept⟩ := exec_goesOn c { s with pending := rest } (goesOn c (by rw [queue]; rfl))
    cases answer.symm.trans next
    exact kept

/-- Settles O3: but for the commands after which the STB begins again, the step's bound on a command's outcome keeps the STB. -/
theorem stbNeverDecreases : Obligations.StbNeverDecreases := by
  intro b s t front reached next
  refine Nat.le_trans reached (stb_le_of_step (fun c isFront => ?_) next)
  obtain ⟨notReset, notLoss, notStart⟩ := front c isFront
  exact restarts_eq_false notReset notLoss notStart

/-! ### Quantities of the STB (R86) -/

/-- The bits from `lo` up of a number that has no more than those are its quotient. -/
theorem bitsOf_of_lt {x lo w : Nat} (h : x < 2 ^ (lo + w)) : bitsOf x lo w = x / 2 ^ lo := by
  rw [bitsOf, Nat.mod_eq_of_lt]
  rwa [Nat.div_lt_iff_lt_mul (Nat.two_pow_pos lo), ← Nat.pow_add, Nat.add_comm]

theorem frameOf_eq_iff (F t : Nat) : frameOf t = F ↔ F * 32768 ≤ t ∧ t < (F + 1) * 32768 := by
  unfold frameOf
  omega

theorem bitsOf_meridianOf (F : Nat) : bitsOf (meridianOf F) 0 15 = 0 := by
  rw [bitsOf, Nat.pow_zero, Nat.div_one]
  exact Nat.mul_mod_left F 32768

theorem frameOf_meridianOf (F : Nat) : frameOf (meridianOf F) = F := Nat.mul_div_cancel F (by decide)

theorem State.csrRead_time (s : State) (h : Nat) : s.csrRead h 0xC01 = (s.timeRead h, s) := by
  unfold State.csrRead
  dsimp only
  rw [if_pos (.inl (by decide)), if_pos rfl]

theorem State.timeRead_of_not_virt (s : State) (h : Nat) (v : (s.hart h).virt = false) :
    s.timeRead h = s.regionStb (h / 24) / 64 := by
  simp [State.timeRead, v]

/-- Settles O8. -/
theorem timeQuantities : Obligations.TimeQuantities := by
  refine ⟨fun t small => ⟨(bitsOf_of_lt (lo := 15) (w := 49) small).symm, (bitsOf_of_lt (lo := 10) (w := 54) small).symm⟩, frameOf_eq_iff,
    fun F => ⟨bitsOf_meridianOf F, frameOf_meridianOf F⟩, fun s h notVirt small => ?_⟩
  have read : bitsOf (s.regionStb (h / 24)) 6 58 = s.regionStb (h / 24) / 64 := bitsOf_of_lt (lo := 6) small
  rw [s.csrRead_time, s.timeRead_of_not_virt h notVirt, read]

/-! ### Discipline and the meridian (R98 to R101, R106, R121) -/

section
variable (s : State) (t : Stamp) (up : s.up = true)
include up

/-- R99: a valid pulse on STB_PPS whose stamp is 2 to 3 ticks after its edge (R89), where SOURCE is 1. -/
theorem execStbPps_of_valid (tick frac : Nat) (valid : pulseValid s.clock.lastEdge (25 * tick + frac) = true)
    (source : s.fld STB_STATE.SOURCE 0 = 1) (least : 25 * tick + frac + 50 ≤ 25 * (s.advance t).stb)
    (most : 25 * (s.advance t).stb ≤ 25 * tick + frac + 75) :
    execStbPps t tick frac s = settled s t
      ((({ s.advance t with clock := { (s.advance t).clock with lastEdge := some (25 * tick + frac) } }).disciplinePulse
        (gridOffset (25 * tick + frac) s.clock.epoch) (s.clock.refBad == 0)).landed (s.advance t)) := by
  have onTime : ¬ (25 * (s.advance t).stb < 25 * tick + frac + 50 ∨ 25 * tick + frac + 75 < 25 * (s.advance t).stb) :=
    not_or.2 ⟨Nat.not_lt.2 least, Nat.not_lt.2 most⟩
  unfold execStbPps
  rw [liveS_eq _ _ _ up]
  dsimp only
  rw [if_neg onTime, State.advance_clock, if_pos valid]
  exact congrArg (settled s t) (if_pos source)

theorem execReferenceLoss_of_lost (pulses : Bool) (locked : s.fld STB_STATE.STATE 0 = 1 ∨ s.fld STB_STATE.STATE 0 = 2)
    (noResync : s.clock.resync = none)
    (lost : if pulses then s.clock.lastGood + 4400000000 ≤ (s.advance t).stb
      else 8 ≤ s.clock.refBad ∧ s.fld STB_STATE.SOURCE 0 = 1) :
    execReferenceLoss t pulses s = settled s t
      (if ((s.advance t).set STB_EVT.REF_LOST 0 1).is STB_STATE.HOLDOVER_EN 0 then
        (((s.advance t).set STB_EVT.REF_LOST 0 1).setDisc 3).holdTrim
      else ((s.advance t).set STB_EVT.REF_LOST 0 1).discFault) := by
  unfold execReferenceLoss
  rw [liveS_eq _ _ _ up]
  exact congrArg (settled s t) (if_pos ⟨locked, Option.isNone_iff_eq_none.2 noResync, lost⟩)

theorem execHoldoverExpiry_of_expired (holds : s.fld STB_STATE.STATE 0 = 3)
    (expired : s.clock.holdAt + 4000000000 * s.fld STB_CTRL.HOLDOVER_S 0 ≤ (s.advance t).stb) :
    execHoldoverExpiry t s = settled s t ((s.advance t).set STB_EVT.HOLDOVER_EXPIRED 0 1).discFault := by
  unfold execHoldoverExpiry
  rw [liveS_eq _ _ _ up]
  exact congrArg (settled s t) (if_pos ⟨holds, expired⟩)

theorem execResyncTimeout_of_late (r : Resync) (runs : s.clock.resync = some r)
    (late : r.start + msTicks 3000 ≤ (s.advance t).stb) :
    execResyncTimeout t s = settled s t ((s.advance t).restoreSource.closeAct r.act 4 stTimeout) := by
  unfold execResyncTimeout
  rw [liveS_eq _ _ _ up, State.advance_clock, runs]
  exact congrArg (settled s t) (if_pos late)

theorem execMeridian_of_reached (x : Measures) (errs : List Nat) (meridian : t % 32768 = 0) (reached : s.stb ≤ t) :
    execMeridian t x errs s = settled s t ((s.advance t).openFrame x errs) := by
  unfold execMeridian
  rw [liveS_eq _ _ _ up, if_pos ⟨meridian, Nat.max_eq_right reached⟩]

end

/-- Settles O34: each row's conditions hold at its stamp, so it is its operation on the state at that stamp. -/
theorem timeBaseEvents : Obligations.TimeBaseEvents :=
  ⟨fun s t tick frac up => execStbPps_of_valid s t up tick frac, fun s t pulses up => execReferenceLoss_of_lost s t up pulses,
    execHoldoverExpiry_of_expired, fun s t r up => execResyncTimeout_of_late s t up r,
    fun s t x errs up => execMeridian_of_reached s t up x errs⟩

/-! ### Timers and replicas (R87, R93 to R96) -/

theorem State.replica_moveReplica (s : State) (r : Nat) (x : Replica) :
    (s.moveReplica r x).replica r = { x with floor := s.regionStb r } := nget_nputd_same _ _ _ _

/-- R96: a replica that is corrected at stamp `now`, where it reads `reading`: if it is ahead, it holds what it reads. -/
def Replica.corrected (x : Replica) (now reading : Stamp) : Replica :=
  { x with off := 0, fixed := some now, hold := if now < reading then some reading else none }

/-- R96: the state with a region's replica corrected and the correction reported, before what a second one within 1 s leads to. -/
def State.replicaCorrected (s : State) (r : Nat) : State :=
  (((s.moveReplica r ((s.replica r).corrected s.stb (s.regionStb r))).set STB_REPLICA.REPLICA_ERR r 1).set STB_EVT.REPLICA_ERR 0 1).raise
    { coll := .region r, bit := 19 }

/-- R367: source 19 is a source of bricks and quadrants alike. -/
theorem source_replicaErr_isSome (r : Nat) : ((Coll.region r).source 19).isSome = true := by
  by_cases brick : r < 12 <;> simp [Coll.source, Coll.lowerBit, Coll.kind, brick, sourceOf]

section
variable (s : State) (r : Nat)

theorem State.replicaCorrected_replica :
    (s.replicaCorrected r).replica r = { (s.replica r).corrected s.stb (s.regionStb r) with floor := s.regionStb r } :=
  ((State.raise_faultOnly _ _).replica r).trans (s.replica_moveReplica r _)

theorem State.replicaCorrected_replicaErr : (s.replicaCorrected r).fld STB_REPLICA.REPLICA_ERR r = 1 := by
  rw [State.replicaCorrected, (State.raise_faultOnly _ _).fld (by decide), State.fld_set_otherReg _ _ _ _ _ _ (by decide)]
  exact State.fld_set_same _ STB_REPLICA.REPLICA_ERR r 1 (by decide)

theorem State.replicaCorrected_latched : (s.replicaCorrected r).latched (.region r) 19 = true :=
  State.latched_raise _ _ (source_replicaErr_isSome r) (show 19 < 64 by decide)

end

section
variable (s : State) (t : Stamp) (up : s.up = true)
include up

theorem execTimerCompare_of_reached (h : Nat) (guest : Bool) (isHart : h < 288)
    (reached : 64 * (s.csr h (if guest then csrVstimecmp else csrStimecmp)).toNat ≤ (s.advance t).regionStb (h / 24)) :
    execTimerCompare t h guest s = settled s t ((s.advance t).setMip h (if guest then 6 else 5) true) := by
  unfold execTimerCompare
  rw [liveS_eq _ _ _ up]
  exact congrArg (settled s t) (if_pos ⟨reached, isHart⟩)

theorem execReplicaMarkerCheck_of_due (r : Nat) (missing : Bool) (residual off : Int) (due : (s.advance t).markerDue r = true) :
    execReplicaMarkerCheck t r missing residual off s = settled s t
      (if missing then ((s.advance t).trimDue r).noMarker r else ((s.advance t).trimDue r).marker r residual off) := by
  unfold execReplicaMarkerCheck
  rw [liveS_eq _ _ _ up, if_pos due]

/-- R96: the first correction of a region's replica, at a meridian after the one that asked for it. -/
theorem execReplicaCorrection_of_first (r : Nat) (isRegion : r < 16) (isOff : (s.replica r).off ≠ 0)
    (first : (s.replica r).fixed = none) (meridian : (s.advance t).stb % 32768 = 0)
    (later : (s.replica r).offAt < frameOf (s.advance t).stb) :
    execReplicaCorrection t r s = settled s t ((s.advance t).replicaCorrected r) := by
  have due : ¬ ((s.replica r).off = 0 ∨ 16 ≤ r ∨ (s.advance t).stb % 32768 ≠ 0 ∨ frameOf (s.advance t).stb ≤ (s.replica r).offAt) := by
    rintro (agrees | outside | between | early)
    · exact isOff agrees
    · exact Nat.not_le.2 isRegion outside
    · exact between meridian
    · exact Nat.not_le.2 later early
  unfold execReplicaCorrection
  rw [liveS_eq _ _ _ up]
  dsimp only
  rw [State.advance_replica, if_neg due, first]
  rfl

theorem execReplicaHoldEnd_of_reached (r : Nat) (v : Stamp) (held : (s.replica r).hold = some v) (reached : v ≤ (s.advance t).stb) :
    execReplicaHoldEnd t r s = left s t ((s.advance t).moveReplica r { s.replica r with hold := none }) := by
  unfold execReplicaHoldEnd
  rw [live_eq _ _ _ up, State.advance_replica, held]
  exact congrArg (left s t) (if_pos reached)

end

/-- Settles O35: each row's condition holds at its stamp; a first correction raises region source 19, which leaves the replica and its
register as the correction has made them. -/
theorem timersAndReplicas : Obligations.TimersAndReplicas := by
  refine ⟨fun s t h up isHart => ⟨execTimerCompare_of_reached s t up h false isHart, execTimerCompare_of_reached s t up h true isHart⟩,
    fun s t r residual off up due => ⟨execReplicaMarkerCheck_of_due s t up r false residual off due,
      execReplicaMarkerCheck_of_due s t up r true residual off due⟩,
    fun s t r up isRegion isOff first meridian later => ?_, fun s t r v up => execReplicaHoldEnd_of_reached s t up r v⟩
  have replica := (s.advance t).replicaCorrected_replica r
  exact ⟨_, execReplicaCorrection_of_first s t up r isRegion isOff first meridian later, congrArg Replica.off replica,
    congrArg Replica.fixed replica, State.replicaCorrected_replicaErr _ r, State.replicaCorrected_latched _ r⟩

end Sys2Proof.Machine
end

section
/-! The Almanac's admission: what accounting for bookings and counting events leave as they were, the grant of BOOK (R107, R116, R119), the
metering of a request (R124), and the controllers that serve what has been metered (R125, R230). -/

namespace Sys2Proof.Machine

open Sys2Proof.Safety

/-! ### Accounting for bookings (R116, R118) -/

/-- `r` differs from `s` at most in registers and in how the bookings' core-ticks are shared out. -/
def AccountsOnly (s r : State) : Prop :=
  ∃ regs hits shares, r = { s with regs := regs, hits := hits, alm := { s.alm with shares := shares } }

namespace AccountsOnly

theorem refl (s : State) : AccountsOnly s s := ⟨_, _, _, rfl⟩

theorem trans {s r q : State} (first : AccountsOnly s r) (second : AccountsOnly r q) : AccountsOnly s q := by
  obtain ⟨_, _, _, rfl⟩ := first
  obtain ⟨_, _, _, rfl⟩ := second
  exact ⟨_, _, _, rfl⟩

theorem books {s r : State} (h : AccountsOnly s r) : r.alm.books = s.alm.books := by
  obtain ⟨_, _, _, rfl⟩ := h
  rfl

theorem mem {s r : State} (h : AccountsOnly s r) : r.mem = s.mem := by
  obtain ⟨_, _, _, rfl⟩ := h
  rfl

theorem ite {s a b : State} {c : Prop} [Decidable c] (yes : AccountsOnly s a) (no : AccountsOnly s b) :
    AccountsOnly s (if c then a else b) := by
  split
  · exact yes
  · exact no

theorem foldl {α : Type} {f : State → α → State} (each : ∀ s a, AccountsOnly s (f s a)) (l : List α) (s : State) :
    AccountsOnly s (l.foldl f s) :=
  List.foldlRecOn l f (.refl s) fun r h a _ => h.trans (each r a)

theorem set (s : State) (F : Fld) (i v : Nat) : AccountsOnly s (s.set F i v) := ⟨_, _, _, rfl⟩

theorem placeOn (id tag : Nat) (room : State → Nat → Nat) (cores : List Nat) (n : Nat) (s : State) :
    AccountsOnly s (Machine.placeOn id tag room cores n s).2 := by
  induction cores generalizing n s with
  | nil => exact .refl s
  | cons c cores ih => exact .trans ⟨_, _, _, rfl⟩ (ih _ _)

theorem place (s : State) (b : Booking) (n : Nat) : AccountsOnly s (s.place b n) := (placeOn ..).trans (placeOn ..)

theorem refreshCap (s : State) (n : Nat) : AccountsOnly s (s.refreshCap n) := .ite ⟨_, _, _, rfl⟩ ⟨_, _, _, rfl⟩

theorem refreshTag (s : State) (tag : Nat) : AccountsOnly s (s.refreshTag tag) := .ite (.refl s) (.ite ⟨_, _, _, rfl⟩ ⟨_, _, _, rfl⟩)

/-- A booking that is taken in is listed last; the rest is accounting. -/
theorem addBooking (s : State) (c : Caller) (b : Booking) :
    AccountsOnly { s with alm := { s.alm with books := s.alm.books ++ [b] } } (s.addBooking c b) := by
  unfold State.addBooking
  extract_lets first _ numbered placed capped marked
  have isPlaced : AccountsOnly numbered placed := .ite (place ..) (.refl _)
  have isCapped : AccountsOnly placed capped := foldl refreshCap _ _
  have isMarked : AccountsOnly capped marked := .ite (set ..) (.refl _)
  exact (set ..).trans (isPlaced.trans (isCapped.trans (isMarked.trans (refreshTag ..))))

end AccountsOnly

/-! ### The grant of BOOK (R107, R116, R119) -/

/-- What BOOK grants: a record whose fields pass their checks, asking for a booking that its mailbox is not denied, for which the list has
a place and an ID, and which fits. -/
structure State.Grants (s : State) (c : Caller) (p : List Byte) : Prop where
  wellFormed : (bookChecks p).find? Prod.snd = none
  allowed : s.bookDenied c (s.bookingOf c p) = none
  listed : (s.alm.books.filter s.heldBooking).length < 16384
  named : (s.bookingOf c p).id ≠ 0
  fits : s.fits c (s.bookingOf c p) = true

theorem ite_ne_of_ne {α : Type} {c : Prop} [Decidable c] {a b x : α} (yes : a ≠ x) (no : b ≠ x) : (if c then a else b) ≠ x := by
  split
  · exact yes
  · exact no

/-- R116: why a booking is turned away is never ST_OK. -/
theorem State.bookDenied_ne_ok (s : State) (c : Caller) (b : Booking) : s.bookDenied c b ≠ some stOk :=
  have world : some stDeniedWorld ≠ some stOk := by decide
  have unknown : some stNotFound ≠ some stOk := by decide
  ite_ne_of_ne world (ite_ne_of_ne world (ite_ne_of_ne world (ite_ne_of_ne world (ite_ne_of_ne unknown (Option.some_ne_none stOk).symm))))

theorem paramChecks_of_pass {cs : List (Nat × Bool)} (pass : cs.find? Prod.snd = none) (s : State) (f : Unit → Reply) :
    paramChecks s cs f = f () := by
  rw [paramChecks, pass]

theorem cmdBook_of_grants {s : State} {c : Caller} {p : List Byte} (grants : s.Grants c p) :
    ∃ r, cmdBook c p s = .ok ((s.addBooking c (s.bookingOf c p)).catchUp c) r := by
  have granted : ¬ (16384 ≤ (s.alm.books.filter s.heldBooking).length ∨ (s.bookingOf c p).id = 0 ∨
      s.fits c (s.bookingOf c p) = false) := by
    simp [grants.listed, grants.named, grants.fits]
  unfold cmdBook
  rw [paramChecks_of_pass grants.wellFormed]
  dsimp only
  rw [grants.allowed]
  exact ⟨_, if_neg granted⟩

theorem grants_of_cmdBook_ok {s : State} {c : Caller} {p : List Byte} {d : Nat} {r : List Byte}
    (ok : (cmdBook c p s).final = some ⟨stOk, d, r⟩) : s.Grants c p := by
  unfold cmdBook paramChecks at ok
  split at ok
  next => exact absurd ok (by simp [Reply.bad, stBadParam, stOk])
  next wellFormed =>
    dsimp only at ok
    split at ok
    next st denied =>
      have : st = stOk := by simpa [Reply.no] using (congrArg (Option.map Final.status) ok)
      exact absurd (this ▸ denied) (s.bookDenied_ne_ok c _)
    next allowed =>
      split at ok
      next => exact absurd ok (by simp [Reply.no, stInsufficient, stOk])
      next granted =>
        simp only [not_or, Nat.not_le, Bool.not_eq_false] at granted
        obtain ⟨listed, named, fits⟩ := granted
        exact ⟨wellFormed, allowed, listed, named, fits⟩

/-- A site record's command sees the capacities in force, which no recompute has changed since. -/
theorem State.catchUp_of_noCaps (s : State) (c : Caller) (noCaps : c.caps = []) : s.catchUp c = s := by
  rw [State.catchUp, noCaps, List.isEmpty_nil, if_pos rfl]

/-- Settles O32: a booking that is granted is listed last, and what follows is accounting. -/
theorem bookAddsTheBooking : Obligations.BookAddsTheBooking := by
  intro c p s wellFormed allowed listed named fits noCaps
  obtain ⟨r, granted⟩ := cmdBook_of_grants ⟨wellFormed, allowed, listed, named, fits⟩
  rw [granted, State.catchUp_of_noCaps _ c noCaps]
  have accounts := AccountsOnly.addBooking s c (s.bookingOf c p)
  exact ⟨r, rfl, accounts.books, rfl, rfl, rfl, accounts.mem⟩

/-- R119: with a booking that fits, what is booked of a resource it touches is at most what the command sees as bookable, if it was so
without it. -/
theorem State.demandOn_le_of_fits {s : State} {c : Caller} {b : Booking} {n : Nat} (fits : s.fits c b = true) (touched : n ∈ b.touches)
    (before : demandOn (s.countedFor c) n ≤ (s.capsFor c n).1) : demandOn (s.countedFor c ++ [b]) n ≤ (s.capsFor c n).1 := by
  have here : s.fitsOn c b n = true := List.all_eq_true.1 fits n touched
  simp only [State.fitsOn, Bool.or_eq_true, Bool.and_eq_true, beq_iff_eq, decide_eq_true_eq] at here
  obtain noDemand | ⟨bookable, -⟩ := here
  · exact Nat.le_trans (Nat.le_of_sub_eq_zero noDemand) before
  · omega

/-- Settles O33: a booking that is granted has passed the fit test on each resource it touches. -/
theorem noOvercommitment : Obligations.NoOvercommitment :=
  fun _ _ _ _ _ ok touched before => State.demandOn_le_of_fits (grants_of_cmdBook_ok ok).fits touched before

/-! ### Counting events (R416 to R422) -/

/-- The registers that counting an event writes. -/
def countRegs : List Reg := [.CTR_VALUE, .CTR_CFG]

/-- `r` differs from `s` at most in the registers of `countRegs`, in what the counter banks hold and in the harts' CSRs. -/
def CountsOnly (s r : State) : Prop :=
  ∃ regs hits ctr csrs, r = { s with regs := regs, hits := hits, ctr := ctr, csrs := csrs } ∧
    ∀ R i w, R ∉ countRegs → RegFile.word regs R i w = s.word R i w

namespace CountsOnly

theorem refl (s : State) : CountsOnly s s := ⟨_, _, _, _, rfl, fun _ _ _ _ => rfl⟩

theorem trans {s r q : State} (first : CountsOnly s r) (second : CountsOnly r q) : CountsOnly s q := by
  obtain ⟨_, _, _, _, rfl, same⟩ := first
  obtain ⟨_, _, _, _, rfl, same'⟩ := second
  exact ⟨_, _, _, _, rfl, fun R i w other => (same' R i w other).trans (same R i w other)⟩

theorem fld {s r : State} (h : CountsOnly s r) {F : Fld} (other : F.reg ∉ countRegs) (i : Nat) : r.fld F i = s.fld F i := by
  obtain ⟨_, _, _, _, rfl, same⟩ := h
  exact congrArg (fun x => wbits x F.lo F.w) (same F.reg i F.word other)

theorem mem {s r : State} (h : CountsOnly s r) : r.mem = s.mem := by
  obtain ⟨_, _, _, _, rfl, _⟩ := h
  rfl

theorem xregs {s r : State} (h : CountsOnly s r) : r.xregs = s.xregs := by
  obtain ⟨_, _, _, _, rfl, _⟩ := h
  rfl

theorem fab {s r : State} (h : CountsOnly s r) : r.fab = s.fab := by
  obtain ⟨_, _, _, _, rfl, _⟩ := h
  rfl

theorem ite {s a b : State} {c : Prop} [Decidable c] (yes : CountsOnly s a) (no : CountsOnly s b) : CountsOnly s (if c then a else b) := by
  split
  · exact yes
  · exact no

theorem foldl {α : Type} {f : State → α → State} (each : ∀ s a, CountsOnly s (f s a)) (l : List α) (s : State) :
    CountsOnly s (l.foldl f s) :=
  List.foldlRecOn l f (.refl s) fun r h a _ => h.trans (each r a)

theorem set (s : State) {F : Fld} (own : F.reg ∈ countRegs) (i v : Nat) : CountsOnly s (s.set F i v) :=
  ⟨_, _, _, _, rfl, fun R j w other => RegFile.word_withWord_other s.regs F.reg R i j F.word w _ (.inl fun e => other (e ▸ own))⟩

theorem setMip (s : State) (h bit : Nat) (on : Bool) : CountsOnly s (s.setMip h bit on) := ⟨_, _, _, _, rfl, fun _ _ _ _ => rfl⟩

theorem counting (s : State) (ctr : Counting) : CountsOnly s { s with ctr := ctr } := ⟨_, _, _, _, rfl, fun _ _ _ _ => rfl⟩

theorem counterWrap (s : State) (bank i : Nat) : CountsOnly s (s.counterWrap bank i) := by
  unfold State.counterWrap
  split
  · exact .refl s
  · exact .ite (.refl s) ((set s (by decide) _ _).trans (setMip ..))

theorem addCount (s : State) (bank i n : Nat) : CountsOnly s (s.addCount bank i n) := by
  unfold State.addCount
  extract_lets k v _ noted counted
  have isCounted : CountsOnly s counted := (counting s _).trans (set noted (by decide) _ _)
  exact .ite (isCounted.trans (counterWrap ..)) isCounted

theorem count (s : State) (bank : Nat) (e : CountEvt) (n : Nat) : CountsOnly s (s.count bank e n) :=
  .ite (.refl s) (foldl (fun s i => .ite (addCount s bank i n) (.refl s)) _ _)

end CountsOnly

/-! ### Metering (R124) -/

/-- What a request of one direction finds at the meter `m`: whether a unit was left, and a state in which that unit is taken. -/
structure TakesUnit (s : State) (m : Nat) (q : Bool × State) : Prop where
  booked : q.1 = (s.fld ALM_METER.REMAINING m != 0)
  remaining : q.2.fld ALM_METER.REMAINING m = s.fld ALM_METER.REMAINING m - 1
  mem : q.2.mem = s.mem
  xregs : q.2.xregs = s.xregs
  fab : q.2.fab = s.fab

theorem State.takeUnits_oneMeter (s : State) (p : Pkt) (n d : Nat) (oneDir : meterDirs p.op = [d]) :
    TakesUnit s (meterIdx (unitRegion p.src) n d p.tag) (s.takeUnits p n) := by
  unfold State.takeUnits
  rw [oneDir]
  extract_lets meters
  have counted (demoted : Bool) := CountsOnly.count s (regionBank (unitRegion p.src)) (meterEvt p demoted) meters.length
  split
  next m empty =>
    obtain ⟨rfl, isEmpty⟩ : m = meterIdx (unitRegion p.src) n d p.tag ∧ s.fld ALM_METER.REMAINING m = 0 := by
      have found := List.find?_some empty
      exact ⟨List.mem_singleton.1 (List.mem_of_find?_eq_some empty), beq_iff_eq.1 found⟩
    refine ⟨by simp [isEmpty], ?_, (counted true).mem, (counted true).xregs, (counted true).fab⟩
    exact ((counted true).fld (F := ALM_METER.REMAINING) (by decide) _).trans (by rw [isEmpty])
  next units =>
    have isLeft : s.fld ALM_METER.REMAINING (meterIdx (unitRegion p.src) n d p.tag) ≠ 0 := by
      simpa [meters] using units
    refine ⟨(bne_iff_ne.2 isLeft).symm, ?_, (counted false).mem, (counted false).xregs, (counted false).fab⟩
    refine (State.fld_set_same _ ALM_METER.REMAINING _ _ (by decide)).trans ?_
    rw [(counted false).fld (by decide)]
    exact Nat.mod_eq_of_lt (Nat.lt_of_le_of_lt (Nat.sub_le _ 1) (s.fld_lt ALM_METER.REMAINING _))

/-- R124: the request's packet past its metering point, where it has kept its standing or lost it. -/
def Flight.meteredAt (f : Flight) (standing : Bool) (issue : Stamp) : Flight :=
  { f with pkt := { f.pkt with standing := standing, issued := some issue } }

theorem State.meter_net (s : State) (i : Nat) (p : Pkt) (n : Nat) :
    (s.meter i p n).fab.net =
      (s.takeUnits p n).2.fab.net.modify i (fun f => f.meteredAt (s.takeUnits p n).1 s.stb) := rfl

/-- Settles O31: the request takes its unit, and among the packets in flight it alone is marked. -/
theorem meteringTakesUnits : Obligations.MeteringTakesUnits := by
  intro s p n d i f oneDir inFlight
  have taken := s.takeUnits_oneMeter p n d oneDir
  refine ⟨?_, taken.remaining, taken.mem, taken.xregs, fun j other => ?_⟩
  · rw [State.meter_net, List.getElem?_modify_eq, taken.fab, taken.booked, inFlight]
    rfl
  · rw [State.meter_net, List.getElem?_modify_ne _ _ other.symm, taken.fab]

/-! ### Memory controllers (R125, R126, R230) -/

@[simp] theorem State.advance_mcTurn (s : State) (t : Stamp) (p : Pkt) : (s.advance t).mcTurn p = s.mcTurn p := rfl
@[simp] theorem State.advance_queueLevel (s : State) (t : Stamp) (q : Nat) : (s.advance t).queueLevel q = s.queueLevel q := rfl

section
variable (s : State) (t : Stamp) (up : s.up = true) (p : Pkt) (turn : s.mcTurn p = true) (c : Nat) (serves : s.mcOf p.line = some c)
include up turn serves

/-- A home's read: the answer names no state to grant, which is the home's to know. -/
theorem execMcRead_of_homeTurn (isRead : p.isA 3 0x10 = true) (home : (sliceOf p.src).isSome = true) (own : p.pkg = none) :
    execMcRead t p s = settled s t ((((s.advance t).takePkt p).countMc c p 0).answer (mcCode c)
      { p.cause 1 1 p.src (8 * s.queueLevel (queueOf c)) with data := (s.lineAt p.line).1, poison := (s.lineAt p.line).2 }) := by
  unfold execMcRead
  rw [liveS_eq _ _ _ up, if_pos ⟨isRead, turn⟩, State.advance_mcOf, serves]
  simp only [home, own, Option.isNone_none, Bool.and_self, if_true, Nat.zero_add, State.advance_queueLevel, State.advance_lineAt]

theorem execMcWrite_of_turn (isWrite : p.isA 3 0x11 = true) (fits : p.fits = true) :
    execMcWrite t p s = settled s t
      (((((s.advance t).takePkt p).countMc c p 1).writeLine p.line (bitsOf p.operand 0 6)
        ((p.data.drop (bitsOf p.operand 0 6)).take (bitsOf p.operand 6 6 + 1)) p.poison).sendFrom (mcCode c)
          { p.cause 0 5 p.src (s.queueLevel (queueOf c)) with pkg := none }) := by
  unfold execMcWrite
  rw [liveS_eq _ _ _ up, if_pos ⟨isWrite, fits, turn⟩, State.advance_mcOf, serves]
  rfl

end

/-- Settles O48: a request whose turn it is has a controller that serves it. -/
theorem controllersReadAndWrite : Obligations.ControllersReadAndWrite :=
  ⟨fun s t p c _ up isRead turn serves home own =>
      execMcRead_of_homeTurn s t up p turn c serves isRead (Option.isSome_of_eq_some home) own,
    fun s t p c up isWrite fits turn serves => execMcWrite_of_turn s t up p turn c serves isWrite fits⟩

end Sys2Proof.Machine
end

section
/-! The channels of the service path: doorbells (R138), and fetching, intake, admission and answers (R137 to R148). -/

namespace Sys2Proof.Machine

open Sys2Proof.Safety

/-! ### What channels read after time has advanced -/

@[simp] theorem State.advance_behind (s : State) (t : Stamp) (d : Door) : (s.advance t).behind d = s.behind d := rfl
@[simp] theorem State.advance_cqRoom (s : State) (t : Stamp) (e ch : Nat) (k : Channel) :
    (s.advance t).cqRoom e ch k = s.cqRoom e ch k := rfl
@[simp] theorem State.advance_engineChans (s : State) (t : Stamp) (e : Nat) : (s.advance t).engineChans e = s.engineChans e := rfl

/-! ### Doorbells (R138) -/

section
variable {s : State} {d : Door}

theorem State.ringSq_of_badDoor {e : Nat} (bad : s.behind d = .inl e) (v : Nat) : s.ringSq d v = s.badBell e := by
  rw [State.ringSq, bad]

theorem State.ringCq_of_badDoor {e : Nat} (bad : s.behind d = .inl e) (v : Nat) : s.ringCq d v = s.badBell e := by
  rw [State.ringCq, bad]

variable {ch : Nat} {k : Channel} (named : s.behind d = .inr (ch, k)) (v : Nat)
include named

/-- A channel whose fetching is not stopped has only its tail moved. -/
theorem State.ringSq_of_within (within : v % 65536 < k.sqSize) (fetches : k.stopped = false) :
    s.ringSq d v = s.setChan ch { k with sqTail := v % 65536 } := by
  rw [State.ringSq, named, ← fetches]
  exact if_pos within

theorem State.ringCq_of_within (within : v % 65536 < k.cqSize)
    (held : (v % 65536 + k.cqSize - k.cqHead % k.cqSize) % k.cqSize ≤ s.cqHeld ch k) :
    s.ringCq d v = s.setChan ch
      { k with cqHead := (k.cqHead + (v % 65536 + k.cqSize - k.cqHead % k.cqSize) % k.cqSize) % (2 * k.cqSize) } := by
  rw [State.ringCq, named]
  exact if_pos ⟨within, held⟩

end

section
variable (s : State) (t : Stamp) (d : Door) (v : Nat) (up : s.up = true)
include up

theorem execIeChDbSqTail_eq : execIeChDbSqTail t d v s = left s t ((s.advance t).ringSq d v) := live_eq t s _ up

theorem execIeChDbCqHead_eq : execIeChDbCqHead t d v s = left s t ((s.advance t).ringCq d v) := live_eq t s _ up

end

/-! ### Fetching, intake, admission and answers (R137 to R148) -/

section
variable (s : State) (t : Stamp) (up : s.up = true) (e : Nat)
include up

/-- R137, R143: the one channel that wants a fetch has completion space, so that none sets CQ_WAIT. -/
theorem execDescriptorFetch_of_oneWants (q : Nat × Channel) (enabled : s.fld IE_STATUS.ENABLED e ≠ 0)
    (notSafe : s.is CHIP_SAFE.SAFE 0 = false) (isEngine : e < 16)
    (place : (s.svc.descs.filter (fun d => d.engine == e)).length < 8)
    (wants : (s.engineChans e).filter (fun q => (s.advance t).wantsFetch e q.1 q.2) = [q]) (room : s.cqRoom e q.1 q.2 = true) :
    execDescriptorFetch t e s = settled s t ((s.advance t).fetchFrom e q.1 q.2) := by
  have fetches : ¬ (s.fld IE_STATUS.ENABLED e = 0 ∨ s.is CHIP_SAFE.SAFE 0 = true ∨ 16 ≤ e ∨
      8 ≤ (s.svc.descs.filter (fun d => d.engine == e)).length) := by
    simp [enabled, notSafe, isEngine, place]
  unfold execDescriptorFetch
  rw [liveS_eq _ _ _ up, State.advance_fld, State.advance_is, State.advance_svc, if_neg fetches, State.advance_engineChans, wants]
  simp [room]

/-- R144: the bytes of a host channel's descriptor arrive in time. -/
theorem execIntake_of_hostChannel (ch : Nat) (bytes : List Byte) (d : Desc) (k : Channel)
    (read : s.svc.descs.find? (fun d => d.engine == e && d.ch == ch && d.bytes.isEmpty) = some d) (chan : s.chan ch = some k)
    (host : k.srcKind = 1) (whole : bytes.length = 64) (inTime : (s.advance t).lateDesc k ch = none) :
    execIntake t e ch bytes s = settled s t (((s.advance t).endDescRead k ch).intake d k bytes) := by
  unfold execIntake
  rw [liveS_eq _ _ _ up, State.advance_svc, State.advance_chan, read, chan]
  dsimp only
  rw [if_pos host, if_neg (Decidable.not_not.2 whole), inTime]

theorem execAdmission_eq : execAdmission t s = settled s t
    (((List.range 16).filterMap (fun e => s.svc.descs.find? (fun d => d.engine == e && d.waiting))).foldl
      (State.admitDesc (s.advance t)) (s.advance t)) := liveS_eq t s _ up

theorem execAnswer_of_free (w : Answer) (oldest : s.svc.answers.find? (fun a => a.engine == e) = some w)
    (free : (s.advance t).answerFree w = true) : execAnswer t e s = settled s t ((s.advance t).issueAnswer w) := by
  unfold execAnswer
  rw [liveS_eq _ _ _ up, State.advance_svc, oldest]
  exact congrArg (settled s t) (if_pos free)

end

/-- Settles O40: each row is its operation on the state at its stamp, and what the doorbell, the engine or the answer names is there. -/
theorem channelsServedAndAnswered : Obligations.ChannelsServedAndAnswered := by
  refine ⟨fun s t d v ch k up named within fetches => ?_, fun s t d v ch k up named within => ?_,
    fun s t d v e up bad => ⟨?_, ?_⟩, fun s t e q up => execDescriptorFetch_of_oneWants s t up e q,
    fun s t e ch bytes d k up => execIntake_of_hostChannel s t up e ch bytes d k, execAdmission_eq,
    fun s t e w up => execAnswer_of_free s t up e w⟩
  · exact (execIeChDbSqTail_eq s t d v up).trans
      (congrArg (left s t) (State.ringSq_of_within ((s.advance_behind t d).trans named) v within fetches))
  · exact fun held => (execIeChDbCqHead_eq s t d v up).trans
      (congrArg (left s t) (State.ringCq_of_within ((s.advance_behind t d).trans named) v within held))
  · exact (execIeChDbSqTail_eq s t d v up).trans
      (congrArg (left s t) (State.ringSq_of_badDoor ((s.advance_behind t d).trans bad) v))
  · exact (execIeChDbCqHead_eq s t d v up).trans
      (congrArg (left s t) (State.ringCq_of_badDoor ((s.advance_behind t d).trans bad) v))

end Sys2Proof.Machine
end

section
/-! Dispatch: the Xbcn instructions TNEXT and TDONE (R153 to R155), and the limits of a wait, an op and a core (R154 to R158). -/

namespace Sys2Proof.Machine

open Sys2Proof.Safety

/-! ### The Xbcn instructions (R153 to R155, R171 to R173) -/

theorem executes_advance {s : State} {h ins f3 : Nat} (runs : Executes s h ins f3) (t : Stamp) : Executes (s.advance t) h ins f3 :=
  { runs with }

/-- A hart that can execute an Xbcn instruction carries it out. -/
theorem State.xbcn_of_executes {s : State} {h ins f3 : Nat} (runs : Executes s h ins f3) (f : State → State) :
    s.xbcn h ins f3 false f = f s := by
  obtain ⟨ready, legal, opcode, funct, allowed⟩ := runs
  simp [State.xbcn, ready, legal, opcode, funct, allowed]

section
variable (s : State) (t : Stamp) (h ins : Nat) (up : s.up = true)
include up

section
variable (runs : Executes s h ins 0) (rd : insRd ins ≠ 0) (aligned : (s.xreg h (insRs1 ins)).toNat % 64 = 0)
include runs rd aligned

theorem execTnext_of_noOp (noOp : s.is DSP_CORE.HOLDING h = true ∨ s.fld DSP_CORE.IN_GROUP h = 0) :
    execTnext t h ins s = settled s t ((s.advance t).retire h (insRd ins) 0) := by
  unfold execTnext
  rw [liveS_eq _ _ _ up, beq_false_of_ne rd, State.xbcn_of_executes (executes_advance runs t)]
  exact congrArg (settled s t) ((if_neg (Decidable.not_not.2 aligned)).trans (if_pos noOp))

/-- A TNEXT with a time limit waits for what the dispatcher has for its core. -/
theorem execTnext_of_waits (free : s.is DSP_CORE.HOLDING h = false) (grouped : s.fld DSP_CORE.IN_GROUP h ≠ 0)
    (limited : 0 < (s.xreg h (insRs2 ins)).toNat) :
    execTnext t h ins s = settled s t (((s.advance t).setRun h { s.run h with
      tnext := some (insRd ins, (s.xreg h (insRs1 ins)).toNat,
        (s.advance t).stb + min (s.xreg h (insRs2 ins)).toNat 32768) }).serveCore h) := by
  have asks : ¬ (s.is DSP_CORE.HOLDING h = true ∨ s.fld DSP_CORE.IN_GROUP h = 0) := by simp [free, grouped]
  have waits : min (s.xreg h (insRs2 ins)).toNat 32768 ≠ 0 := by omega
  unfold execTnext
  rw [liveS_eq _ _ _ up, beq_false_of_ne rd, State.xbcn_of_executes (executes_advance runs t)]
  exact congrArg (settled s t) ((if_neg (Decidable.not_not.2 aligned)).trans ((if_neg asks).trans (if_neg waits)))

end

theorem execTdone_of_executes (runs : Executes s h ins 1) (noRs2 : insRs2 ins = 0) :
    execTdone t h ins s = settled s t ((s.advance t).tdone h (insRd ins) ((s.xreg h (insRs1 ins)).toNat % 2 ^ 32)) := by
  unfold execTdone
  rw [liveS_eq _ _ _ up, bne_eq_false_iff_eq.2 noRs2, State.xbcn_of_executes (executes_advance runs t)]
  rfl

end

/-! ### Limits of waits, ops and cores (R154 to R158) -/

@[simp] theorem State.advance_answerStamp (s : State) (t : Stamp) (c : Nat) : (s.advance t).answerStamp c = s.answerStamp c := rfl

/-- R156: an op that its core holds unanswered past its budget. -/
theorem State.fireOverrun_of_passed {s : State} {c : Nat} {o : Op} (holds : s.fld DSP_CORE.HOLDING c ≠ 0)
    (unanswered : s.is DSP_CORE.ANSWERED c = false) (held : s.op (s.fld DSP_CORE.OP_ID c) = some o) (due : o.due = true)
    (passed : (s.run c).dispatched + o.budget ≤ s.stb) :
    s.fireOverrun c = (s.decideOp o.main 2 1 0 none).set DSP_EVT.OVERRUN 0 1 := by
  unfold State.fireOverrun
  rw [if_neg (by simp [holds, unanswered]), held]
  exact if_pos ⟨due, passed⟩

/-- R157: the first part of an op whose deadline is near. -/
theorem State.fireGuard_of_near {s : State} {id : Nat} {o : Op} (admitted : s.op id = some o) (first : o.mate = none)
    (due : o.due = true) (near : o.deadline ≤ s.stb + guardTicks) :
    s.fireGuard id =
      (if (s.parts id).any (fun p => p.state == .running) then s.decideOp id 2 2 0 none else s.withdraw o 2).set
        DSP_EVT.GUARD_FIRED 0 1 := by
  unfold State.fireGuard
  rw [admitted]
  exact if_pos ⟨Option.isNone_iff_eq_none.2 first, due, near⟩

section
variable (s : State) (t : Stamp) (up : s.up = true)
include up

theorem execTnextWaitExpiry_of_reached (h : Nat) (q : Nat × Nat × Stamp) (waits : (s.run h).tnext = some q)
    (reached : q.2.2 ≤ (s.advance t).stb) : execTnextWaitExpiry t h s = settled s t ((s.advance t).endWait h) := by
  unfold execTnextWaitExpiry
  rw [liveS_eq _ _ _ up, State.advance_run, waits]
  exact congrArg (settled s t) (if_pos reached)

theorem execBudgetOverrun_of_passed (c : Nat) (o : Op) (holds : s.fld DSP_CORE.HOLDING c ≠ 0)
    (unanswered : s.is DSP_CORE.ANSWERED c = false) (held : s.op (s.fld DSP_CORE.OP_ID c) = some o) (due : o.due = true)
    (passed : (s.run c).dispatched + o.budget ≤ (s.advance t).stb) :
    execBudgetOverrun t c s = settled s t (((s.advance t).decideOp o.main 2 1 0 none).set DSP_EVT.OVERRUN 0 1) :=
  (liveS_eq t s _ up).trans
    (congrArg (settled s t) (State.fireOverrun_of_passed (s := s.advance t) holds unanswered held due passed))

theorem execDeadlineGuard_of_near (id : Nat) (o : Op) (admitted : s.op id = some o) (first : o.mate = none) (due : o.due = true)
    (near : o.deadline ≤ (s.advance t).stb + guardTicks) :
    execDeadlineGuard t id s = settled s t
      ((if (s.parts id).any (fun p => p.state == .running) then (s.advance t).decideOp id 2 2 0 none
        else (s.advance t).withdraw o 2).set DSP_EVT.GUARD_FIRED 0 1) :=
  (liveS_eq t s _ up).trans (congrArg (settled s t) (State.fireGuard_of_near (s := s.advance t) admitted first due near))

theorem execCoreWithdraw_of_late (c : Nat) (x : Stamp) (answered : s.answerStamp c = some x)
    (holds : s.is DSP_CORE.HOLDING c = true) (grouped : s.is DSP_CORE.IN_GROUP c = true) (notOut : s.fld DSP_CORE.OUT c = 0)
    (late : x + 32768 ≤ (s.advance t).stb) :
    execCoreWithdraw t c s = settled s t
      (((((s.advance t).strand c).set DSP_CORE.OUT c 1).set DSP_EVT.CORE_WITHDRAWN 0 1).trigger [116 + s.fld DSP_CORE.GROUP c] false
        (coreColl c).unit) := by
  unfold execCoreWithdraw
  rw [liveS_eq _ _ _ up, State.advance_answerStamp, answered]
  exact congrArg (settled s t) (if_pos ⟨holds, grouped, notOut, late⟩)

end

/-- Settles O41: each instruction is one that its hart executes, and each limit has been reached at its row's stamp. -/
theorem dispatchAndItsBounds : Obligations.DispatchAndItsBounds :=
  ⟨execTnext_of_noOp, execTnext_of_waits, fun s t h q up => execTnextWaitExpiry_of_reached s t up h q, execTdone_of_executes,
    fun s t c o up => execBudgetOverrun_of_passed s t up c o, fun s t id o up => execDeadlineGuard_of_near s t up id o,
    fun s t c x up => execCoreWithdraw_of_late s t up c x⟩

end Sys2Proof.Machine
end

section
/-! Journals: commits and the acknowledgements of their mirrors (R162, R163, R166), and the drains (R167, R168). -/

namespace Sys2Proof.Machine

open Sys2Proof.Safety

/-! ### Commits and their mirrors (R162, R163, R166) -/

theorem State.finishAccess_of_jbody {s : State} {h : Nat} {a : Access} {body : List Byte} {o : Op} (isBody : a.kind = .jbody)
    (may : (s.dropMiss h).mayCommit h body.length = some o) : s.finishAccess h a body = (s.dropMiss h).commit h a.rd o body := by
  unfold State.finishAccess
  rw [isBody]
  dsimp only
  rw [State.bodyRead, may]

section
variable (s : State) (t : Stamp) (up : s.up = true)
include up

/-- R162: an op of the hart's core has room for a record of this body. -/
theorem execJcommit_of_mayCommit (h ins : Nat) (o : Op) (runs : Executes s h ins 2) (least : 0 < (s.xreg h (insRs2 ins)).toNat)
    (most : (s.xreg h (insRs2 ins)).toNat ≤ 992) (may : (s.advance t).mayCommit h (s.xreg h (insRs2 ins)).toNat = some o) :
    execJcommit t h ins s = settled s t
      ((s.advance t).readBody h (insRd ins) (s.xreg h (insRs1 ins)).toNat (s.xreg h (insRs2 ins)).toNat) := by
  have sized : ¬ ((s.xreg h (insRs2 ins)).toNat = 0 ∨ 992 < (s.xreg h (insRs2 ins)).toNat) := by omega
  unfold execJcommit
  rw [liveS_eq _ _ _ up, State.xbcn_of_executes (executes_advance runs t)]
  dsimp only
  rw [State.advance_xreg, State.advance_xreg, if_neg sized, may]

theorem execMirrorAck_eq (j seq : Nat) : execMirrorAck t j seq s = settled s t
    ((((s.advance t).mapRec j seq (fun r => if r.lost then r else { r with ack := true })).endCommit j seq
      (BitVec.ofNat 64 seq)).pumpDrains) := liveS_eq t s _ up

theorem execMirrorAckTimeout_of_late (j seq c rd : Nat) (u : CoreRun) (x : Stamp) (alone : s.svc.runs = [(c, u)])
    (waits : u.jcommit = some (rd, j, seq, x)) (late : x ≤ (s.advance t).stb) :
    execMirrorAckTimeout t j seq s = settled s t ((s.advance t).loseMirror j seq) := by
  have expired : (j == j && seq == seq && decide (x ≤ (s.advance t).stb)) = true := by
    rw [beq_self_eq_true, beq_self_eq_true, Bool.true_and, Bool.true_and, decide_eq_true late]
  unfold execMirrorAckTimeout
  rw [liveS_eq _ _ _ up, State.advance_svc, alone, List.any_cons, List.any_nil, Bool.or_false, waits]
  exact congrArg (settled s t) (if_pos expired)

/-! ### Drains (R167, R168) -/

theorem execDrainWaitExpiry_of_due (d j : Nat) (b : DrainBlock)
    (fills : (s.drain d).blocks.find? (fun b => b.journal == j && !b.sent) = some b) (runs : s.drainRuns d = true)
    (due : b.first + 32768 * s.fld JNL_DRAIN.WAIT_FRAMES d ≤ (s.advance t).stb) :
    execDrainWaitExpiry t d j s = settled s t ((s.advance t).writeBlock d j) := by
  unfold execDrainWaitExpiry
  rw [liveS_eq _ _ _ up, State.advance_drain, fills]
  exact congrArg (settled s t) (if_pos ⟨runs, due⟩)

variable (d lba : Nat) (b : DrainBlock)
  (writes : (s.drain d).blocks.find? (fun b => b.lba == lba && b.sent && !b.done) = some b)
include writes

theorem execDrainWriteCompletion_of_free (ok : Bool) (notHalted : (s.fld JNL_STATUS.DRAIN_HALTED 0).testBit d = false)
    (free : (s.advance t).drainedFree d = true) :
    execDrainWriteCompletion t d lba ok s = settled s t
      (let a := (s.advance t).takeDrained d
       if ok then
         ((a.setDrain d ((a.drain d).modify (fun c => c == b) (fun c => { c with done := true }))).freeBlocks d b.journal
           (a.drain d).blocks.length).pumpDrains
       else a.drainFailed d b) := by
  have taken : ¬ ((s.fld JNL_STATUS.DRAIN_HALTED 0).testBit d = true ∨ (s.advance t).drainedFree d = false) := by
    simp [notHalted, free]
  unfold execDrainWriteCompletion
  rw [liveS_eq _ _ _ up, State.advance_drain, writes]
  exact congrArg (settled s t) (if_neg taken)

theorem execDrainCommandTimeout_of_late (runs : s.drainRuns d = true) (late : b.issued - 1 + msTicks 100 ≤ (s.advance t).stb) :
    execDrainCommandTimeout t d lba s = settled s t ((s.advance t).drainFailed d b) := by
  unfold execDrainCommandTimeout
  rw [liveS_eq _ _ _ up, State.advance_drain, writes]
  exact congrArg (settled s t) (if_pos ⟨runs, late⟩)

end

/-- Settles O42: each row's conditions hold at its stamp; a body that has been read is committed by the op that still has room for it. -/
theorem journalCommitsAndDrains : Obligations.JournalCommitsAndDrains :=
  ⟨fun s t h ins o up => execJcommit_of_mayCommit s t up h ins o, fun _ _ _ _ _ => State.finishAccess_of_jbody,
    fun s t j seq up => execMirrorAck_eq s t up j seq,
    fun s t j seq c rd u x up => execMirrorAckTimeout_of_late s t up j seq c rd u x,
    fun s t d j b up => execDrainWaitExpiry_of_due s t up d j b,
    fun s t d lba b up writes notHalted free =>
      ⟨execDrainWriteCompletion_of_free s t up d lba b writes true notHalted free,
        execDrainWriteCompletion_of_free s t up d lba b writes false notHalted free⟩,
    fun s t d lba b up => execDrainCommandTimeout_of_late s t up d lba b⟩

end Sys2Proof.Machine
end

section
/-! Translation: fences (R180, R207, R208), and the walks that a hart's walker makes (R199 to R202). -/

namespace Sys2Proof.Machine

open Sys2Proof.Safety

theorem testBit_withoutBit (x i : Nat) : (withoutBit x i).testBit i = false := by
  unfold withoutBit
  split
  next one =>
    have parts : 2 ^ i + (x - 2 ^ i) = x := Nat.add_sub_of_le (Nat.ge_two_pow_of_testBit one)
    have flips := Nat.testBit_two_pow_add_eq (x - 2 ^ i) i
    rw [parts, one] at flips
    simpa using flips.symm
  next zero => exact Bool.eq_false_iff.2 zero

/-! ### A hart goes on -/

theorem State.notHalted_of_hartRuns {s : State} {h : Nat} (runs : s.hartRuns h = true) : (s.hart h).halted = false := by
  simp only [State.hartRuns, Bool.and_eq_true, Bool.not_eq_true'] at runs
  obtain ⟨⟨⟨⟨_, notHalted⟩, _⟩, _⟩, _⟩ := runs
  exact notHalted

/-- Counting an instruction acts on the registers of the hart's triggers, which are CSRs. -/
theorem State.countIns_eq (s : State) (h : Nat) : ∃ csrs, s.countIns h = { s with csrs := csrs } := by
  unfold State.countIns
  refine List.foldlRecOn _ _ (motive := fun r : State => ∃ csrs, r = { s with csrs := csrs }) ⟨s.csrs, rfl⟩ fun r same i _ => ?_
  obtain ⟨csrs, rfl⟩ := same
  dsimp only
  split <;> exact ⟨_, rfl⟩

theorem State.stepped_eq (s : State) (h : Nat) :
    ∃ harts, s.stepped h = { s with harts := harts } ∧ (nget harts h Hart.init).pc = (s.hart h).pc := by
  unfold State.stepped
  split
  · exact ⟨_, rfl, (congrArg Hart.pc (nget_nputd_same ..)).trans rfl⟩
  · exact ⟨_, rfl, rfl⟩

/-- A hart that goes on past `n` bytes has its program counter moved; what else changes is in the harts' records and CSRs. -/
theorem State.nextPc_eq {s : State} {h : Nat} (notHalted : (s.hart h).halted = false) (n : Nat) :
    ∃ csrs harts, s.nextPc h n = { s with csrs := csrs, harts := harts } ∧
      (nget harts h Hart.init).pc = (s.hart h).pc + BitVec.ofNat 64 n := by
  obtain ⟨csrs, counted⟩ := (s.setPc h ((s.hart h).pc + BitVec.ofNat 64 n)).countIns_eq h
  obtain ⟨harts, goesOn, pc⟩ := State.stepped_eq { s.setPc h ((s.hart h).pc + BitVec.ofNat 64 n) with csrs := csrs } h
  refine ⟨csrs, harts, ?_, pc.trans ((congrArg Hart.pc (nget_nputd_same ..)).trans rfl)⟩
  rw [State.nextPc, if_neg (Bool.eq_false_iff.1 notHalted), counted, goesOn]
  rfl

/-! ### Fences (R180, R207, R208) -/

theorem State.clearL1i_noneFetched {s : State} {h : Nat} (q : (Nat × Nat) × CLine) (isLine : q ∈ (s.clearL1i h).fab.lines)
    (own : q.1.1 = h / 4) : q.2.l1.testBit (l1Bit h true) = false := by
  obtain ⟨q', _, rfl⟩ := List.mem_map.1 isLine
  dsimp only at own ⊢
  split at own
  next same => rw [if_pos same]; exact testBit_withoutBit ..
  next other => exact absurd own other

/-- What a fence invalidates, of each kind: FENCE.I lines of its hart's L1I, and every other fence translations. -/
def State.fenced (s : State) (h : Nat) (k : FenceKind) (va asid : Option Nat) : State :=
  { s with fab := { s.fab with
      tlb := if k = .i then s.fab.tlb else s.fab.tlb.filter (fun e => !(e.hart == h && s.covers h k va asid e)),
      ptrs := if k = .i then s.fab.ptrs else s.fab.ptrs.filter (fun p => !(p.hart == h && s.coversPtr h k va asid p)),
      lines := if k = .i then (s.clearL1i h).fab.lines else s.fab.lines } }

theorem State.fenced_eq (s : State) (h : Nat) (k : FenceKind) (va asid : Option Nat) :
    s.fenced h k va asid = if k = .i then s.clearL1i h else s.fenceTlb h k va asid := by
  unfold State.fenced
  split <;> rfl

/-! ### Walks (R199 to R202): the outcome of a walk of a page that no walk of the hart is in flight for -/

section
variable {s : State} {h va : Nat} (alone : s.fab.walks.any (fun x => x.hart == h && x.va / 4096 == va / 4096) = false) {w : Want}
include alone

theorem State.ownWalk_of_found {pa : Phys} (found : (s.walkBy h va w).1 = .inr pa) : s.ownWalk h va w = (s.walkBy h va w).2 := by
  simp only [State.ownWalk, alone, Bool.false_eq_true, if_false, found]

variable {f : WFault} (fault : (s.walkBy h va w).1 = .inl f)
include fault

theorem State.ownWalk_of_fails (noNeed : f.need = none) (noAccess : lookupKey h s.fab.misses = none) :
    s.ownWalk h va w = (s.walkBy h va w).2.walkTrap h va f := by
  simp only [State.ownWalk, alone, Bool.false_eq_true, if_false, fault, noNeed, noAccess, Option.isSome_none]

theorem State.ownWalk_of_needs {nd : Need} (needs : f.need = some nd) :
    s.ownWalk h va w = (s.walkBy h va w).2.askWalk ⟨h, va, w, true, nd, 0, 0, none, none⟩ := by
  simp only [State.ownWalk, alone, Bool.false_eq_true, if_false, fault, needs]

end

/-! ### The rows of a hart that runs -/

section
variable (s : State) (t : Stamp) (up : s.up = true) (h : Nat) (runs : s.hartRuns h = true)
include up runs

theorem execSfenceVma_of_mayFence (k : FenceKind) (va asid : Option Nat) (ins : Nat) (may : s.fenceCause h k = none) :
    execSfenceVma t h k va asid ins s = left s t (((s.advance t).fenced h k va asid).nextPc h 4) := by
  have mayNow : (s.advance t).fenceCause h k = none := may
  unfold execSfenceVma
  rw [live_eq _ _ _ up, State.advance_hartRuns, runs, mayNow, State.fenced_eq]
  rfl

theorem execTableWalk_of_hartRuns (va : Nat) (w : Want) :
    execTableWalk t h va w s = left s t ((s.advance t).ownWalk h (va % 2 ^ 64) w) :=
  (live_eq t s _ up).trans (congrArg (left s t) (if_pos runs))

end

/-- Settles O38: a fence goes on from what it has invalidated, and a walk's outcome says what it leaves. -/
theorem fencesAndWalks : Obligations.FencesAndWalks := by
  refine ⟨fun s t h k va asid ins up runs may => ?_, fun s t h va w up runs alone => ?_⟩
  · have notHalted : (((s.advance t).fenced h k va asid).hart h).halted = false := State.notHalted_of_hartRuns runs
    obtain ⟨csrs, harts, goesOn, pc⟩ := State.nextPc_eq notHalted 4
    refine ⟨_, execSfenceVma_of_mayFence s t up h runs k va asid ins may, ?_⟩
    rw [goesOn]
    refine ⟨rfl, rfl, fun isI => ?_, pc, rfl, rfl, rfl⟩
    subst isI
    exact State.clearL1i_noneFetched (s := s)
  · have walks := execTableWalk_of_hartRuns s t up h runs va w
    have aloneNow : (s.advance t).fab.walks.any (fun x => x.hart == h && x.va / 4096 == va % 2 ^ 64 / 4096) = false := alone
    exact ⟨fun _ found => walks.trans (congrArg (left s t) (State.ownWalk_of_found aloneNow found)),
      fun _ fault noNeed noAccess => walks.trans (congrArg (left s t) (State.ownWalk_of_fails aloneNow fault noNeed noAccess)),
      fun _ _ fault needs => walks.trans (congrArg (left s t) (State.ownWalk_of_needs aloneNow fault needs))⟩

end Sys2Proof.Machine
end

section
/-! The rings: injection (R236 to R239), arrival (R242, R249), and the arbiters of shared ports (R250 to R254). -/

namespace Sys2Proof.Machine

open Sys2Proof.Safety

/-! ### Packets that leave the list of those in flight (R241, R243) -/

/-- `r` differs from `s` at most in the packets in flight and in the pin queues of the stops. -/
def FlightsOnly (s r : State) : Prop := ∃ net pins, r = { s with fab := { s.fab with net := net, pins := pins } }

namespace FlightsOnly

theorem refl (s : State) : FlightsOnly s s := ⟨_, _, rfl⟩

theorem trans {s r q : State} (first : FlightsOnly s r) (second : FlightsOnly r q) : FlightsOnly s q := by
  obtain ⟨_, _, rfl⟩ := first
  obtain ⟨_, _, rfl⟩ := second
  exact ⟨_, _, rfl⟩

theorem ringStamp {s r : State} (h : FlightsOnly s r) (ring : Nat) : r.ringStamp ring = s.ringStamp ring := by
  obtain ⟨_, _, rfl⟩ := h
  rfl

theorem combines {s r : State} (h : FlightsOnly s r) : r.fab.combines = s.fab.combines := by
  obtain ⟨_, _, rfl⟩ := h
  rfl

theorem ite {s a b : State} {c : Prop} [Decidable c] (yes : FlightsOnly s a) (no : FlightsOnly s b) : FlightsOnly s (if c then a else b) := by
  split
  · exact yes
  · exact no

theorem setPinned (s : State) (k : Nat × Nat) (x : List (Nat × Nat)) : FlightsOnly s (s.setPinned k x) := ⟨_, _, rfl⟩

theorem reserveEntry (s : State) (ring stop cls : Nat) : FlightsOnly s (s.reserveEntry ring stop cls) := by
  unfold State.reserveEntry
  split
  · exact .refl s
  · exact (setPinned ..).trans (setPinned ..)

theorem unpin (s : State) (ring : Nat) (p : Pkt) : FlightsOnly s (s.unpin ring p) :=
  List.foldlRecOn _ _ (.refl s) fun _ h _ _ =>
    (h.trans (setPinned ..)).trans (.ite ((setPinned ..).trans (reserveEntry ..)) (.refl _))

theorem takeAt (s : State) (i : Nat) : FlightsOnly s (s.takeAt i) := by
  have erased : FlightsOnly s { s with fab := { s.fab with net := s.fab.net.eraseIdx i } } := ⟨_, _, rfl⟩
  unfold State.takeAt
  extract_lets t
  split
  · split
    · exact erased.trans (reserveEntry ..)
    · exact .ite (erased.trans (unpin ..)) erased
    · exact erased
  · exact erased

/-- R125: only a request to a controller leaves by the controller's queue. -/
theorem takePkt (s : State) {p : Pkt} (notMc : p.toMc = false) : FlightsOnly s (s.takePkt p) := by
  unfold State.takePkt
  rw [notMc, if_neg Bool.false_ne_true]
  split
  · exact takeAt ..
  · exact .refl s

end FlightsOnly

/-! ### Injection (R236, R237, R239, R261)

A ring's time is read from the STB and the replicas, which nothing that an injection does moves. -/

theorem CountsOnly.ringStamp {s r : State} (h : CountsOnly s r) (ring : Nat) : r.ringStamp ring = s.ringStamp ring := by
  obtain ⟨_, _, _, _, rfl, _⟩ := h
  rfl

theorem CountsOnly.countInject (s : State) (ring : Nat) (p : Pkt) : CountsOnly s (s.countInject ring p) :=
  .ite (.ite ((count ..).trans (count ..)) (count ..)) (.refl s)

theorem State.openCombine_ringStamp (s : State) (p : Pkt) (ring : Nat) : (s.openCombine p).ringStamp ring = s.ringStamp ring := by
  unfold State.openCombine
  split <;> rfl

theorem State.dropClaim_ringStamp (s : State) (ring stop dir ring' : Nat) :
    (s.dropClaim ring stop dir).ringStamp ring' = s.ringStamp ring' := by
  unfold State.dropClaim
  split <;> rfl

/-- R232, R236: an injected packet is the last of those in flight, in its slot since the ring's present cycle. -/
theorem State.inject_getLast? (s : State) (ring stop dir lane i : Nat) (f : Flight) :
    (s.inject ring stop dir lane i f).fab.net.getLast? =
      some ⟨{ s.onPath f.origin f.pkt with circuits := 0, pinned := false }, .riding ring stop dir lane, s.ringStamp ring, f.origin, f.flips, f.via⟩ := by
  unfold State.inject
  extract_lets _ p counted granted combining unclaimed taken
  have isGranted : granted.ringStamp ring = counted.ringStamp ring := by
    unfold granted
    split <;> rfl
  have isCombining : combining.ringStamp ring = granted.ringStamp ring := by
    unfold combining
    split
    · exact State.openCombine_ringStamp ..
    · rfl
  have stamp : taken.ringStamp ring = s.ringStamp ring := calc
    taken.ringStamp ring = unclaimed.ringStamp ring := (FlightsOnly.takeAt ..).ringStamp ring
    _ = combining.ringStamp ring := State.dropClaim_ringStamp ..
    _ = granted.ringStamp ring := isCombining
    _ = counted.ringStamp ring := isGranted
    _ = s.ringStamp ring := (CountsOnly.countInject ..).ringStamp ring
  rw [List.getLast?_concat, stamp]

section
variable (s : State) (t : Stamp) (up : s.up = true) (ring stop dir : Nat)
include up

theorem execPacketInject_of_turn (l i : Nat) (f : Flight) (lane : (s.advance t).freeLane ring stop dir = some l)
    (first : (s.advance t).nextInject ring stop dir = some (i, f)) (unclaimed : (s.advance t).claimed ring stop dir = false)
    (clear : ((s.advance t).arriving ring stop dir).isEmpty = true) :
    execPacketInject t ring stop dir s = left s t ((s.advance t).inject ring stop dir l i f) := by
  unfold execPacketInject
  rw [live_eq _ _ _ up, lane, first]
  exact congrArg (left s t) (if_neg (by simp [unclaimed, clear]))

theorem execStarveClaim_of_starved (isRing : ring < 17) (isDir : dir < 2) (starves : (s.advance t).starved ring stop dir = true)
    (mayClaim : (s.advance t).claimOpen ring stop dir = true) :
    execStarveClaim t ring stop dir s = left s t
      (let x := ((s.advance t).assertClaim ring stop dir).bump RING_STOP_CNT.CLAIMS (16 * ring + stop)
       if ring < 16 then x.count (regionBank ring) { code := 0x205 } else x) :=
  (live_eq t s _ up).trans (congrArg (left s t) (if_pos ⟨isRing, isDir, starves, mayClaim⟩))

end

/-! ### Arrival (R242, R249) -/

/-- The only packet in flight comes before no other of its direction. -/
theorem State.arriving_noneBefore {s : State} {f : Flight} (alone : s.fab.net = [f]) (ring stop dir : Nat) :
    (s.arriving ring stop dir).any (fun x => decide (s.ejectRank ring stop dir x.2 < s.ejectRank ring stop dir f)) = false := by
  simp [State.arriving, alone, List.zipIdx_cons]

theorem execPacketArrival_of_alone (s u : State) (t : Stamp) (up : s.up = true) (q : Pkt) (f : Flight) (ring stop dir lane : Nat)
    (e : Upset) (alone : s.fab.net = [f]) (atStop : (s.advance t).atStop f = some (ring, stop, dir, lane))
    (arrives : (s.advance t).arrival f = some (stop, dir, lane))
    (checked : (s.advance t).checked ring stop f.pkt e.header
      (if unitRegion f.pkt.dest == ring && !(f.pkt.snoops ring) then f.flipped e.data else []) = (some q, u)) :
    execPacketArrival t f.pkt e s = settled s t (u.arrivedAt 0 ring stop dir lane
      { f with pkt := q, flips := if unitRegion f.pkt.dest == ring && !(f.pkt.snoops ring) then [] else f.flipped e.data }) := by
  have aloneNow : (s.advance t).fab.net = [f] := alone
  have found : (s.advance t).fab.net.findIdx? (fun g => g.pkt == f.pkt && ((s.advance t).arrival g).isSome) = some 0 := by
    rw [aloneNow, List.findIdx?_cons, beq_self_eq_true, arrives]
    rfl
  have isFirst : (s.advance t).fab.net[0]? = some f := by rw [aloneNow]; rfl
  unfold execPacketArrival
  rw [liveS_eq _ _ _ up, found]
  dsimp only [Option.or]
  rw [isFirst]
  dsimp only
  rw [atStop]
  dsimp only
  rw [arrives, State.arriving_noneBefore aloneNow]
  simp only [Option.isSome_some, Bool.true_and, Bool.false_eq_true, if_false, if_true, checked]

/-! ### Arbiters (R250 to R253) -/

section
variable (s : State) (t : Stamp) (up : s.up = true) (port inst : Nat) (used : portUse port inst ≠ .unused)
include up used

section
variable (hints : List ArbReq) (idle : List Nat)

theorem execTenureDecision_of_noHolder (free : (s.tenure (8 * port + inst)).holder = none) :
    let all := (s.advance t).allReqs port inst (hints.map (ArbReq.lapse idle))
    execTenureDecision t port inst hints idle s = left s t ((s.advance t).decidePort port inst (all.length + 1) all) := by
  have decides : ¬ (portUse port inst = .unused ∨ ((s.tenure (8 * port + inst)).holder.isSome ∧
      s.fld ARB_PORT.HOLD_LIMIT port ≤ (s.tenure (8 * port + inst)).beats)) := by
    simp [used, free]
  unfold execTenureDecision
  rw [live_eq _ _ _ up]
  dsimp only
  rw [State.advance_tenure, State.advance_fld, if_neg decides, free]
  rfl

/-- R252: a holder within HOLD_LIMIT that has requests goes on, unless it has sent its last beat or is revoked. -/
theorem execTenureDecision_of_holder (own : ArbReq)
    (holds : (s.tenure (8 * port + inst)).holder.bind (fun h => ((s.advance t).portReqs port inst).find? (fun r => r.source == h)) = some own)
    (within : (s.tenure (8 * port + inst)).beats < s.fld ARB_PORT.HOLD_LIMIT port) :
    let a := s.advance t
    let x := s.tenure (8 * port + inst)
    let all := a.allReqs port inst (hints.map (ArbReq.lapse idle))
    execTenureDecision t port inst hints idle s = left s t
      (if x.limit ≤ x.beats then a.decidePort port inst (all.length + 1) all
      else if arbRevocable port ∧ x.effort ∧ (a.portReqs port inst).any (fun r => decide (a.arbRank port inst r < a.arbRank port inst own)) then
        ((a.bump ARB_PORT.REVOKES port).setTenure (8 * port + inst)
          { x with revoked := nput x.revoked own.source (x.limit - x.beats) }).decidePort port inst (all.length + 1) all
      else a) := by
  have decides : ¬ (portUse port inst = .unused ∨ ((s.tenure (8 * port + inst)).holder.isSome ∧
      s.fld ARB_PORT.HOLD_LIMIT port ≤ (s.tenure (8 * port + inst)).beats)) := by
    simp [used, within]
  unfold execTenureDecision
  rw [live_eq _ _ _ up]
  dsimp only
  rw [State.advance_tenure, State.advance_fld, if_neg decides, holds]

end

theorem execHoldCutoff_of_reached (h : Nat) (hints : List ArbReq) (holds : (s.tenure (8 * port + inst)).holder = some h)
    (reached : s.fld ARB_PORT.HOLD_LIMIT port ≤ (s.tenure (8 * port + inst)).beats) :
    let all := (s.advance t).allReqs port inst hints
    execHoldCutoff t port inst hints s = left s t ((((s.advance t).bump ARB_PORT.HOLD_CUTOFFS port).setTenure (8 * port + inst)
      { s.tenure (8 * port + inst) with flagged := [h] }).decidePort port inst (all.length + 1) all) := by
  have cutsOff : ¬ (portUse port inst = .unused ∨ (s.tenure (8 * port + inst)).beats < s.fld ARB_PORT.HOLD_LIMIT port) := by
    simp [used, reached]
  unfold execHoldCutoff
  rw [live_eq _ _ _ up]
  dsimp only
  rw [State.advance_tenure, holds]
  exact congrArg (left s t) (if_neg cutsOff)

end

/-- Settles O43: each row's conditions hold at its stamp; an injected packet is the last of those in flight, and nothing that an injection
does moves the time of its ring. -/
theorem ringsAndArbiters : Obligations.RingsAndArbiters := by
  refine ⟨fun s t ring stop dir l i f up => execPacketInject_of_turn s t up ring stop dir l i f, State.inject_getLast?,
    fun s t ring stop dir up => execStarveClaim_of_starved s t up ring stop dir,
    fun s u t p q f ring stop dir lane e up alone isP atStop arrives => ?_,
    fun s t port inst hints idle up used => ⟨execTenureDecision_of_noHolder s t up port inst used hints idle, fun own holds within => ?_⟩,
    fun s t port inst h hints up used => execHoldCutoff_of_reached s t up port inst used h hints⟩
  · subst isP
    exact execPacketArrival_of_alone s u t up q f ring stop dir lane e alone atStop arrives
  · have decided := execTenureDecision_of_holder s t up port inst used hints idle own holds within
    exact ⟨fun last => decided.trans (congrArg (left s t) (if_pos last)),
      fun unsent revocable effort higher => decided.trans
        (congrArg (left s t) ((if_neg (Nat.not_le.2 unsent)).trans (if_pos ⟨revocable, effort, higher⟩)))⟩

end Sys2Proof.Machine
end

section
/-! Coherence: the answers that a transaction waits for (R257 to R261), its limit (R266), and the accesses of a core (R28, R170, R263). -/

namespace Sys2Proof.Machine

open Sys2Proof.Safety

/-- R125, R247: the requests to a controller are of class 3. -/
theorem Pkt.toMc_of_isA {p : Pkt} {cls op : Nat} (isA : p.isA cls op = true) (notRequest : cls ≠ 3) : p.toMc = false := by
  have isCls : p.cls = cls := by
    simp only [Pkt.isA, Bool.and_eq_true, beq_iff_eq] at isA
    obtain ⟨⟨isCls, _⟩, _⟩ := isA
    exact isCls
  rw [Pkt.toMc, isCls, beq_false_of_ne notRequest, Bool.false_and]

theorem State.notHalted_of_ready {s : State} {h : Nat} (ready : s.ready h = true) : (s.hart h).halted = false := by
  simp only [State.ready, Bool.and_eq_true] at ready
  obtain ⟨⟨⟨⟨⟨runs, _⟩, _⟩, _⟩, _⟩, _⟩ := ready
  exact State.notHalted_of_hartRuns runs

theorem State.mayAct_of_ready {s : State} {h : Nat} (ready : s.ready h = true) : s.mayAct h = true := by
  rw [State.mayAct, ready, Bool.true_or]

section
variable (s : State) (t : Stamp) (up : s.up = true)
include up

/-! ### Answers at a course stop and at a home slice (R257 to R261) -/

section
variable (p : Pkt) (has : s.hasPkt p = true)
include has

/-- R261: a course stop with one combining entry, in which the block's answer is not the last. -/
theorem execSnoopPart_of_notLast (c : Combine) (isPart : p.isA 0 3 = true) (alone : s.fab.combines = [c])
    (isDest : c.snoop.dest = p.dest) (isLine : c.snoop.line = p.line) (asked : c.blocks.contains (unitStop p.src) = true)
    (others : c.blocks.filter (fun x => x != unitStop p.src) ≠ []) (isBrick : unitRegion p.src = c.brick) :
    execSnoopPart t p s = settled s t
      (let a := (s.advance t).takePkt p
       { a with fab := { a.fab with combines := [{ c with
          blocks := c.blocks.filter (fun x => x != unitStop p.src), answers := c.answers ||| p.operand % 32 }] } }) := by
  have entry : [c].find? (fun c => c.snoop.dest == p.dest && c.snoop.line == p.line && c.blocks.contains (unitStop p.src)) = some c :=
    List.find?_cons_of_pos (by rw [isDest, isLine, asked, beq_self_eq_true, beq_self_eq_true]; rfl)
  have noOther : [c].filter (fun x => !(x.snoop.dest == p.dest && x.snoop.line == p.line)) = [] := by
    simp [isDest, isLine]
  have combines : ((s.advance t).takePkt p).fab.combines = [c] :=
    (FlightsOnly.takePkt (s.advance t) (Pkt.toMc_of_isA isPart (by decide))).combines.trans alone
  unfold execSnoopPart
  rw [liveS_eq _ _ _ up]
  dsimp only
  rw [State.advance_fab, alone, entry]
  dsimp only
  rw [if_pos ⟨isPart, isBrick, has⟩, combines, noOther, if_neg (by rwa [List.isEmpty_iff])]
  rfl

variable (h : Nat) (x : Txn) (home : sliceOf p.dest = some h) (isSlice : x.slice = h)
include home isSlice

/-- R258: the answer of a brick that has a copy leaves the bricks that have had one. -/
theorem execSnoopSum_of_copy (isSum : p.isA 0 4 = true)
    (waits : s.fab.txns.find? (fun x => x.line == p.line && x.sums.contains (sumFrom p)) = some x) (copy : p.operand.testBit 0 = true) :
    execSnoopSum t p s = settled s t ((((s.advance t).takePkt p).setTxn { x with
      sums := x.sums.filter (fun y => y != sumFrom p), answers := x.answers ||| p.operand % 32 }).homes) := by
  unfold execSnoopSum
  rw [liveS_eq _ _ _ up]
  dsimp only
  rw [State.advance_fab, home, waits]
  dsimp only
  rw [if_pos ⟨isSum, isSlice, has⟩, if_pos copy]

/-- R260, R262: OWN_ZERO and an exporter's line keep the data in the transaction. -/
theorem execFlushData_of_kept (isFlush : p.isA 1 2 = true)
    (waits : s.fab.txns.find? (fun x => x.line == p.line && x.started && !x.granted && x.dirty.isNone) = some x)
    (notSnoop : x.req.cls ≠ 2) (kept : x.req.op = 3 ∨ x.remote = true) :
    execFlushData t p s = settled s t ((((s.advance t).takePkt p).setTxn { x with dirty := some (p.data, p.poison) }).homes) := by
  unfold execFlushData
  rw [liveS_eq _ _ _ up, State.advance_fab, home, waits]
  dsimp only
  rw [if_pos ⟨isFlush, isSlice, has⟩, if_neg notSnoop, if_pos kept]

theorem execMcDone_of_writing (isDone : p.isA 0 5 = true) (waits : s.fab.txns.find? (fun x => x.line == p.line && x.wr) = some x) :
    execMcDone t p s = settled s t ((((s.advance t).takePkt p).setTxn { x with wr := false }).homes) := by
  unfold execMcDone
  rw [liveS_eq _ _ _ up, State.advance_fab, home, waits]
  exact congrArg (settled s t) (if_pos ⟨isDone, isSlice, has⟩)

theorem execGrantSeen_of_granted (isSeen : p.isA 0 2 = true) (waits : s.mainTxn p.line = some x) (granted : x.granted = true)
    (isSrc : x.req.src = p.src) (isTxn : x.req.txn = p.txn) (isPkg : x.req.pkg = p.pkg) :
    execGrantSeen t p s = settled s t ((((s.advance t).takePkt p).closeTxn x).homes) := by
  unfold execGrantSeen
  rw [liveS_eq _ _ _ up, State.advance_mainTxn, home, waits]
  exact congrArg (settled s t) (if_pos ⟨isSeen, isSlice, granted, isSrc, isTxn, isPkg, has⟩)

end

/-! ### Accesses of a core, and what ends by time (R28, R170, R263, R266) -/

theorem execCoreLoadStoreFetch_of_ready (h : Nat) (x : Access) (ready : s.ready h = true) (legal : x.legal = true) :
    execCoreLoadStoreFetch t h x s = settled s t ((s.advance t).beginAccess h x) :=
  (liveS_eq t s _ up).trans
    (congrArg (settled s t) (if_pos ⟨State.mayAct_of_ready (s := s.advance t) ready, legal, .inl (State.notHalted_of_ready ready)⟩))

theorem execFillHoldExpiry_of_passed (bb line f : Nat) (x : CLine) (held : s.held bb line = some x) (fill : x.fill = some f)
    (passed : (s.advance t).holdOver bb f = true) :
    execFillHoldExpiry t bb line s = settled s t ((s.advance t).putLine bb line { x with fill := none }) := by
  unfold execFillHoldExpiry
  rw [liveS_eq _ _ _ up, State.advance_held, held]
  dsimp only
  rw [fill]
  exact congrArg (settled s t) (if_pos passed)

theorem execTransactionTimeout_of_late (h line : Nat) (x : Txn)
    (isOpen : s.fab.txns.find? (fun x => x.line == line && x.slice == h) = some x) (late : x.start + msTicks 10 ≤ (s.advance t).stb) :
    execTransactionTimeout t h line s = settled s t
      (((((s.advance t).logHome h 4 line).closeTxn x).raise { coll := sliceColl h, bit := 2, addr := 64 * line }).homes) := by
  unfold execTransactionTimeout
  rw [liveS_eq _ _ _ up, State.advance_fab, isOpen]
  exact congrArg (settled s t) (if_pos late)

end

/-- Settles O49: the packet has come, and the transaction, the combining entry or the line that it advances is the one found. -/
theorem transactionsAdvance : Obligations.TransactionsAdvance :=
  ⟨fun s t p c up isPart alone isDest isLine asked others isBrick has =>
      ⟨_, execSnoopPart_of_notLast s t up p has c isPart alone isDest isLine asked others isBrick, rfl⟩,
    fun s t p h x up isSum home waits isSlice has => execSnoopSum_of_copy s t up p has h x home isSlice isSum waits,
    fun s t p h x up isFlush home waits isSlice has => execFlushData_of_kept s t up p has h x home isSlice isFlush waits,
    fun s t p h x up isDone home waits isSlice has => execMcDone_of_writing s t up p has h x home isSlice isDone waits,
    fun s t p h x up isSeen home waits isSlice granted isSrc isTxn isPkg has =>
      execGrantSeen_of_granted s t up p has h x home isSlice isSeen waits granted isSrc isTxn isPkg,
    fun s t h x up => execCoreLoadStoreFetch_of_ready s t up h x,
    fun s t bb line f x up => execFillHoldExpiry_of_passed s t up bb line f x,
    fun s t h line x up => execTransactionTimeout_of_late s t up h line x⟩

/-! ### Answers at a core (R256, R260, R263, R266) -/

/-- A row of a packet that has come, whose effect is `r` where it has and none where it has not. -/
theorem liveS_of_hasPkt (s : State) (t : Stamp) (up : s.up = true) (p : Pkt) (has : s.hasPkt p = true) (f : State → State) (r : State)
    (effect : f (s.advance t) = if s.hasPkt p then r else s.advance t) : liveS t s f = settled s t r := by
  rw [liveS_eq _ _ _ up, effect, if_pos has]

section
variable (s : State) (t : Stamp) (up : s.up = true) (p : Pkt) (h : Nat) (toCore : p.core = some h) (has : s.hasPkt p = true)
include up toCore has

theorem execGrant_of_toCore (isGrant : p.isA 0 1 = true) : execGrant t p s = settled s t (((s.advance t).takePkt p).coreGrant h p) :=
  liveS_of_hasPkt s t up p has _ _ (by rw [isGrant, toCore]; rfl)

theorem execLineData_of_toCore (isData : p.isA 1 1 = true) : execLineData t p s = settled s t (((s.advance t).takePkt p).coreData h p) :=
  liveS_of_hasPkt s t up p has _ _ (by rw [isData, toCore]; rfl)

theorem execAtomicOld_of_toCore (isOld : p.isA 1 4 = true) : execAtomicOld t p s = settled s t (((s.advance t).takePkt p).coreData h p) :=
  liveS_of_hasPkt s t up p has _ _ (by rw [isOld, toCore]; rfl)

theorem execErr_of_toCore (isErr : p.isA 0 15 = true) : execErr t p s = settled s t (((s.advance t).takePkt p).errAtCore h p) :=
  liveS_of_hasPkt s t up p has _ _ (by rw [isErr, toCore]; rfl)

theorem execDevAck_of_toCore (isAck : p.isA 0 6 = true) : execDevAck t p s = settled s t (((s.advance t).takePkt p).coreDevice h p) :=
  liveS_of_hasPkt s t up p has _ _ (by rw [toCore]; simp [isAck])

theorem execDevData_of_toCore (isData : p.isA 1 3 = true) (whole : p.data.length = 64) :
    execDevData t p s = settled s t (((s.advance t).takePkt p).coreDevice h p) := by
  unfold execDevData
  rw [liveS_eq _ _ _ up, toCore, isData, whole]
  exact congrArg (settled s t) (if_pos has)

end

/-- Settles O50: a packet that has come to a core is taken there, and each answer goes to the core's own operation for it. -/
theorem coresTakeAnswers : Obligations.CoresTakeAnswers :=
  fun s t p h up toCore has => ⟨execGrant_of_toCore s t up p h toCore has, execLineData_of_toCore s t up p h toCore has,
    execAtomicOld_of_toCore s t up p h toCore has, execErr_of_toCore s t up p h toCore has, execDevAck_of_toCore s t up p h toCore has,
    execDevData_of_toCore s t up p h toCore has⟩

end Sys2Proof.Machine
end

section
/-! Flits of courses and links, time marks (R271 to R273, R293, R302), and the messages of a brick's sideband (R281 to R284, R358). -/

namespace Sys2Proof.Machine

open Sys2Proof.Safety

@[simp] theorem State.advance_contradicts (s : State) (t : Stamp) (l number : Nat) :
    (s.advance t).contradicts l number = s.contradicts l number := rfl

/-! ### Flits and time marks -/

section
variable (s : State) (t : Stamp) (up : s.up = true)
include up

theorem execCourseFlitReceive_of_open (i d : Nat) (f : List Byte) (isCourse : i < 48) (isDir : d < 2) (whole : f.length = 512)
    (courseUp : s.courseUp i = true) (notFenced : (nget s.crs.fenced (i / 4) 0).testBit (i % 4) = false) :
    (flitGood f = true → execCourseFlitReceive t i d f s = settled s t ((s.advance t).goodFlit i d f)) ∧
    (flitGood f = false → execCourseFlitReceive t i d f s = settled s t ((s.advance t).badFlit i d f)) := by
  unfold execCourseFlitReceive
  rw [liveS_eq _ _ _ up, if_neg (by simp [isCourse, isDir, whole, courseUp, notFenced])]
  exact ⟨fun good => by rw [if_pos good], fun bad => by rw [bad, if_neg Bool.false_ne_true]⟩

theorem execLinkFlitReceive_of_open (l from_ : Nat) (f : List Byte) (isLink : l < 8) (whole : f.length = 512) (isPackage : from_ < 1024)
    (linkUp : s.linkUp l = true) :
    (flitGood f = true → execLinkFlitReceive t l f from_ s = settled s t ((s.advance t).goodLinkFlit l from_ f)) ∧
    (flitGood f = false → execLinkFlitReceive t l f from_ s = settled s t ((s.advance t).badLinkFlit l f)) := by
  unfold execLinkFlitReceive
  rw [liveS_eq _ _ _ up, if_neg (by simp [isLink, whole, isPackage, linkUp])]
  exact ⟨fun good => by rw [if_pos good], fun bad => by rw [bad, if_neg Bool.false_ne_true]⟩

/-- The registers that a mark sets are those of its link: what it tests of the light and of the STB's source is as before. -/
theorem execTimeMark_of_expectedPeer (l sA rB sB rA number : Nat) (isLink : l < 8) (linkUp : s.linkUp l = true)
    (expected : s.contradicts l number = false) (otherSource : s.fld STB_STATE.SOURCE 0 ≠ 2)
    (coupled : (s.fld LB_STATUS.COUPLER_LOST 0).testBit l = false) :
    execTimeMark t l sA rB sB rA number s = settled s t
      ((((s.advance t).set LINK_STATUS.PEER l (number % 1024)).set LINK_STATUS.DELAY l
        (((((rB : Int) - sA) + ((rA : Int) - sB)) / 2 / 25).toNat)).set LINK_STATUS.MARKS_OK l 1) := by
  unfold execTimeMark
  rw [liveS_eq _ _ _ up]
  dsimp only
  rw [if_neg (by simp [isLink, linkUp]), if_neg (by simp [expected]), if_neg, if_neg]
  · simp (disch := decide) [State.fld_set_otherReg, otherSource]
  · simp (disch := decide) [State.fld_set_otherReg, coupled]

end

/-- Settles O44: a flit or mark on what is open passes the row's guard, and the flit's check alone decides. -/
theorem flitsAndTimeMarks : Obligations.FlitsAndTimeMarks :=
  ⟨fun s t i d f up => execCourseFlitReceive_of_open s t up i d f,
    fun s t l from_ f up => execLinkFlitReceive_of_open s t up l from_ f,
    fun s t l sA rB sB rA number up => execTimeMark_of_expectedPeer s t up l sA rB sB rA number⟩

/-! ### Sideband messages -/

/-! What is heard leaves of the state all but its stamp and its lane's run of dropped messages. -/

@[simp] theorem heard_board (s : State) (t : Stamp) (b lane : Nat) : (heard s t b lane).board = s.board := rfl
@[simp] theorem heard_wrAddr (s : State) (t : Stamp) (b lane : Nat) : (heard s t b lane).crs.wrAddr = s.crs.wrAddr := rfl
@[simp] theorem heard_stalls (s : State) (t : Stamp) (b lane : Nat) : (heard s t b lane).crs.stalls = s.crs.stalls := rfl
@[simp] theorem heard_courseDir (s : State) (t : Stamp) (b lane i d : Nat) : (heard s t b lane).courseDir i d = s.courseDir i d := rfl
@[simp] theorem heard_spares (s : State) (t : Stamp) (b lane i d : Nat) : (heard s t b lane).spares i d = s.spares i d := rfl
@[simp] theorem heard_stalledNow (s : State) (t : Stamp) (b lane i : Nat) :
    (heard s t b lane).stalledNow i = (s.advance t).stalledNow i := rfl

/-- R394: a reading lifts no cap and sets none. -/
theorem State.readJunction_capOf (s : State) (die v cause d : Nat) : (s.readJunction die v).capOf cause d = s.capOf cause d := rfl

theorem State.setDie_board (s : State) (i : Nat) (d : Option Die) : (s.setDie i d).board = s.board := by
  unfold State.setDie
  dsimp only
  split
  · split
    · simp only [State.set_board]
    · simp only [State.set_board]
  · simp only [State.set_board]

theorem State.noteAnswer_board (s : State) (b mtype : Nat) (d : Die) : (s.noteAnswer b mtype d).board = s.board := by
  unfold State.noteAnswer
  split
  · rfl
  · exact State.setDie_board _ _ _

/-- Values listed one after another at keys of their own are all read back. -/
theorem nget_foldl_nput {α : Type} (key : Nat → Nat) (val : Nat → α) (inj : ∀ i j, key i = key j → i = j) (d : α) (k : Nat) (l : List Nat)
    (m : NMap α) :
    nget (l.foldl (fun m j => nput m (key j) (val j)) m) (key k) d = if k ∈ l then val k else nget m (key k) d := by
  induction l generalizing m with
  | nil => rfl
  | cons j l ih =>
    rw [List.foldl_cons, ih]
    by_cases same : k = j
    · simp [same]
    · rw [nget_nput_other _ _ _ _ _ (fun sameKey => same (inj k j sameKey))]
      simp [same]

/-- R281, R283: a good message that can arrive has its effect. -/
theorem State.message_of_arrives {s : State} {b lane home : Nat} (arrives : Arrives s b lane home) (f : State → State) :
    s.message b lane home true f = f { s with crs := { s.crs with drops := dropKey (8 * b + lane) s.crs.drops } } := by
  obtain ⟨brick, onLane, good, notFenced⟩ := arrives
  exact if_neg (by simp [brick, ← onLane, good, notFenced])

theorem arrives_advance {s : State} {b lane home : Nat} (arrives : Arrives s b lane home) (t : Stamp) :
    Arrives (s.advance t) b lane home :=
  ⟨arrives.brick, arrives.onLane, arrives.good, arrives.open_⟩

section
variable (s : State) (t : Stamp) (up : s.up = true) (b lane : Nat)
include up

/-- The row of a good message that can arrive, whose effect on the state that has heard it is `r`. -/
theorem liveS_message_of_arrives {home : Nat} (arrives : Arrives s b lane home) {f : State → State} {r : State}
    (effect : f (heard s t b lane) = r) : liveS t s (fun s => s.message b lane home true f) = settled s t r := by
  rw [liveS_eq _ _ _ up, State.message_of_arrives (arrives_advance arrives t), ← effect]
  rfl

/-! The messages that arrive at a brick. -/

section
variable (arrives : Arrives s b lane 1)
include arrives

theorem execRegisterReadMessage_of_ownRegion (addr : Nat) (own : inRegion b addr = true) (brickUp : s.brickUp b = true) :
    execRegisterReadMessage t b lane addr true s = settled s t
      (((heard s t b lane).regRead .sideband addr 8).state.sendSide b 3 ((heard s t b lane).regRead .sideband addr 8).val) :=
  liveS_message_of_arrives s t up b lane arrives (if_pos ⟨own, brickUp⟩)

theorem execRegisterWriteMessage_of_address (x : Nat) (noAddr : lookupKey b s.crs.wrAddr = none) :
    execRegisterWriteMessage t b lane x true s = settled s t { heard s t b lane with crs := { (heard s t b lane).crs with
      wrAddr := nput (heard s t b lane).crs.wrAddr b (x % 2 ^ 52) } } :=
  liveS_message_of_arrives s t up b lane arrives (by rw [heard_wrAddr, noAddr])

theorem execRegisterWriteMessage_of_data (x w : Nat) (addr : lookupKey b s.crs.wrAddr = some w) (own : inRegion b w = true)
    (brickUp : s.brickUp b = true) :
    execRegisterWriteMessage t b lane x true s = settled s t (({ heard s t b lane with crs := { (heard s t b lane).crs with
      wrAddr := dropKey b (heard s t b lane).crs.wrAddr } } : State).regWrite .sideband w 8 (x % 2 ^ 64)).state :=
  liveS_message_of_arrives s t up b lane arrives (by rw [heard_wrAddr, addr]; exact if_pos ⟨own, brickUp⟩)

theorem execCapabilityRequest_of_answers (y : Board) (d : Die) (board : s.board = some y) (die : lookupKey (1 + b) y.dies = some d)
    (answers : d.answers = true) :
    execCapabilityRequest t b lane true s = settled s t
      ((((heard s t b lane).sendSide b 0x11 (s.word .DIE_ID (1 + b) 0).toNat).sendSide b 0x12 (s.word .DIE_CAP (1 + b) 0).toNat).sendSide
        b 0x13 (s.word .DIE_ERRATA (1 + b) 0).toNat) :=
  liveS_message_of_arrives s t up b lane arrives (by rw [heard_board, board, Option.bind_some, die]; exact if_pos answers)

theorem execBudget_of_six (ceilings : List Nat) (six : ceilings.length = 6) :
    execBudget t b lane ceilings true s = settled s t
      (({ heard s t b lane with
          pow := { s.pow with budgets := (List.range 6).foldl (fun m k => nput m (6 * b + k) (ceilings.getD k 0 % 256)) s.pow.budgets },
          crs := { (heard s t b lane).crs with noBudget := nput s.crs.noBudget b (frameOf (s.advance t).stb) } } : State).set
        SB_STATUS.BUDGET_FALLBACK b 0) :=
  liveS_message_of_arrives s t up b lane arrives (if_pos six)

/-- The stall that waits is the one agreed upon: it is due, and the list holds no other. -/
theorem execRemapAgreement_of_due (course dir logical phys : Nat) (x : Stall) (alone : s.crs.stalls = [x])
    (isCourse : x.course = 4 * b + course) (isRemap : x.change = .remap dir logical)
    (unmoved : (s.courseDir x.course dir).map[logical]? = some logical) (spare : (s.spares x.course dir).head? = some phys)
    (mayStall : (s.advance t).stalledNow x.course = false) :
    execRemapAgreement t b lane course dir logical phys true s = settled s t
      (({ heard s t b lane with crs := { (heard s t b lane).crs with stalls := [] } } : State).applyStall x) := by
  refine liveS_message_of_arrives s t up b lane arrives ?_
  rw [isCourse] at unmoved spare mayStall
  simp [alone, isCourse, isRemap, unmoved, spare, mayStall]

end

/-! The messages that arrive from a brick. -/

theorem execReadAnswer_of_arrives (arrives : Arrives s b lane 4) (x : Nat) :
    execReadAnswer t b lane x true s = settled s t ((heard s t b lane).emit .regRead [b, x % 2 ^ 64]) :=
  liveS_message_of_arrives s t up b lane arrives rfl

theorem execCapabilityAnswer_of_dieCap (arrives : Arrives s b lane 4) (y : Board) (x : Nat) (board : s.board = some y) :
    let d : Die := { (lookupKey (1 + b) y.dies).getD ⟨true, false, 0, 0, 0, 0⟩ with caps := x % 2 ^ 15 }
    execCapabilityAnswer t b lane 0x12 x true s = settled s t
      (({ heard s t b lane with board := some { y with dies := nput y.dies (1 + b) d } } : State).noteAnswer b 0x12 d) :=
  liveS_message_of_arrives s t up b lane arrives (by rw [heard_board, board]; rfl)

theorem execTelemetry_of_noCap (arrives : Arrives s b lane 4) (power junction : Nat)
    (noCap : (brickDomains b).any (fun d => (s.capOf 3 d).isSome) = false) :
    execTelemetry t b lane power junction true s = settled s t
      (({ heard s t b lane with
          pow := { (heard s t b lane).pow with watts := nput (heard s t b lane).pow.watts b (power % 65536) },
          crs := { (heard s t b lane).crs with
            noTele := nput (heard s t b lane).crs.noTele b (frameOf (heard s t b lane).stb) } } : State).readJunction b junction) := by
  refine liveS_message_of_arrives s t up b lane arrives (if_neg ?_)
  simp only [State.readJunction_capOf]
  exact Bool.eq_false_iff.1 noCap

theorem execFence_of_arrives (arrives : Arrives s b lane 2) (courses : Nat) (side : Bool) :
    execFence t b lane courses side true s = settled s t { heard s t b lane with crs := { (heard s t b lane).crs with
      fenced := nput s.crs.fenced b ((nget s.crs.fenced b 0 ||| courses % 16) ||| 16 * flag side) } } :=
  liveS_message_of_arrives s t up b lane arrives rfl

theorem execErrorPin_of_level (arrives : Arrives s b lane 5) (level : Nat) (isLevel : level ≤ 4) :
    let a := heard s t b lane
    let z : State := { a with faults := { a.faults with brickPins := nputd a.faults.brickPins b level 0 } }
    let stamp := z.pinStamp b level
    execErrorPin t b lane level true s =
      settled s t (((z.setBit .chip b (level != 0) stamp).driveAll .chip stamp).checkSafeEnd) := by
  unfold execErrorPin
  rw [Bool.true_and, decide_eq_true isLevel]
  exact liveS_message_of_arrives s t up b lane arrives rfl

end

/-- Settles O45: a message that can arrive has its row's effect on the state that has heard it; the effects are those of the rows above. -/
theorem sidebandMessages : Obligations.SidebandMessages := by
  refine ⟨fun s t b lane up arrives => ⟨execRegisterReadMessage_of_ownRegion s t up b lane arrives,
      execRegisterWriteMessage_of_address s t up b lane arrives, execRegisterWriteMessage_of_data s t up b lane arrives,
      execCapabilityRequest_of_answers s t up b lane arrives, fun ceilings six => ?budget,
      execRemapAgreement_of_due s t up b lane arrives⟩,
    fun s t b lane up arrives => ⟨execReadAnswer_of_arrives s t up b lane arrives, fun y x board => ?answer,
      execTelemetry_of_noCap s t up b lane arrives⟩,
    fun s t b lane courses side up arrives => ⟨_, execFence_of_arrives s t up b lane arrives courses side, nget_nput_same ..⟩,
    fun s t b lane level up arrives => execErrorPin_of_level s t up b lane arrives level⟩
  case budget =>
    refine ⟨_, execBudget_of_six s t up b lane arrives ceilings six, State.fld_set_same _ SB_STATUS.BUDGET_FALLBACK b 0 (by decide),
      fun k isBlock => ?_, nget_nput_same ..⟩
    exact (nget_foldl_nput (6 * b + ·) _ (fun _ _ => Nat.add_left_cancel) 0 k _ _).trans (if_pos (List.mem_range.2 isBlock))
  case answer =>
    refine ⟨_, execCapabilityAnswer_of_dieCap s t up b lane arrives y x board, ?_⟩
    rw [State.noteAnswer_board]
    simp [nput, lookupKey_putBy_same]

end Sys2Proof.Machine
end

section
/-! Constellations: links that go down and members that are lost, membership, the grandmaster's election and doorbell messages (R288, R294,
R301, R303, R307 to R310); remote transactions at their exporter and their issuer (R294, R296, R299); mirror slots (R305, R306). -/

namespace Sys2Proof.Machine

open Sys2Proof.Safety

/-! ### What the constellation reads after time has advanced -/

@[simp] theorem State.advance_mayElect (s : State) (t : Stamp) (gm : Nat) : (s.advance t).mayElect gm = s.mayElect gm := rfl
@[simp] theorem State.advance_remoteAt (s : State) (t : Stamp) (slice txn : Nat) :
    (s.advance t).remoteAt slice txn = s.remoteAt slice txn := rfl

/-- R308, R309: a member hears of every package but itself. -/
theorem State.hearsUpdate_of_member {s : State} (t : Stamp) {p : Nat} (member : s.is CST_STATUS.MEMBER 0 = true) (isPackage : p < 1024)
    (other : p ≠ s.fld CST_STATUS.NUMBER 0) :
    ¬ ((s.advance t).is CST_STATUS.MEMBER 0 = false ∨ 1024 ≤ p ∨ p = (s.advance t).fld CST_STATUS.NUMBER 0) := by
  simp [member, isPackage, other]

section
variable (s : State) (t : Stamp) (up : s.up = true)
include up

/-! ### Links and members (R288, R307 to R310) -/

/-- Every cause takes the link down; a loss of light and a wrong peer are noted as well. -/
theorem execLinkDown_of_lit (l : Nat) (isLink : l < 8) (lit : s.fld LINK_STATUS.STATE l = 2 ∨ s.fld LINK_STATUS.STATE l = 1) :
    let a := (s.advance t).dropLink l 0
    execLinkDown t l 0 s = settled s t a ∧
    execLinkDown t l 1 s = settled s t (a.set LB_STATUS.LINK_PATH_LOST 0 (withBit (a.fld LB_STATUS.LINK_PATH_LOST 0) l)) ∧
    execLinkDown t l 3 s = settled s t (a.set LINK_EVT.WRONG_PEER l 1) := by
  have passes (cause : Nat) (isCause : cause < 4) : ¬ (8 ≤ l ∨ 4 ≤ cause ∨
      ((s.advance t).fld LINK_STATUS.STATE l ≠ 2 ∧ (s.advance t).fld LINK_STATUS.STATE l ≠ 1)) := by
    rw [State.advance_fld]
    omega
  unfold execLinkDown
  simp only [liveS_eq _ _ _ up]
  exact ⟨congrArg _ (if_neg (passes 0 (by decide))), congrArg _ (if_neg (passes 1 (by decide))),
    congrArg _ (if_neg (passes 3 (by decide)))⟩

theorem execMemberLost_of_cutOff (p : Nat) (member : s.isMember p = true) (other : p ≠ s.fld CST_STATUS.NUMBER 0)
    (cut : (s.advance t).cutOff p = true) : execMemberLost t p s = settled s t (((s.advance t).loseMember p).sendUpdate p 1) :=
  (liveS_eq t s _ up).trans (congrArg (settled s t) (if_pos ⟨member, other, cut⟩))

section
variable (p : Nat) (member : s.is CST_STATUS.MEMBER 0 = true) (isPackage : p < 1024) (other : p ≠ s.fld CST_STATUS.NUMBER 0)
include member isPackage other

theorem execMembershipUpdate_of_left : execMembershipUpdate t p false s = settled s t ((s.advance t).loseMember p) :=
  (liveS_eq t s _ up).trans (congrArg (settled s t) (if_neg (State.hearsUpdate_of_member t member isPackage other)))

theorem execMembershipUpdate_of_came (new : s.isMember p = false) :
    execMembershipUpdate t p true s = settled s t (((s.advance t).setMember p true).constEvent p 0) :=
  (liveS_eq t s _ up).trans (congrArg (settled s t) ((if_neg (State.hearsUpdate_of_member t member isPackage other)).trans
    (if_neg (Bool.eq_false_iff.1 new))))

end

/-! ### The grandmaster and doorbell messages (R301, R303) -/

/-- A package that is the grandmaster takes its time from no link. -/
theorem execGrandmasterElection_of_own (may : s.mayElect (s.fld CST_STATUS.NUMBER 0) = true) :
    execGrandmasterElection t (s.fld CST_STATUS.NUMBER 0) s =
      settled s t (((s.advance t).set CST_STATUS.GM 0 (s.fld CST_STATUS.NUMBER 0)).set CST_STATUS.IS_GM 0 1) := by
  unfold execGrandmasterElection
  rw [liveS_eq _ _ _ up]
  dsimp only
  rw [State.advance_mayElect, if_neg (by simp [may]), State.advance_fld, beq_self_eq_true, if_pos rfl, flag, if_pos rfl]

theorem execGrandmasterElection_of_ruledOut (gm : Nat) (ruledOut : s.mayElect gm = false) :
    execGrandmasterElection t gm s = settled s t (s.advance t) :=
  (liveS_eq t s _ up).trans (congrArg (settled s t) (if_pos ruledOut))

theorem execDoorbellMessage_eq (src hart file guest eiid : Nat) (secure : Bool) :
    let ok := (s.word .CST_MSG_ALLOW (src / 64) 0).toNat.testBit (src % 64) && !(file == 0 && !secure) && decide (hart < 288) &&
      s.coreUp hart && eiid != 0
    (ok = true → execDoorbellMessage t src hart file guest eiid secure s =
      settled s t ((s.advance t).msi hart file (if file = 2 then guest else 0) eiid)) ∧
    (ok = false → execDoorbellMessage t src hart file guest eiid secure s =
      settled s t ((s.advance t).bump CST_MSG_STATUS.DROPPED 0)) := by
  unfold execDoorbellMessage
  rw [liveS_eq _ _ _ up]
  unfold State.takeMessage
  exact ⟨fun allowed => congrArg (settled s t) (if_pos allowed),
    fun refused => congrArg (settled s t) (if_neg (Bool.eq_false_iff.1 refused))⟩

end

/-- Settles O29: each row's conditions hold at its stamp, so it is its operation on the state at that stamp. -/
theorem membersAndTheirMessages : Obligations.MembersAndTheirMessages :=
  ⟨fun s t l up => execLinkDown_of_lit s t up l, fun s t p up => execMemberLost_of_cutOff s t up p,
    fun s t p up member isPackage other => ⟨execMembershipUpdate_of_left s t up p member isPackage other,
      execMembershipUpdate_of_came s t up p member isPackage other⟩,
    execGrandmasterElection_of_own, fun s t gm up => execGrandmasterElection_of_ruledOut s t up gm,
    fun s t src hart file guest eiid secure up => execDoorbellMessage_eq s t up src hart file guest eiid secure⟩

/-! ### Remote transactions (R294, R296, R299) -/

theorem FlightsOnly.regs {s r : State} (h : FlightsOnly s r) : r.regs = s.regs := by
  obtain ⟨_, _, rfl⟩ := h
  rfl

/-- R247: a member's request that carries no data unit is none to a memory controller. -/
theorem Pkt.toMc_of_remoteOp {p : Pkt} (isOp : p.op = 1 ∨ p.op = 2 ∨ p.op = 3 ∨ p.op = 8) : p.toMc = false := by
  obtain e | e | e | e := isOp <;> simp [Pkt.toMc, e]

section
variable (s : State) (t : Stamp) (up : s.up = true)
include up

/-- R294, R296: the package is still a member that does not leave when it has taken the request, so its own checks alone decide. -/
theorem execRemoteRequest_of_member (p : Pkt) (g : Nat) (member : s.is CST_STATUS.MEMBER 0 = true)
    (stays : s.is CST_STATUS.LEAVING 0 = false) (from_ : p.pkg = some g) (has : s.hasPkt p = true)
    (own : lineWindow p.line = some (s.fld CST_STATUS.NUMBER 0)) (request : p.cls = 3)
    (isOp : p.op = 1 ∨ p.op = 2 ∨ p.op = 3 ∨ p.op = 8) :
    let a := (s.advance t).takePkt p
    (a.exportRefuses p g = true → execRemoteRequest t p s = settled s t (a.sendOut g (p.cause 0 15 p.src 1))) ∧
    (a.exportRefuses p g = false → execRemoteRequest t p s = settled s t
      (a.sendFrom p.dest { p with line := a.importLine p.line, dest := sliceCode (homeSlice (64 * a.importLine p.line)) })) := by
  intro a
  have notLeaving : ¬ a.is CST_STATUS.LEAVING 0 = true := by
    have regs : a.regs = s.regs := (FlightsOnly.takePkt (s.advance t) (Pkt.toMc_of_remoteOp isOp)).regs
    rw [State.is, State.fld, regs]
    exact Bool.eq_false_iff.1 stays
  have takes : ¬ ((s.advance t).is CST_STATUS.MEMBER 0 = false ∨ s.fld CST_STATUS.NUMBER 0 ≠ (s.advance t).fld CST_STATUS.NUMBER 0 ∨
      p.cls ≠ 3 ∨ [1, 2, 3, 4, 8, 9, 10].contains p.op = false ∨ (carriesData p.cls p.op ∧ p.data.length ≠ 64) ∨
      (p.op = 9 ∧ p.fits = false) ∨ (p.op = 10 ∧ p.atomicOk = false) ∨ (s.advance t).hasPkt p = false) := by
    obtain e | e | e | e := isOp <;> simp [e, member, request, has, carriesData]
  unfold execRemoteRequest
  rw [liveS_eq _ _ _ up, from_, own]
  dsimp only
  rw [if_neg takes, if_neg notLeaving]
  exact ⟨fun refuses => congrArg (settled s t) (if_pos refuses),
    fun accepts => congrArg (settled s t) (if_neg (Bool.eq_false_iff.1 accepts))⟩

section
variable (slice txn : Nat) (r : Remote) (isOut : s.remoteAt slice txn = some r)
include isOut

theorem execRemoteTimeout_of_late (awaited : r.quarantined = false)
    (late : r.start + usTicks (s.fld CST_CTRL.REMOTE_TO 0) ≤ (s.advance t).stb) :
    execRemoteTimeout t slice txn s = settled s t
      ((((s.advance t).quarantine r).set LINK_EVT.REMOTE_TIMEOUT r.link 1).failRemote r) := by
  unfold execRemoteTimeout
  rw [liveS_eq _ _ _ up, State.advance_remoteAt, isOut]
  exact congrArg (settled s t) (if_neg (not_or.2 ⟨Bool.eq_false_iff.1 awaited, Nat.not_lt.2 late⟩))

theorem execRemoteQuarantineExpiry_of_passed (quarantined : r.quarantined = true)
    (passed : r.start + 4 * usTicks (s.fld CST_CTRL.REMOTE_TO 0) ≤ (s.advance t).stb) :
    execRemoteQuarantineExpiry t slice txn s = settled s t (((s.advance t).dropRemote r).homes) := by
  unfold execRemoteQuarantineExpiry
  rw [liveS_eq _ _ _ up, State.advance_remoteAt, isOut]
  exact congrArg (settled s t) (if_pos ⟨quarantined, passed⟩)

end

/-! ### Mirror slots (R305, R306) -/

theorem execMirrorRecord_of_member (src journal seq drained : Nat) (bytes : List Byte) (member : s.isMember src = true)
    (isJournal : journal < 64) (nonempty : 0 < bytes.length) (whole : bytes.length % 64 = 0) :
    execMirrorRecord t src journal seq bytes drained s = settled s t ((s.advance t).mirrorRecord src journal seq bytes drained) :=
  (liveS_eq t s _ up).trans (congrArg (settled s t) (if_pos ⟨member, isJournal, nonempty, whole⟩))

theorem execMirrorMark_eq (src journal seq fl drained : Nat) (ended : Bool) :
    execMirrorMark t src journal seq fl drained ended s = settled s t ((s.advance t).mirrorMark src journal seq fl drained ended) :=
  liveS_eq t s _ up

end

/-- Settles O54: the exporter's own checks decide a request, and the time that has passed decides a remote transaction's end. -/
theorem remoteTransactionsAndMirrors : Obligations.RemoteTransactionsAndMirrors :=
  ⟨fun s t p g up member stays from_ has own request isOp _ =>
      execRemoteRequest_of_member s t up p g member stays from_ has own request isOp,
    fun s t slice txn r up => execRemoteTimeout_of_late s t up slice txn r,
    fun s t slice txn r up => execRemoteQuarantineExpiry_of_passed s t up slice txn r,
    fun s t src journal seq drained up => ⟨execMirrorRecord_of_member s t up src journal seq drained,
      fun fl => execMirrorMark_eq s t up src journal seq fl drained⟩⟩

end Sys2Proof.Machine
end

section
/-! World switches: WSWITCH by its hart's world, mode and gate frame (R321, R322, R324). -/

namespace Sys2Proof.Machine

open Sys2Proof.Safety

/-- R171 to R173: an Xbcn row whose instruction has no illegal field and may execute is its operation on the state at its stamp. -/
theorem liveS_xbcn_of_executes {s : State} {h ins f3 : Nat} {bad : Bool} (t : Stamp) (up : s.up = true)
    (runs : Executes s h ins f3) (good : bad = false) (f : State → State) :
    liveS t s (fun s => s.xbcn h ins f3 bad f) = settled s t (f (s.advance t)) := by
  rw [liveS_eq _ _ _ up, good, State.xbcn_of_executes (executes_advance runs t)]

section
variable (s : State) (t : Stamp) (h ins : Nat) (up : s.up = true) (runs : Executes s h ins 3) (noRs2 : insRs2 ins = 0)
include up runs noRs2

section
variable (secure : s.hartSecure h = true) (machine : (s.hart h).priv = 3)
include secure machine

theorem execWswitch_of_secure_closed (closed : s.is CORE_WFRAME.OPEN h = false) :
    execWswitch t h ins s = settled s t (((s.advance t).toWorld h 0).retire h (insRd ins) 0) :=
  (liveS_xbcn_of_executes t up runs (bne_eq_false_iff_eq.2 noRs2) _).trans (congrArg (settled s t)
    ((if_pos secure).trans ((if_neg (Decidable.not_not.2 machine)).trans (if_neg (Bool.eq_false_iff.1 closed)))))

theorem execWswitch_of_secure_open (frame : s.is CORE_WFRAME.OPEN h = true) :
    execWswitch t h ins s = settled s t ((s.advance t).gateReturn h (insRs1 ins)) :=
  (liveS_xbcn_of_executes t up runs (bne_eq_false_iff_eq.2 noRs2) _).trans (congrArg (settled s t)
    ((if_pos secure).trans ((if_neg (Decidable.not_not.2 machine)).trans (if_pos frame))))

end

section
variable (normal : s.hartSecure h = false) (closed : s.is CORE_WFRAME.OPEN h = false)
include normal closed

theorem execWswitch_of_normal_secureBlock (machine : (s.hart h).priv = 3) (block : s.is MWORLD.BLOCK_WORLD h = true) :
    execWswitch t h ins s = settled s t (((s.advance t).toWorld h 1).retire h (insRd ins) 0) :=
  (liveS_xbcn_of_executes t up runs (bne_eq_false_iff_eq.2 noRs2) _).trans (congrArg (settled s t)
    ((if_neg (Bool.eq_false_iff.1 normal)).trans ((if_neg (Bool.eq_false_iff.1 closed)).trans (if_pos ⟨machine, block⟩))))

/-- A gate call comes from below M-mode, and from M-mode in a block of the normal world. -/
theorem execWswitch_of_normal_gated (gated : ¬ ((s.hart h).priv = 3 ∧ s.is MWORLD.BLOCK_WORLD h = true)) :
    execWswitch t h ins s = settled s t ((s.advance t).gateCall h (insRd ins) (s.xreg h (insRs1 ins))) :=
  (liveS_xbcn_of_executes t up runs (bne_eq_false_iff_eq.2 noRs2) _).trans (congrArg (settled s t)
    ((if_neg (Bool.eq_false_iff.1 normal)).trans ((if_neg (Bool.eq_false_iff.1 closed)).trans (if_neg gated))))

end

end

/-- Settles O37: the hart's world, its mode, its frame and its block's world pick the row of R321's table. -/
theorem worldSwitch : Obligations.WorldSwitch :=
  fun s t h ins up runs noRs2 => ⟨execWswitch_of_secure_closed s t h ins up runs noRs2,
    execWswitch_of_secure_open s t h ins up runs noRs2, execWswitch_of_normal_secureBlock s t h ins up runs noRs2,
    fun normal closed below =>
      execWswitch_of_normal_gated s t h ins up runs noRs2 normal closed (fun both => below both.1)⟩

end Sys2Proof.Machine
end

section
/-! The front of the queue (logs 2 and 3), and the images of the save store: SAVE_RELEASE and SAVE_STATUS (R412). -/

namespace Sys2Proof.Machine

/-- Settles O1: by the two cases of the queue. -/
theorem stepRunsTheFront : Obligations.StepRunsTheFront :=
  ⟨fun _ _ => rfl, fun s empty => by rw [step, empty]⟩

/-! ### Images -/

theorem State.imageIn_of_images {s r : State} (same : r.nf.images = s.nf.images) (k : Nat) : r.imageIn k = s.imageIn k := by
  rw [State.imageIn, same, State.imageIn]

theorem State.imageIn_putImage_same (s : State) (im : Image) : (s.putImage im).imageIn im.slot = some im := by
  have noOther : (s.nf.images.filter (fun x => x.slot != im.slot)).find? (fun x => x.slot == im.slot) = none := by
    simp [List.find?_eq_none]
  simp [State.imageIn, State.putImage, List.find?_append, noOther]

theorem State.imageIn_putImage_other (s : State) (im : Image) {k : Nat} (other : k ≠ im.slot) :
    (s.putImage im).imageIn k = s.imageIn k := by
  have kept : (fun x : Image => !decide (x.slot = im.slot) && decide (x.slot = k)) = fun x => decide (x.slot = k) := by
    funext x
    by_cases isK : x.slot = k
    · simp [isK, other]
    · simp [isK]
  simp [State.imageIn, State.putImage, List.find?_append, List.find?_filter, other.symm, beq_eq_decide, kept]

theorem FaultOnly.nf {s r : State} (h : FaultOnly s r) : r.nf = s.nf := by
  obtain ⟨_, _, _, _, _, rfl, _⟩ := h
  rfl

/-- R399: whether the package is armed is decided without touching an image. -/
theorem State.decideArming_images (s : State) : s.decideArming.nf.images = s.nf.images := by
  unfold State.decideArming
  split
  · rfl
  · extract_lets arm night low bank _ armed
    have lowImages : low.nf.images = s.nf.images := by
      unfold low
      split <;> rfl
    split
    · exact lowImages
    · split
      · exact lowImages
      · exact (congrArg Night.images (State.raise_faultOnly armed _).nf).trans lowImages

/-! ### SAVE_RELEASE and SAVE_STATUS (R412) -/

/-- The image is released, and neither the held slots nor the journal's records nor the arming that follow it are an image. -/
theorem cmdSaveRelease_imageIn (c : Caller) (p : List Byte) {s : State} {im : Image} (oldest : s.oldestImage = some im) (k : Nat) :
    (cmdSaveRelease c p s).state.imageIn k = (s.putImage { im with state := 3 }).imageIn k := by
  rw [cmdSaveRelease, oldest]
  exact State.imageIn_of_images (State.decideArming_images _) k

theorem leAt_leBytes_one (x : Nat) (r : List Byte) : leAt (leBytes 1 x ++ r) 0 1 = x % 256 := by
  simp [leAt, leBytes, leNat]

/-- Settles O10: the released image alone is put in its slot, and STATE is the first of the conditions in R412's order. -/
theorem saveReleaseAndStatus : Obligations.SaveReleaseAndStatus := by
  refine ⟨fun c p s im oldest => ⟨?_, ?_, rfl, fun k other => ?_⟩, fun c p s => ⟨_, rfl, ?_⟩⟩
  · rw [cmdSaveRelease, oldest]
    rfl
  · rw [cmdSaveRelease_imageIn c p oldest]
    exact s.imageIn_putImage_same { im with state := 3 }
  · rw [cmdSaveRelease_imageIn c p oldest]
    exact s.imageIn_putImage_other { im with state := 3 } other
  · rw [List.append_assoc, List.append_assoc, List.append_assoc, leAt_leBytes_one]
    refine ⟨fun restores => ?_, fun idle held => ?_, fun idle notHeld => ?_⟩
    · rw [if_pos restores]
    · rw [if_neg (Bool.eq_false_iff.1 idle), if_pos held]
    · rw [if_neg (Bool.eq_false_iff.1 idle), if_neg (Decidable.not_not.2 notHeld)]
      split <;> decide

end Sys2Proof.Machine
end

section
/-! Host ports: read tags (R353 to R355), root ports and their containment (R339, R351, R352), and the configuration and the resets of
endpoints (R335, R336, R341, R356). -/

namespace Sys2Proof.Machine

open Sys2Proof.Safety

/-- Fields that lie apart in their words keep their values, whichever registers they belong to. -/
theorem State.fld_set_apart (s : State) (F G : Fld) (i j v : Nat) (h : G.lo + G.w ≤ 64)
    (apart : F.lo + F.w ≤ G.lo ∨ G.lo + G.w ≤ F.lo) : (s.set F i v).fld G j = s.fld G j :=
  s.fld_set_other F G i j v h (.inr (.inr (.inr apart)))

/-! ### What the host ports read after time has advanced -/

@[simp] theorem State.advance_linksOf (s : State) (t : Stamp) (p : Nat) : (s.advance t).linksOf p = s.linksOf p := rfl
@[simp] theorem State.advance_hasFn (s : State) (t : Stamp) (p fn : Nat) : (s.advance t).hasFn p fn = s.hasFn p fn := rfl
@[simp] theorem State.advance_inReset (s : State) (t : Stamp) (p fn : Nat) : (s.advance t).inReset p fn = s.inReset p fn := rfl

/-! ### Tags (R353 to R355) -/

section
variable {s : State} {p tag : Nat} {x : TagHold} (held : s.pcie.holds.find? (fun x => x.port == p && x.tag == tag) = some x)
include held

theorem State.lateCpl_of_silent (silent : x.silent = true) : s.lateCpl p tag true = s.freeHold x := by
  simp only [State.lateCpl, held, silent, if_true]

theorem State.lateCpl_of_loud (loud : x.silent = false) :
    s.lateCpl p tag false = (s.set PCIE_PORT_EVT.LATE_CPL p 1).portFails true p x.fn 16 2 := by
  simp only [State.lateCpl, held, loud, Bool.false_eq_true, if_false]

end

section
variable (s : State) (t : Stamp) (up : s.up = true) (p tag : Nat)
include up

theorem execCompletionTimeout_of_late (r : PcieRead) (out : s.pcie.reads.find? (fun r => r.port == p && r.tag == tag) = some r)
    (late : r.issued + s.cplTicks p ≤ (s.advance t).stb) :
    execCompletionTimeout t p tag s = settled s t ((s.advance t).readTimesOut r) := by
  unfold execCompletionTimeout
  rw [liveS_eq _ _ _ up, State.advance_pcie, out]
  exact congrArg (settled s t) (if_pos late)

/-- R354: a completion for a tag that no read of configuration or memory writes waits for is a late one. -/
theorem execLateCompletion_of_noRead (last : Bool)
    (noRead : s.pcie.reads.find? (fun r => r.port == p && r.tag == tag && r.asker == .write) = none) :
    execLateCompletion t p tag last s = settled s t ((s.advance t).lateCpl p tag last) := by
  unfold execLateCompletion
  rw [liveS_eq _ _ _ up, State.advance_pcie, noRead]

theorem execTagQuarantineExpiry_of_passed (x : TagHold)
    (held : s.pcie.holds.find? (fun x => x.port == p && x.tag == tag) = some x) (passed : x.stop ≤ (s.advance t).stb) :
    execTagQuarantineExpiry t p tag s = settled s t ((s.advance t).freeHold x) := by
  unfold execTagQuarantineExpiry
  rw [liveS_eq _ _ _ up, State.advance_pcie, held]
  exact congrArg (settled s t) (if_pos passed)

end

/-! ### Root ports (R339, R350 to R352) -/

section
variable (s : State) (t : Stamp) (up : s.up = true) (p j : Nat) (isLink : (s.linksOf p).contains j = true)
include up isLink

theorem execDownstreamPortContainment_of_link :
    execDownstreamPortContainment t p j none s = settled s t ((s.advance t).containLink p j) := by
  unfold execDownstreamPortContainment
  rw [liveS_eq _ _ _ up, State.advance_linksOf, isLink]
  rfl

theorem execDownstreamPortContainment_of_fatal (b : Nat) (fatal : fatalAer.contains b = true) :
    execDownstreamPortContainment t p j (some b) s =
      settled s t (((s.advance t).portUnc p (linkFn j) b 3).containLink p j) := by
  unfold execDownstreamPortContainment
  rw [liveS_eq _ _ _ up, State.advance_linksOf, isLink]
  exact congrArg (settled s t) (if_pos fatal)

theorem execDpcTriggerStatusClear_of_link : execDpcTriggerStatusClear t p j s = settled s t ((s.advance t).clearDpc p j) :=
  (liveS_eq t s _ up).trans (congrArg (settled s t) (if_pos isLink))

theorem execInboundRequest_of_linkUp (q : InReq) (legal : q.legal = true) (linkUp : s.fld PCIE_LINK.STATE (linkIdx p j) = 2) :
    execInboundRequest t p j q s = settled s t ((s.advance t).inbound p j q) :=
  (liveS_eq t s _ up).trans (congrArg (settled s t) (if_pos ⟨isLink, legal, linkUp⟩))

end

/-- Settles O52: a hold's silence, the time that has passed and the link that is there decide each row. -/
theorem tagsAndRootPorts : Obligations.TagsAndRootPorts :=
  ⟨fun s t p tag r up => execCompletionTimeout_of_late s t up p tag r,
    fun s t p tag x up held =>
      ⟨fun silent noRead => (execLateCompletion_of_noRead s t up p tag true noRead).trans
          (congrArg (settled s t) (State.lateCpl_of_silent (s := s.advance t) held silent)),
        fun loud noRead => (execLateCompletion_of_noRead s t up p tag false noRead).trans
          (congrArg (settled s t) (State.lateCpl_of_loud (s := s.advance t) held loud)),
        execTagQuarantineExpiry_of_passed s t up p tag x held⟩,
    fun s t p j up isLink =>
      ⟨execDownstreamPortContainment_of_link s t up p j isLink, execDownstreamPortContainment_of_fatal s t up p j isLink,
        execDpcTriggerStatusClear_of_link s t up p j isLink, execInboundRequest_of_linkUp s t up p j isLink⟩⟩

/-! ### Configuration requests to an endpoint (R335, R336, R341) -/

/-- A request of 1, 2 or 4 bytes, aligned, to a port that is an endpoint out of its fundamental reset. -/
structure State.ConfigAsked (s : State) (p off n : Nat) : Prop where
  endpoint : s.portRole p = 2
  high : s.pins.epPerst.testBit p = true
  size : [1, 2, 4].contains n = true
  aligned : off % n = 0
  inSpace : off < 4096

section
variable {s : State} {p fn off n : Nat} (asked : s.ConfigAsked p off n)
include asked

theorem State.configAsked_passes :
    ¬ (s.portRole p ≠ 2 ∨ s.pins.epPerst.testBit p = false ∨
      (!([1, 2, 4].contains n && off % n == 0 && decide (off < 4096))) = true) := by
  obtain ⟨endpoint, high, size, aligned, inSpace⟩ := asked
  rw [endpoint, high, size, aligned, decide_eq_true inSpace]
  decide

section
variable (ready : s.fld PCIE_PORT_STATUS.EP_READY p ≠ 0) (noReset : s.inReset p fn = false)
include ready noReset

theorem State.cfgRequest_read (has : s.hasFn p fn = true) :
    s.cfgRequest p fn (.read off n) = s.emit .cfgAnswer [p, fn, off, 0] (s.cfgRead p fn off n) := by
  unfold State.cfgRequest
  dsimp only
  rw [if_neg (State.configAsked_passes asked), if_neg (by simp [ready, noReset]), if_neg (by simp [has])]

theorem State.cfgRequest_write (has : s.hasFn p fn = true) {d : List Byte} (whole : d.length = n) :
    s.cfgRequest p fn (.write off d) = (s.emit .cfgAnswer [p, fn, off, 0]).cfgWrite p fn off d := by
  subst whole
  unfold State.cfgRequest
  dsimp only
  rw [if_neg (State.configAsked_passes asked), if_neg (by simp [ready, noReset]), if_neg (by simp [has])]

/-- R335: without the function, Unsupported Request. -/
theorem State.cfgRequest_unsupported (absent : s.hasFn p fn = false) :
    s.cfgRequest p fn (.read off n) = s.emit .cfgAnswer [p, fn, off, 1] := by
  unfold State.cfgRequest
  dsimp only
  rw [if_neg (State.configAsked_passes asked), if_neg (by simp [ready, noReset]), if_pos absent]

end

/-- R336: before the endpoint is ready, Request Retry Status. -/
theorem State.cfgRequest_retry (unready : s.fld PCIE_PORT_STATUS.EP_READY p = 0) :
    s.cfgRequest p fn (.read off n) = s.emit .cfgAnswer [p, fn, off, 2] := by
  unfold State.cfgRequest
  dsimp only
  rw [if_neg (State.configAsked_passes asked), if_pos (.inl unready)]

end

theorem execEndpointConfigRequest_eq (s : State) (t : Stamp) (up : s.up = true) (p fn : Nat) (q : CfgReq) :
    execEndpointConfigRequest t p fn q s = settled s t ((s.advance t).cfgRequest p fn q) := liveS_eq t s _ up

/-! ### Resets of functions, and bus mastering (R356) -/

section
variable (s : State) (t : Stamp) (up : s.up = true) (p fn : Nat)
include up

section
variable (has : s.hasFn p fn = true) (noReset : s.inReset p fn = false)
include has noReset

theorem execFunctionLevelReset_of_fn : execFunctionLevelReset t p fn false s = settled s t ((s.advance t).flr p fn) :=
  (liveS_eq t s _ up).trans (congrArg (settled s t) (if_neg (by simp [has, noReset])))

theorem execBusMasterEnableClear_of_fn : execBusMasterEnableClear t p fn s = settled s t ((s.advance t).clearBme p fn) :=
  (liveS_eq t s _ up).trans (congrArg (settled s t) (if_pos (by simp [has, noReset])))

theorem execBusMasterEnableSet_of_fn : execBusMasterEnableSet t p fn s = settled s t ((s.advance t).setBme p fn) :=
  (liveS_eq t s _ up).trans (congrArg (settled s t) (if_pos (by simp [has, noReset])))

end

theorem execResetCompletion_of_running (r : FnReset) (runs : s.pcie.resets.find? (fun r => r.port == p && r.fn == fn) = some r) :
    execResetCompletion t p fn s = settled s t ((s.advance t).endReset r) := by
  unfold execResetCompletion
  rw [liveS_eq _ _ _ up, State.advance_pcie, runs]

end

/-! ### The fundamental reset of an endpoint (R336) -/

theorem testBit_withBit_same (x i : Nat) : (withBit x i).testBit i = true := by simp [withBit]

/-- The ports that become ready are noted in PCIE_PORT_STATUS, and nothing else changes. -/
theorem State.portsReady_keeps {β : Type} (g : State → β) (keeps : ∀ r i, g (r.set PCIE_PORT_STATUS.EP_READY i 1) = g r) (s : State) :
    g s.portsReady = g s := by
  refine foldl_keeps g _ (fun r i => ?_) _ s
  split
  · exact keeps r i
  · rfl

/-- R336: port `p`'s link trains with the width, the speed and the mode that its host offers. -/
def State.trainEndpoint (s : State) (p width speed : Nat) (flit : Bool) : State :=
  (((s.set PCIE_LINK.STATE (linkIdx p 0) 2).set PCIE_LINK.WIDTH (linkIdx p 0) width).set PCIE_LINK.SPEED (linkIdx p 0) speed).set
    PCIE_LINK.FLIT (linkIdx p 0) (flag (speed == 6 || flit))

section
variable (s : State) (p width speed : Nat) (flit : Bool)

theorem State.trainEndpoint_state : (s.trainEndpoint p width speed flit).fld PCIE_LINK.STATE (linkIdx p 0) = 2 := by
  unfold State.trainEndpoint
  simp (disch := decide) only [State.fld_set_apart, State.fld_set_same]
  rfl

theorem State.trainEndpoint_width (isWidth : width ≤ 5) :
    (s.trainEndpoint p width speed flit).fld PCIE_LINK.WIDTH (linkIdx p 0) = width := by
  unfold State.trainEndpoint
  simp (disch := decide) only [State.fld_set_apart, State.fld_set_same]
  exact Nat.mod_eq_of_lt (Nat.lt_of_le_of_lt isWidth (by decide))

theorem State.trainEndpoint_speed (isSpeed : speed ≤ 6) :
    (s.trainEndpoint p width speed flit).fld PCIE_LINK.SPEED (linkIdx p 0) = speed := by
  unfold State.trainEndpoint
  simp (disch := decide) only [State.fld_set_apart, State.fld_set_same]
  exact Nat.mod_eq_of_lt (Nat.lt_of_le_of_lt isSpeed (by decide))

end

theorem execEndpointFundamentalReset_of_rising (s : State) (t : Stamp) (up : s.up = true) (p width speed : Nat) (flit : Bool)
    (isPort : p < 8) (low : s.pins.epPerst.testBit p = false) (endpoint : s.portRole p = 2)
    (wide : 1 ≤ width ∧ width ≤ 5) (fast : 1 ≤ speed ∧ speed ≤ 6) :
    execEndpointFundamentalReset t p true width speed flit s =
      settled s t ((((s.advance t).setPerst p true).trainEndpoint p width speed flit).portsReady) := by
  have rises : ¬ (8 ≤ p ∨ (s.advance t).pins.epPerst.testBit p = true) := by simp [isPort, low]
  have stays : ((s.advance t).setPerst p true).portRole p = 2 := by
    rw [State.setPerst, if_neg (Nat.not_le.2 isPort)]
    exact endpoint
  unfold execEndpointFundamentalReset
  rw [if_neg (by simp [up]), liveS_eq _ _ _ up]
  dsimp only
  rw [if_neg rises, if_neg (by simp [stays]), if_pos rfl, if_pos ⟨wide.1, wide.2, fast.1, fast.2⟩]
  rfl

/-- Settles O53: what the endpoint and the function are decides the answer; a port that becomes ready leaves its link as trained. -/
theorem endpointConfigurationAndReset : Obligations.EndpointConfigurationAndReset := by
  refine ⟨fun s t p fn off n up endpoint high size aligned inSpace => ?config,
    fun s t p fn up has noReset => ⟨execFunctionLevelReset_of_fn s t up p fn has noReset,
      execBusMasterEnableClear_of_fn s t up p fn has noReset, execBusMasterEnableSet_of_fn s t up p fn has noReset⟩,
    fun s t p fn r up => execResetCompletion_of_running s t up p fn r,
    fun s t p width speed flit up isPort low endpoint least most slowest fastest => ⟨_,
      execEndpointFundamentalReset_of_rising s t up p width speed flit isPort low endpoint ⟨least, most⟩ ⟨slowest, fastest⟩,
      ?_, ?_, ?_, ?_⟩⟩
  case config =>
    have asked : (s.advance t).ConfigAsked p off n := ⟨endpoint, high, size, aligned, inSpace⟩
    simp only [exec, execEndpointConfigRequest_eq s t up]
    exact ⟨fun ready noReset has => ⟨congrArg _ (State.cfgRequest_read asked ready noReset has),
        fun d whole => congrArg _ (State.cfgRequest_write asked ready noReset has whole)⟩,
      fun unready => congrArg _ (State.cfgRequest_retry asked unready),
      fun ready noReset absent => congrArg _ (State.cfgRequest_unsupported asked ready noReset absent)⟩
  · rw [State.portsReady_keeps State.pins fun _ _ => rfl, State.setPerst, if_neg (Nat.not_le.2 isPort)]
    exact testBit_withBit_same _ p
  · rw [State.portsReady_keeps (fun r => r.fld _ _) fun r i => r.fld_set_otherReg _ _ _ _ _ (by decide), State.trainEndpoint_state]
  · rw [State.portsReady_keeps (fun r => r.fld _ _) fun r i => r.fld_set_otherReg _ _ _ _ _ (by decide),
      State.trainEndpoint_width _ _ _ _ _ most]
  · rw [State.portsReady_keeps (fun r => r.fld _ _) fun r i => r.fld_set_otherReg _ _ _ _ _ (by decide),
      State.trainEndpoint_speed _ _ _ _ _ fastest]

end Sys2Proof.Machine
end

section
/-! The keeper's collection of faults: events, buckets, records and polls (R357, R364 to R367); and its maintenance: the queue of
activities, patrols, scrubs, holds and stalls (R226, R227, R275, R372 to R378). -/

namespace Sys2Proof.Machine

open Sys2Proof.Safety

/-! ### Events and buckets (R357, R365 to R367) -/

theorem msTicks_eq (ms : Nat) : msTicks ms = 4000000 * ms := Nat.mul_comm ..

@[simp] theorem State.advance_elemCfg (s : State) (t : Stamp) (c : Coll) (b e : Nat) :
    (s.advance t).elemCfg c b e = s.elemCfg c b e := rfl

/-- R365: a source's bucket that holds something loses a level for each period that has ended. -/
theorem State.leakSource_of_level (s : State) (c : Coll) (b : Nat) (upto : Stamp) {ms : Nat}
    (level : s.fld FLT_SRC.LEVEL (srcIdx c b) ≠ 0) (period : ms ≠ 0) :
    let i := srcIdx c b
    let n := (upto - nget s.faults.starts i 0) / (4000000 * ms)
    s.leakSource c b upto ms = ({ s with faults := { s.faults with
      starts := nput s.faults.starts i (nget s.faults.starts i 0 + n * (4000000 * ms)) } } : State).set FLT_SRC.LEVEL i
        (s.fld FLT_SRC.LEVEL i - n) := by
  simp only [State.leakSource, if_neg level, leakTo, if_neg period, msTicks_eq]

/-- R366: so does an element's bucket. -/
theorem ElemBucket.leak_of_period (q : ElemBucket) (upto : Stamp) {ms : Nat} (period : ms ≠ 0) :
    q.leak upto ms = { q with
      level := q.level - (upto - q.start) / (4000000 * ms)
      start := q.start + (upto - q.start) / (4000000 * ms) * (4000000 * ms) } := by
  simp only [ElemBucket.leak, leakTo, if_neg period, msTicks_eq]

/-- The bucket of element `x` of the source loses its levels. -/
def State.leakElem (s : State) (c : Coll) (b x : Nat) : State :=
  { s with faults := { s.faults with elems := s.faults.elems.map (fun (q : ElemBucket) =>
    if q.coll = c ∧ q.bit = b ∧ q.elem = x then q.leak (s.stampIn c.home) (s.elemCfg c b x).2 else q) } }

theorem State.leakElem_of_one {s : State} {q : ElemBucket} (only : s.faults.elems = [q]) :
    (s.leakElem q.coll q.bit q.elem).faults.elems =
      [q.leak (s.stampIn q.coll.home) (s.elemCfg q.coll q.bit q.elem).2] := by
  rw [State.leakElem, only]
  exact congrArg (fun q => [q]) (if_pos ⟨rfl, rfl, rfl⟩)

theorem State.elemReport_faults (s : State) (c : Coll) (b : Nat) : (s.elemReport c b).faults = s.faults := rfl

/-- R366: the source reports the level of its only element's bucket. -/
theorem State.fld_elemReport_of_one {s : State} {q : ElemBucket} {c : Coll} {b : Nat} (only : s.faults.elems = [q])
    (own : q.coll = c ∧ q.bit = b) : (s.elemReport c b).fld FLT_SRC.LEVEL (srcIdx c b) = q.level % 65536 := by
  unfold State.elemReport
  dsimp only
  rw [State.fld_set_apart _ _ _ _ _ _ (by decide) (by decide), State.fld_set_same _ _ _ _ (by decide)]
  simp [only, own, FLT_SRC.LEVEL]

section
variable (s : State) (t : Stamp) (up : s.up = true)
include up

theorem execFaultEvent_of_source (e : FaultEvt) (d : Source) (source : e.coll.source e.bit = some d) :
    let q := (s.advance t).unitActs e
    execFaultEvent t e s = settled s t ((q.2.raise q.1).sourceAction e.coll q.1.bit) := by
  unfold execFaultEvent
  rw [liveS_eq _ _ _ up, source]

theorem execBucketLeak_of_source (c : Coll) (b : Nat) (isSource : (c.source b).map Source.elem = some .none) :
    execBucketLeak t c b none s =
      left s t ((s.advance t).leakSource c b ((s.advance t).stampIn c.home) (s.fld FLT_SRC.LEAK_MS (srcIdx c b))) :=
  (live_eq t s _ up).trans (congrArg (left s t) (if_pos isSource))

theorem execBucketLeak_of_elem (c : Coll) (b x : Nat) :
    execBucketLeak t c b (some x) s = left s t (((s.advance t).leakElem c b x).elemReport c b) := live_eq t s _ up

/-! ### Records and polls (R364) -/

section
variable (runs : s.keeper.restarting = none)
include runs

theorem execFaultRecordWrite_of_keeperRuns :
    let rs := s.faults.pend.foldl (fun xs r => insertRec r xs) []
    let a := s.advance t
    execFaultRecordWrite t s = settled s t
      (rs.foldl (fun (r : State) x => r.readSource x.evt.coll x.evt.bit)
        (rs.foldl State.writeRec { a with faults := { a.faults with pend := [] } })) :=
  (liveS_eq t s _ up).trans (congrArg (settled s t) (if_neg (by simp [runs])))

theorem execLatchedSourcePoll_of_keeperRuns :
    execLatchedSourcePoll t s = left s t
      (((s.pollable.map (fun q => s.furtherRec q.1 q.2)).foldl (fun xs r => insertRec r xs) []).foldl State.writeFurther (s.advance t)) :=
  (live_eq t s _ up).trans (congrArg (left s t) (if_neg (by simp [runs])))

end

end

/-- R364: the one busy source is polled where it is latched at DEGRADE or above and no record of it waits. -/
theorem State.pollable_of_one {s : State} {c : Coll} {b : Nat} (busy : s.busySources = [(c, b)]) (latched : s.latched c b = true)
    (severe : 2 ≤ s.latchSev c b) (noneWaits : s.faults.pend.any (fun r => r.evt.coll == c && r.evt.bit == b) = false) :
    s.pollable = [(c, b)] := by
  simp only [State.pollable, busy, List.filter_cons, latched, decide_eq_true severe, noneWaits]
  rfl

/-- Settles O22: a source and an element are single, so that its bucket, its record and its poll are the only ones. -/
theorem faultEventsCollected : Obligations.FaultEventsCollected := by
  refine ⟨fun s t e d up => execFaultEvent_of_source s t up e d, fun s t c b up isSource level period => ?source,
    fun s t c b x q up only isColl isBit isElem _ period => ?elem, execFaultRecordWrite_of_keeperRuns,
    fun s t c b up runs busy latched severe noneWaits => ⟨rfl, rfl, rfl, rfl, rfl, ?_⟩⟩
  case source =>
    exact (execBucketLeak_of_source s t up c b isSource).trans
      (congrArg (left s t) ((s.advance t).leakSource_of_level c b _ level period))
  case elem =>
    subst isColl isBit isElem
    have leaked := State.leakElem_of_one (s := s.advance t) only
    rw [State.advance_elemCfg, ElemBucket.leak_of_period _ _ period] at leaked
    exact ⟨_, execBucketLeak_of_elem s t up q.coll q.bit q.elem, (congrArg Faults.elems (State.elemReport_faults ..)).trans leaked,
      State.fld_elemReport_of_one leaked ⟨rfl, rfl⟩⟩
  · refine (execLatchedSourcePoll_of_keeperRuns s t up runs).trans ?_
    rw [State.pollable_of_one busy latched severe noneWaits]
    rfl

/-! ### Activities (R372 to R378) -/

section
variable (s : State) (t : Stamp) (up : s.up = true)
include up

theorem execMaintQueueWalk_of_keeperRuns (runs : s.keeper.restarting = none) :
    execMaintQueueWalk t s = settled s t (s.advance t).walkQueue :=
  (liveS_eq t s _ up).trans (congrArg (settled s t) (if_neg (by simp [runs])))

theorem execActivityEnd_of_mayEnd (id : Nat) (ok : Bool) (a : Activity) (isActivity : s.activity id = some a)
    (may : (s.advance t).mayEnd a = true) : execActivityEnd t id ok s = settled s t ((s.advance t).endAct a ok) := by
  unfold execActivityEnd
  rw [liveS_eq _ _ _ up, State.advance_activity, isActivity]
  exact congrArg (settled s t) (if_pos may)

theorem execBrickRetirement_of_retiring (b : Nat) (retiring : (lookupKey b s.units.retiring).isSome = true) :
    execBrickRetirement t b s = settled s t ((s.advance t).retireBrick b) :=
  (liveS_eq t s _ up).trans (congrArg (settled s t) (if_pos retiring))

/-! ### Patrols and scrubs (R226, R227, R377) -/

/-- R226: the line is one that controller `c` serves, whose queue is at level 0. -/
theorem execPatrolScrubRead_of_served (n outcome c : Nat) (e : Option Nat) (a : Activity)
    (patrols : s.running.find? (fun a => a.code == 0 && a.node == some n && a.pausers.isEmpty && decide (a.param < s.nodeLines n)) =
      some a)
    (served : (s.memberAt (64 * (slotBase n / 64 + a.param))).bind (fun q => s.server q.1) = some c)
    (quiet : s.fld MC_STATUS.QLEVEL c = 0) :
    execPatrolScrubRead t n outcome e s = settled s t
      (((s.advance t).setAct { a with param := a.param + 1 }).patrolFind c (slotBase n / 64 + a.param) outcome e) := by
  have patrolsNow : (s.advance t).running.find? (fun a => a.code == 0 && a.node == some n && a.pausers.isEmpty &&
      decide (a.param < (s.advance t).nodeLines n)) = some a := patrols
  have servedNow : ((s.advance t).memberAt (64 * (slotBase n / 64 + a.param))).bind (fun q => (s.advance t).server q.1) = some c :=
    served
  unfold execPatrolScrubRead
  rw [liveS_eq _ _ _ up, patrolsNow]
  dsimp only
  rw [servedNow]
  exact congrArg (settled s t) (if_pos quiet)

/-- R377: the pass of an HBM node's patrol. -/
theorem execPatrolPassLate_of_hbm (n : Nat) (a : Activity) (isHbm : n < 4)
    (passes : s.running.find? (fun a => a.code == 0 && a.node == some n && a.pair == 0) = some a)
    (limited : s.fld MEM_NODE.PATROL_H n ≠ 0)
    (late : a.start + s.fld MEM_NODE.PATROL_H n * 21600000000000 ≤ (s.advance t).stb) :
    execPatrolPassLate t n s = settled s t (((s.advance t).setAct { a with pair := 1 }).note41 a.unit) := by
  have passesNow : (s.advance t).running.find? (fun a => a.code == 0 && a.node == some n && a.pair == 0) = some a := passes
  unfold execPatrolPassLate
  rw [liveS_eq _ _ _ up, passesNow]
  exact congrArg (settled s t) ((if_pos ⟨limited, late⟩).trans (if_pos isHbm))

theorem execDemandScrubRewrite_of_oldest (c l : Nat) (r : List Nat) (oldest : nget s.mem.scrub c [] = l :: r)
    (free : s.sharedFree c = true) :
    execDemandScrubRewrite t c s = left s t (((s.advance t).rewrite l).fillQueue (queueOf c)) := by
  unfold execDemandScrubRewrite
  rw [live_eq _ _ _ up, State.advance_mem, oldest]
  exact congrArg (left s t) (if_pos free)

/-! ### Copy holds and deferred stalls (R227, R275) -/

theorem execCopyHoldEnd_of_last (i : Nat) (last : s.crs.holds = [i]) :
    execCopyHoldEnd t i s =
      left s t (({ s.advance t with crs := { s.crs with holds := [] } } : State).set MNT_STATE.COPY_HOLD 0 0) := by
  have noneLeft : (s.advance t).crs.holds.filter (fun x => x != i) = [] := by simp [last]
  unfold execCopyHoldEnd
  rw [live_eq _ _ _ up, noneLeft]
  rfl

theorem execDeferredStall_of_notStalled (i : Nat) (x : Stall) (waits : s.crs.stalls.find? (fun x => x.course == i) = some x)
    (notStalled : (s.advance t).stalledNow i = false) :
    execDeferredStall t i s = settled s t
      (({ s.advance t with crs := { s.crs with stalls := s.crs.stalls.erase x } } : State).lateStall x) := by
  unfold execDeferredStall
  rw [liveS_eq _ _ _ up, State.advance_crs, waits]
  exact congrArg (settled s t) (if_neg (Bool.eq_false_iff.1 notStalled))

end

/-- Settles O24: what runs, is held or waits at the row's stamp is what its operation acts on. -/
theorem maintenanceActivities : Obligations.MaintenanceActivities :=
  ⟨execMaintQueueWalk_of_keeperRuns, fun s t id ok a up => execActivityEnd_of_mayEnd s t up id ok a,
    fun s t b up => execBrickRetirement_of_retiring s t up b,
    fun s t n outcome c e a up => execPatrolScrubRead_of_served s t up n outcome c e a,
    fun s t n a up => execPatrolPassLate_of_hbm s t up n a,
    fun s t c l r up => execDemandScrubRewrite_of_oldest s t up c l r,
    fun s t i up => execCopyHoldEnd_of_last s t up i, fun s t i x up => execDeferredStall_of_notStalled s t up i x⟩

end Sys2Proof.Machine
end

section
/-! Cores that wait, wake and halt: WFI, wakes, clock switches and halt requests, and the CSR instructions (R176, R329, R380 to R382). -/

namespace Sys2Proof.Machine

open Sys2Proof.Safety

@[simp] theorem State.advance_wfiTrap (s : State) (t : Stamp) (h : Nat) : (s.advance t).wfiTrap h = s.wfiTrap h := rfl

theorem State.pc_nextPc_of_ready {s : State} {h : Nat} (ready : s.ready h = true) (n : Nat) :
    ((s.nextPc h n).hart h).pc = (s.hart h).pc + BitVec.ofNat 64 n := by
  obtain ⟨csrs, harts, goesOn, pc⟩ := State.nextPc_eq (State.notHalted_of_ready ready) n
  rw [goesOn]
  exact pc

section
variable (s : State) (t : Stamp) (up : s.up = true) (h : Nat)
include up

/-- R380: a WFI that may wait, of a hart with nothing to wake it when it has gone on. -/
theorem execWfi_of_waits (ready : s.ready h = true) (noTrap : s.wfiTrap h = none)
    (asleep : ((s.advance t).nextPc h 4).wakes h = false) :
    let a := (s.advance t).nextPc h 4
    execWfi t ⟨h, 0x10500073⟩ s =
      settled s t ((a.setHart h { a.hart h with waiting := true }).enterState h (a.idleState h)) := by
  unfold execWfi
  rw [liveS_eq _ _ _ up]
  dsimp only
  rw [State.advance_ready, ready, if_neg (by decide), if_neg (by decide), if_neg (by decide), if_neg (by decide),
    State.advance_wfiTrap, noTrap]
  exact congrArg (settled s t) (if_neg (Bool.eq_false_iff.1 asleep))

/-- R381: a core in service whose block is on and that does not trail, of a waiting hart. -/
theorem execCoreWake_of_waiting (isCore : h < 288) (coreUp : s.coreUp h = true)
    (blockOn : s.fld PWR_DOMAIN.ON (8 * (h / 24) + h % 24 / 4) ≠ 0) (single : s.fld CORE_PAIR.STATE h = 0)
    (notOff : s.fld CORE_PWR.STATE h ≠ 3) (waiting : (s.hart h).waiting = true) (wakes : (s.advance t).wakes h = true) :
    execCoreWake t h s = settled s t (((s.advance t).asPair h).foldl (fun (r : State) k => r.setCorePwr k 0)
      ((s.advance t).setHart h { s.hart h with waiting := false })) :=
  (liveS_eq t s _ up).trans (congrArg (settled s t) ((if_neg (by simp [isCore, coreUp, blockOn, single])).trans
    ((if_neg notOff).trans (if_pos ⟨waiting, wakes⟩))))

theorem execClockSwitch_of_core (isCore : h < 288) :
    execClockSwitch t h s = settled s t ((s.advance t).set CORE_PWR.CLK_SWITCHING h 0) :=
  (liveS_eq t s _ up).trans (congrArg (settled s t) (if_pos isCore))

theorem execCsrAccess_of_ready (ins : Nat) (ready : s.ready h = true) (system : ins % 128 = 0x73) (isCsr : bitsOf ins 12 3 % 4 ≠ 0)
    (isIns : ins < 2 ^ 32) : execCsrAccess t h ins s = settled s t ((s.advance t).csrIns h ins) := by
  have may : (s.advance t).mayAct h = true := State.mayAct_of_ready ready
  exact (liveS_eq t s _ up).trans (congrArg (settled s t) (if_neg (by simpa [may, system, isCsr] using isIns)))

theorem execDebugHaltRequest_of_up (isCore : h < 288) (coreUp : s.coreUp h = true) (notHalted : (s.hart h).halted = false) :
    let k := if s.fld CORE_PAIR.STATE h = 3 then s.fld CORE_PAIR.PARTNER h else h
    execDebugHaltRequest t h s = settled s t ((s.advance t).setHart k { s.hart k with haltPend := true }) :=
  (liveS_eq t s _ up).trans (congrArg (settled s t) (if_neg (by simp [isCore, coreUp, notHalted])))

end

/-- Settles O55: each core's conditions hold at its row's stamp; a hart that goes on past WFI is 4 bytes on. -/
theorem coresWaitAndHalt : Obligations.CoresWaitAndHalt :=
  ⟨fun s t h up ready noTrap _ asleep =>
      ⟨execWfi_of_waits s t up h ready noTrap asleep, State.pc_nextPc_of_ready (s := s.advance t) ready 4⟩,
    fun s t h up => execCoreWake_of_waiting s t up h, fun s t c up => execClockSwitch_of_core s t up c,
    fun s t h ins up => execCsrAccess_of_ready s t up h ins, fun s t h up => execDebugHaltRequest_of_up s t up h⟩

end Sys2Proof.Machine
end

section
/-! Power domains and sleep (R383 to R388); rails and capping (R390, R391, R394, R395). -/

namespace Sys2Proof.Machine

open Sys2Proof.Safety

/-! ### What an operation leaves of the power manager's own state -/

theorem FaultOnly.pow {s r : State} (h : FaultOnly s r) : r.pow = s.pow := by
  obtain ⟨_, _, _, _, _, rfl, _⟩ := h
  rfl

theorem State.repin_faultOnly (s : State) (c : Coll) : FaultOnly s (s.repin c) := by
  unfold State.repin
  split
  · exact .refl s
  · exact ((FaultOnly.refl s).setBit ..).driveAll ..

@[simp] theorem State.restartBanks_pow (s : State) (banks : List Nat) : (s.restartBanks banks).pow = s.pow := by
  refine foldl_keeps State.pow _ (fun r b => ?_) _ s
  exact foldl_keeps State.pow _ (by intros; rfl) _ (r.bump CTR_BANK.RESTARTS b)

@[simp] theorem State.refreshHold_pow (s : State) (bb : Nat) : (s.refreshHold bb).pow = s.pow := rfl

@[simp] theorem State.domainOn_pow (s : State) (i : Nat) : (s.domainOn i).pow = s.pow := by
  unfold State.domainOn
  rw [(State.repin_faultOnly _ _).pow]
  split
  · rw [State.refreshHold_pow, State.restartBanks_pow, State.set_pow]
  · rw [State.restartBanks_pow, State.set_pow]

@[simp] theorem State.setReady_pow (s : State) (on : Bool) : (s.setReady on).pow = s.pow := by
  have readied : ((List.range 64).foldl (fun (s : State) m =>
      if s.fld MBX_CFG.PATH m = 3 then s else s.set MBX_STATUS.READY m (flag on)) s).pow = s.pow := by
    refine foldl_keeps State.pow _ (fun r m => ?_) _ s
    split <;> rfl
  unfold State.setReady
  dsimp only
  split
  · rw [State.portsReady_keeps State.pow fun _ _ => rfl, readied]
  · exact readied

@[simp] theorem State.dropAccesses_pow (s : State) (h : Nat) : (s.dropAccesses h).pow = s.pow := by
  refine foldl_keeps State.pow _ (fun r w => ?_) _ s
  split
  · unfold State.returnFrame
    dsimp only
    split <;> rfl
  · rfl

@[simp] theorem State.wipeHart_pow (s : State) (h : Nat) : (s.wipeHart h).pow = s.pow := by
  simp [State.wipeHart, State.clearTlb]

@[simp] theorem State.startCore_pow (s : State) (c : Nat) (pll : Bool) : (s.startCore c pll).pow = s.pow := by
  simp [State.startCore, State.setCorePwr]

@[simp] theorem State.linkTrained_pow (s : State) (x : Trained) : (s.linkTrained x).pow = s.pow := by
  unfold State.linkTrained
  dsimp only
  split <;> rfl

/-! ### Domains and idling (R383 to R387) -/

@[simp] theorem State.advance_domainThere (s : State) (t : Stamp) (i : Nat) : (s.advance t).domainThere i = s.domainThere i := rfl
@[simp] theorem State.advance_domainHeld (s : State) (t : Stamp) (i : Nat) : (s.advance t).domainHeld i = s.domainHeld i := rfl

section
variable (s : State) (t : Stamp) (up : s.up = true)
include up

theorem execDomainOff_of_notHeld (i : Nat) (there : s.domainThere i = true) (on : s.is PWR_DOMAIN.ON i = true)
    (notHeld : s.domainHeld i = false) : execDomainOff t i s = settled s t ((s.advance t).domainOff i) :=
  (liveS_eq t s _ up).trans (congrArg (settled s t) (if_pos (by simp [there, on, notHeld])))

/-- R383: a region comes ON by itself; the domain of a block brings its region with it. -/
theorem execDomainOn_of_heldRegion (i : Nat) (region : 136 ≤ i) (there : s.domainThere i = true) (off : s.fld PWR_DOMAIN.ON i = 0)
    (held : s.domainHeld i = true) (awake : s.pow.eclipse = false) (notTriggered : s.nf.triggered = false) :
    execDomainOn t i s = settled s t ((s.advance t).domainOn i) := by
  unfold execDomainOn
  rw [liveS_eq _ _ _ up, if_pos (by simp [there, off, held, awake, notTriggered])]
  exact congrArg (fun r : State => settled s t (r.domainOn i)) (if_neg (fun block => Nat.not_lt.2 region block.1))

theorem execIdleEntry_eq : execIdleEntry t s = settled s t (s.advance t).enterIdle := liveS_eq t s _ up

/-! ### ECLIPSE (R386 to R388) -/

theorem execEclipseEntry_of_may (may : (s.advance t).mayEclipse = true) (tick : (s.advance t).stb % 1024 = 0)
    (awake : s.pow.eclipse = false) (notTriggered : s.nf.triggered = false) :
    let a := (eclipseOff.filter (fun i => s.is PWR_DOMAIN.ON i)).foldl State.domainOff (s.advance t)
    execEclipseEntry t s = settled s t
      ((({ a with pow := { a.pow with eclipse := true } }).endIdle).setReady false) :=
  (liveS_eq t s _ up).trans (congrArg (settled s t) (if_pos ⟨may, tick, awake, notTriggered⟩))

/-- R388: the state of a package that wakes, before the package's own vote is set again. -/
def State.awakened (s : State) (i3c : Bool) (trained : List Trained) : State :=
  let w := (s.set PPM_STATUS.WAKE_CAUSE 0 (if i3c then 2 else 1)).emit .smbusNack [flag i3c]
  let a : State := { w with pow := { w.pow with eclipse := false, quiet := 0 } }
  let on := ((eclipseOff.filter a.domainThere).foldl State.domainOn a).setReady true
  let cores := (List.range 288).filter (fun c => on.coreUp c && on.fld CORE_PAIR.STATE c != 3)
  trained.foldl State.linkTrained (cores.foldl (fun (s : State) c => s.startCore c false) on)

theorem execEclipseWake_of_eclipse (i3c : Bool) (trained : List Trained) (asleep : s.pow.eclipse = true)
    (notTriggered : s.nf.triggered = false) :
    execEclipseWake t i3c trained s =
      settled s t (((s.advance t).awakened i3c trained).set PWR_DOMAIN.PACKAGE_VOTE 152 1) :=
  (liveS_eq t s _ up).trans (congrArg (settled s t) (if_pos ⟨asleep, notTriggered⟩))

end

theorem State.awakened_eclipse (s : State) (i3c : Bool) (trained : List Trained) : (s.awakened i3c trained).pow.eclipse = false := by
  unfold State.awakened
  extract_lets w night a on cores
  have links := foldl_keeps State.pow State.linkTrained State.linkTrained_pow trained
  have started := foldl_keeps State.pow (fun (s : State) c => s.startCore c false) (fun r c => r.startCore_pow c false) cores on
  have domainsOn := foldl_keeps State.pow State.domainOn State.domainOn_pow (eclipseOff.filter a.domainThere) a
  rw [links, started, State.setReady_pow, domainsOn]

/-- Settles O56: a domain's holders, and the package's own state, decide each row; nothing that a wake starts enters ECLIPSE again. -/
theorem domainsAndSleep : Obligations.DomainsAndSleep :=
  ⟨fun s t i up => execDomainOff_of_notHeld s t up i, fun s t i up => execDomainOn_of_heldRegion s t up i, execIdleEntry_eq,
    execEclipseEntry_of_may, fun s t i3c trained up asleep notTriggered =>
      ⟨_, execEclipseWake_of_eclipse s t up i3c trained asleep notTriggered,
        State.fld_set_same _ PWR_DOMAIN.PACKAGE_VOTE 152 1 (by decide), State.awakened_eclipse ..⟩⟩

/-! ### Rails and polls (R390, R391) -/

/-- What the power manager does to the state it is given is all that its step depends on. -/
theorem State.thermal_congr {s : State} {f g : State → State} (same : f s = g s) : s.thermal f = s.thermal g := by
  unfold State.thermal
  rw [same]

/-- R394: a cap that both rails' voltages permit to rise needs no rail. -/
theorem State.liftCap_of_permitted (s : State) (key cause : Nat) (ds : List Nat)
    (permitted : ∀ r < 2, (s.raiseFc cause ds).railCommitted r (fun _ => true) ≤ (s.rail r).level) :
    s.liftCap key cause ds =
      { s.raiseFc cause ds with
        pow := { (s.raiseFc cause ds).pow with
          cool := nput (s.raiseFc cause ds).pow.cool key (nget s.pow.cool key 0 + msTicks 100) } } := by
  have noneNeeded : s.needsRail (s.raiseFc cause ds) = [] := by
    simp [State.needsRail, permitted 0 (by decide), permitted 1 (by decide)]
  unfold State.liftCap
  dsimp only
  rw [noneNeeded]

section
variable (s : State) (t : Stamp) (up : s.up = true)
include up

theorem execAvsbusAcknowledgement_eq (r : Nat) :
    execAvsbusAcknowledgement t r s = settled s t ((s.advance t).thermal (fun x => x.railAck r)) := liveS_eq t s _ up

theorem execAvsbusTimeout_eq (r : Nat) :
    execAvsbusTimeout t r s = settled s t ((s.advance t).thermal (fun x => x.railLate r)) := liveS_eq t s _ up

theorem execAvsbusRetry_eq (r : Nat) :
    execAvsbusRetry t r s = settled s t ((s.advance t).thermal (fun x => x.railRetry r)) := liveS_eq t s _ up

theorem execPmbusPoll_of_notTriggered (regs : List RegStatus) (vin : Nat) (notTriggered : s.nf.triggered = false) :
    execPmbusPoll t regs vin s = settled s t (((s.advance t).emit .pmbus [vin]).poll regs vin) :=
  (liveS_eq t s _ up).trans (congrArg (settled s t) (if_neg (Bool.eq_false_iff.1 notTriggered)))

/-! ### Capping (R394, R395) -/

/-- A row of the power manager whose operation at the row's stamp is `g`. -/
theorem liveS_thermal_of {f g : State → State} (same : f (s.advance t) = g (s.advance t)) :
    liveS t s (fun s => s.thermal f) = settled s t ((s.advance t).thermal g) :=
  (liveS_eq t s _ up).trans (congrArg (settled s t) (State.thermal_congr same))

theorem execJunctionCapping_of_brick (die : Nat) (brick : die < 12) (hot : (s.advance t).heldFor s.pow.hot die (msTicks 1) = true) :
    execJunctionCapping t die s =
      settled s t ((s.advance t).thermal (fun x => x.capStep die 0 33 (msTicks 1) (brickDomains die))) :=
  liveS_thermal_of s t up ((if_pos ⟨Nat.lt_succ_of_lt brick, hot⟩).trans (if_neg (Nat.ne_of_lt brick)))

theorem execLidCapping_of_hot (hot : (s.advance t).heldFor s.pow.hot 16 (msTicks 1) = true) :
    execLidCapping t s = settled s t ((s.advance t).thermal (fun x => x.capStep 16 1 34 (msTicks 1) domains)) :=
  liveS_thermal_of s t up (if_pos hot)

theorem execRegulatorCapping_of_warned (r : Nat) (regulator : r < 2) (warned : s.pow.warn.contains r = true)
    (hot : (s.advance t).heldFor s.pow.hot (32 + r) 0 = true) :
    execRegulatorCapping t r s = settled s t ((s.advance t).thermal (fun x =>
      { x.lowerFc 2 (railDomains r) with
        pow := { (x.lowerFc 2 (railDomains r)).pow with
          hot := nput (x.lowerFc 2 (railDomains r)).pow.hot (32 + r) (x.stb + msTicks 10) } })) :=
  liveS_thermal_of s t up (if_pos ⟨regulator, warned, hot⟩)

theorem execCappingLift_of_coolLid (cool : (s.advance t).heldFor s.pow.cool 16 (msTicks 100) = true) :
    execCappingLift t 1 0 s = settled s t ((s.advance t).thermal (fun x => x.liftCap 16 1 domains)) :=
  liveS_thermal_of s t up (if_pos cool)

theorem execThermalTrip_of_burning (die : Nat) (isDie : die < 13) (burning : 110 * 16 ≤ celsius16 (nget s.pow.temps die 0))
    (released : s.pins.thermtripN = true) :
    execThermalTrip t die s = settled s t
      (({ s.advance t with pins := { s.pins with thermtripN := false } } : State).raise { coll := .chip, bit := 36 }) :=
  (liveS_eq t s _ up).trans (congrArg (settled s t) (if_pos ⟨isDie, burning, released⟩))

end

/-- Settles O57: each limit has been held long enough at its row's stamp, and the power manager's step is its operation there. -/
theorem railsAndCapping : Obligations.RailsAndCapping :=
  ⟨fun s t up => ⟨fun r => ⟨execAvsbusAcknowledgement_eq s t up r, execAvsbusTimeout_eq s t up r, execAvsbusRetry_eq s t up r⟩,
      execPmbusPoll_of_notTriggered s t up⟩,
    fun s t die up => execJunctionCapping_of_brick s t up die, execLidCapping_of_hot,
    fun s t r up => execRegulatorCapping_of_warned s t up r, execCappingLift_of_coolLid,
    fun x => x.liftCap_of_permitted 16 1 domains, fun s t die up => execThermalTrip_of_burning s t up die⟩

end Sys2Proof.Machine
end

section
/-! Nightfall: its trigger, the save and its end, and the shadow (R397 to R404, R408); and the start of the package (R428, R431, R433,
R440). -/

namespace Sys2Proof.Machine

open Sys2Proof.Safety

/-! ### The trigger (R397 to R400) -/

theorem withBit_mod_ne_zero {x i w : Nat} (inWord : i < w) : withBit x i % 2 ^ w ≠ 0 := by
  intro zero
  have isSet : (withBit x i % 2 ^ w).testBit i = true := by simp [Nat.testBit_mod_two_pow, inWord, withBit]
  simp [zero] at isSet

section
variable (s : State) (cause : Nat)

theorem State.noteTrigger_nf : (s.noteTrigger cause).nf = s.nf := by
  unfold State.noteTrigger
  dsimp only [State.set_nf]
  rfl

theorem State.noteTrigger_nfActiveN : (s.noteTrigger cause).pins.nfActiveN = false := rfl

theorem State.fld_noteTrigger_cause (isCause : cause ≤ 3) : (s.noteTrigger cause).fld NF_STATUS.CAUSE 0 = cause := by
  unfold State.noteTrigger
  simp (disch := decide) only [State.fld_set_other, State.fld_set_same]
  exact Nat.mod_eq_of_lt (Nat.lt_succ_of_le isCause)

theorem State.fld_noteTrigger_trigger : (s.noteTrigger cause).fld NF_STATUS.TRIGGER 0 = s.stb % 2 ^ 64 := by
  unfold State.noteTrigger
  simp (disch := decide) only [State.fld_set_other, State.fld_set_same]
  rfl

theorem State.fld_noteTrigger_halt : (s.noteTrigger cause).fld NF_STATUS.HALT 0 = s.stb % 2 ^ 64 := by
  unfold State.noteTrigger
  simp (disch := decide) only [State.fld_set_other, State.fld_set_same]
  rfl

theorem State.fld_noteTrigger_stage : (s.noteTrigger cause).fld NF_STATUS.STAGE 0 = 5 := by
  unfold State.noteTrigger
  rw [State.fld_set_same _ _ _ _ (by decide)]
  rfl

/-- R397: of those that hold FAULT_N, Nightfall is bit 1; no field of NF_STATUS is of CHIP_SAFE. -/
theorem State.fld_noteTrigger_faultNBy :
    (s.noteTrigger cause).fld CHIP_SAFE.FAULT_N_BY 0 = withBit (s.fld CHIP_SAFE.FAULT_N_BY 0) 1 % 2 ^ 3 := by
  unfold State.noteTrigger
  simp (disch := decide) only [State.fld_set_otherReg]
  exact State.fld_set_same _ CHIP_SAFE.FAULT_N_BY 0 _ (by decide)

theorem State.noteTrigger_faultN : (s.noteTrigger cause).pins.faultN = false := by
  have held := State.fld_set_same s CHIP_SAFE.FAULT_N_BY 0 (withBit (s.fld CHIP_SAFE.FAULT_N_BY 0) 1) (by decide)
  exact beq_false_of_ne (held.trans_ne (withBit_mod_ne_zero (by decide)))

end

/-! ### The fence and the save (R400, R403, R408) -/

@[simp] theorem State.fenceAll_nf (s : State) : s.fenceAll.nf = s.nf := by
  unfold State.fenceAll
  dsimp only
  rw [foldl_keeps State.nf _ (by intros; rfl), foldl_keeps State.nf _ (by intros; rfl), foldl_keeps State.nf _ (by intros; rfl)]

@[simp] theorem State.fenceAll_pins (s : State) : s.fenceAll.pins = s.pins := by
  unfold State.fenceAll
  dsimp only
  rw [foldl_keeps State.pins _ (by intros; rfl), foldl_keeps State.pins _ (by intros; rfl), foldl_keeps State.pins _ (by intros; rfl)]

/-- NF_ACTIVE_N is released. -/
def State.nfReleased (s : State) : State := { s with pins := { s.pins with nfActiveN := true } }

@[simp] theorem State.nfReleased_nf (s : State) : s.nfReleased.nf = s.nf := rfl
@[simp] theorem State.nfReleased_fld (s : State) (F : Fld) (i : Nat) : s.nfReleased.fld F i = s.fld F i := rfl
@[simp] theorem State.nfReleased_nfActiveN (s : State) : s.nfReleased.pins.nfActiveN = true := rfl

/-- The save writes slot `k`. -/
def State.writingTo (s : State) (k : Nat) : State := { s with nf := { s.nf with writing := some k } }

@[simp] theorem State.writingTo_writing (s : State) (k : Nat) : (s.writingTo k).nf.writing = some k := rfl
@[simp] theorem State.writingTo_imageIn (s : State) (k j : Nat) : (s.writingTo k).imageIn j = s.imageIn j := rfl
@[simp] theorem State.writingTo_pins (s : State) (k : Nat) : (s.writingTo k).pins = s.pins := rfl

section
variable {s : State} (cause : Nat)

/-- R403: without an armed store and a free slot no image is written, and NF_ACTIVE_N is released. -/
theorem State.noSave_fenceAndSave (noSave : s.is NF_STATUS.ARMED 0 = false ∨ s.freeSlot = none) :
    (s.fenceAndSave cause).nf = s.nf ∧ (s.fenceAndSave cause).fld NF_STATUS.STAGE 0 = 7 ∧
      (s.fenceAndSave cause).pins.nfActiveN = true := by
  have fences : s.fenceAndSave cause = (s.fenceAll.set NF_STATUS.STAGE 0 7).nfReleased := by
    unfold State.fenceAndSave
    split
    next armed free => simp [armed, free] at noSave
    next => rfl
  rw [fences, State.nfReleased_nf, State.nfReleased_fld, State.nfReleased_nfActiveN, State.set_nf, State.fenceAll_nf,
    State.fld_set_same _ _ _ _ (by decide)]
  exact ⟨rfl, rfl, rfl⟩

/-- R400, R408: the image of what the package holds begins to be written in the free slot, and the pins wait for its end. -/
theorem State.save_fenceAndSave {k : Nat} (armed : s.is NF_STATUS.ARMED 0 = true) (free : s.freeSlot = some k) :
    (s.fenceAndSave cause).nf.writing = some k ∧ (s.fenceAndSave cause).imageIn k = some (s.imageNow k cause) ∧
      (s.fenceAndSave cause).pins = s.pins := by
  have saves : s.fenceAndSave cause = (s.fenceAll.putImage (s.imageNow k cause)).writingTo k := by
    unfold State.fenceAndSave
    rw [armed, free]
    rfl
  rw [saves, State.writingTo_writing, State.writingTo_imageIn, State.writingTo_pins, State.putImage_pins, State.fenceAll_pins]
  exact ⟨rfl, State.imageIn_putImage_same _ (s.imageNow k cause), rfl⟩

end

section
variable (s : State) (t : Stamp) (up : s.up = true)
include up

theorem execNightfallTrigger_of_cause (cause : Nat) (notTriggered : s.nf.triggered = false) (least : 0 < cause) (most : cause ≤ 3) :
    execNightfallTrigger t cause s = settled s t (((s.advance t).haltAll.noteTrigger cause).fenceAndSave cause) := by
  have qualified : ¬ ((s.advance t).nf.triggered = true ∨ cause = 0 ∨ 3 < cause) := by
    simp [notTriggered, Nat.ne_of_gt least, most]
  exact (liveS_eq t s _ up).trans (congrArg (settled s t) (if_neg qualified))

theorem execSaveComplete_of_writing (im : Image) (writes : s.nf.writing.bind s.imageIn = some im) :
    let a := (s.advance t).putImage { im with state := 2, stop := (s.advance t).stb, parts := 0x3F, crcOk := 0x7F }
    execSaveComplete t s = settled s t
      ((({ a with nf := { a.nf with writing := none }, pins := { a.pins with nfActiveN := true } }).set
        NF_STATUS.STAGE 0 7).refreshHeld) := by
  have writesNow : (s.advance t).nf.writing.bind (s.advance t).imageIn = some im := writes
  unfold execSaveComplete
  rw [liveS_eq _ _ _ up, writesNow]

/-- R404: what memory holds of the listed ranges. -/
def State.listedCells (s : State) : NMap Byte :=
  s.mem.cells.filter (fun q => s.nf.ranges.any (fun x => decide (x.1 ≤ q.1) && decide (q.1 < x.1 + x.2)))

theorem execShadowLoadDone_of_loading (loading : s.is NF_STATUS.SHADOW_READY 0 = false) (notTriggered : s.nf.triggered = false) :
    execShadowLoadDone t s = settled s t
      (({ s.advance t with nf := { s.nf with shadow := s.listedCells } } : State).set NF_STATUS.SHADOW_READY 0 1) :=
  (liveS_eq t s _ up).trans (congrArg (settled s t) (if_neg (by simp [loading, notTriggered])))

end

/-- Settles O58: what the trigger notes is read back, and the store's arming and its free slot decide what the fence is followed by. -/
theorem nightfallSaves : Obligations.NightfallSaves := by
  refine ⟨fun s t cause up notTriggered least most => ⟨execNightfallTrigger_of_cause s t up cause notTriggered least most,
      State.fld_noteTrigger_cause _ cause most, State.fld_noteTrigger_trigger _ cause, State.fld_noteTrigger_halt _ cause,
      State.fld_noteTrigger_stage _ cause, ?_, State.noteTrigger_nfActiveN _ cause, State.noteTrigger_faultN _ cause,
      State.noteTrigger_nf _ cause, fun noSave => ?noSave, fun k armed free => ?save⟩,
    fun s t im up => execSaveComplete_of_writing s t up im,
    fun s t up loading notTriggered => ⟨_, execShadowLoadDone_of_loading s t up loading notTriggered,
      State.fld_set_same _ NF_STATUS.SHADOW_READY 0 1 (by decide), rfl, rfl⟩⟩
  · rw [State.fld_noteTrigger_faultNBy, Nat.testBit_mod_two_pow, testBit_withBit_same]
    rfl
  case noSave =>
    obtain ⟨keepsNf, stage, released⟩ := State.noSave_fenceAndSave cause noSave
    exact ⟨keepsNf.trans (State.noteTrigger_nf _ cause), stage, released⟩
  case save =>
    obtain ⟨writes, image, keepsPins⟩ := State.save_fenceAndSave cause armed free
    exact ⟨writes, image, (congrArg Pins.nfActiveN keepsPins).trans (State.noteTrigger_nfActiveN _ cause)⟩

/-! ### The start (R428, R431, R433, R440) -/

section
variable (s : State) (t : Stamp) (x : Start) (off : s.up = false) (released : s.pins.thermtripN = true)
include off released

theorem execStartUp_of_image (i : Nat) (fallback : Bool) (verifies : chooseImage x.board = some (i, fallback)) :
    let a : State := { (s.latchStraps x.board) with
      stb := t, up := true, board := some x.board, fw := { s.fw with flash := x.board.flash }, pins := { s.pins with faultN := true } }
    execStartUp t x s = .next (a.bounded (a.startFrom x i fallback).settle) := by
  unfold execStartUp
  rw [if_neg (by simp [off, released]), verifies]

theorem execStartUp_of_noImage (noImage : chooseImage x.board = none) :
    execStartUp t x s = .next { (s.latchStraps x.board).set BOOT_STATUS.STEP 0 1 with pins := { s.pins with faultN := false } } := by
  unfold execStartUp
  rw [if_neg (by simp [off, released]), noImage]

end

/-- Settles O60: whether an image verifies decides what starts. -/
theorem startUp : Obligations.StartUp :=
  ⟨fun s t x i fallback off released => execStartUp_of_image s t x off released i fallback,
    fun s t x off released noImage => ⟨_, execStartUp_of_noImage s t x off released noImage, off, rfl,
      (s.latchStraps x.board).fld_set_same BOOT_STATUS.STEP 0 1 (by decide)⟩⟩

end Sys2Proof.Machine
end
